-- ==== Sys2Proof/Word.lean ====
section
/-! DEFINITION. The numbered things of the KC-16 (00_scope.md, "Figures shared by all chapters") and its byte. -/

namespace Sys2Proof

/-- One byte of the exchange area or of a radio frame. -/
abbrev Byte := BitVec 8

/-- A 32-bit register value as the APB port carries it. -/
abbrev Word := BitVec 32

/-- A carrier number, 0..255: site × 16 + sector × 4 + slot. -/
abbrev Carrier := Fin 256

/-- A cell site, 0..15, with its lane and its radio channel. -/
abbrev Site := Fin 16

/-- A directive slot, 0..31. -/
abbrev Slot := Fin 32

/-- A night window, 0..7. -/
abbrev WindowNo := Fin 8

/-- All carriers in ascending number. -/
def carriers : List Carrier := List.finRange 256

/-- All sites in ascending number. -/
def sites : List Site := List.finRange 16

/-- All windows in ascending number. -/
def windowNos : List WindowNo := List.finRange 8

end Sys2Proof
end

