-- ==== Sys2Proof/Syntax.lean ====
section
/-! DEFINITION. The commands of the block: one constructor per row of spec/opcode_table.json, in the table's order. -/

namespace Sys2Proof

/-- The parts of one minute event that the spec lets fall in any order (R38, R154, R161): the evaluation of one
window, the countdowns of all contexts, and the night accounting of all carriers. -/
inductive MinutePart where
  | window (w : WindowNo)
  | countdown
  | accounting
deriving DecidableEq, Repr

/-- One command: a register write, an answer of the shared memory, a frame or link report of the radio interface, a pulse
of the clock, or an event that the part raises itself. -/
inductive Instr where
  /-- POWER_ON_RESET (R22): the power-on reset input. -/
  | powerOnReset
  /-- XBASE_WRITE (R1): a full-strobe write of the value to XBASE. -/
  | xbaseWrite (value : Word)
  /-- RUN (R182, R184): code 1 written to RUNCTL. -/
  | run
  /-- HOLD (R184): code 2 written to RUNCTL. -/
  | hold
  /-- RELEASE (R185): code 3 written to RUNCTL. -/
  | release
  /-- HALT (R187): code 4 written to RUNCTL. -/
  | halt
  /-- SWEEP_NOW (R69): code 5 written to RUNCTL. -/
  | sweepNow
  /-- RUNCTL_INVALID_CODE (R17): code 0, 6 or 7 written to RUNCTL. -/
  | runctlInvalidCode (code : BitVec 3)
  /-- NOTE_WRITE (R18): a full-strobe write of the value to NOTE. -/
  | noteWrite (value : Word)
  /-- NOTEEN_WRITE (R19): a full-strobe write of the value to NOTEEN. -/
  | noteenWrite (value : Word)
  /-- REGISTER_WRITE_IGNORED (R16): a write that the port ignores. -/
  | registerWriteIgnored (offset : Nat) (value : Word) (strobes : BitVec 4)
  /-- MEMORY_ACCESS_COMPLETE (R5): the answer to the access of that number arrives, with the data of a read. -/
  | memoryAccessComplete (access : Nat) (data : List Byte)
  /-- MEMORY_ACCESS_ERROR (R6): the access of that number gets an error response. -/
  | memoryAccessError (access : Nat)
  /-- MEMORY_ACCESS_TIMEOUT (R5): 50 µs have passed since the outstanding access was issued. -/
  | memoryAccessTimeout
  /-- SWEEP_TIMER_EXPIRY (R68): the sweep down-count reaches 0. -/
  | sweepTimerExpiry
  /-- SWEEP_BEGIN (R70): the pending sweep begins. -/
  | sweepBegin
  /-- LOAD_POLICY (R171): the policy block and window table that have been read are applied. The operand orders the
  windows that it disables (log 7). -/
  | loadPolicy (order : List WindowNo)
  /-- LOAD_CARRIERS (R172): the execution goes on over at most count carrier numbers. -/
  | loadCarriers (count : Nat)
  /-- SET_CLOCK (R173). -/
  | setClock
  /-- HOLD_ON (R174): the execution goes on over at most count carrier numbers. -/
  | holdOn (count : Nat)
  /-- RELEASE_HOLD (R175): the execution goes on over at most count carrier numbers. -/
  | releaseHold (count : Nat)
  /-- SLEEP_NOW (R176): the execution goes on over at most count carrier numbers. -/
  | sleepNow (count : Nat)
  /-- PROBE (R177): the execution goes on over at most count carrier numbers. -/
  | probe (count : Nat)
  /-- CLEAR_TALLY (R179). -/
  | clearTally
  /-- DIRECTIVE_UNKNOWN_KIND (R170): a taken directive whose kind names none of the eight. -/
  | directiveUnknownKind
  /-- DECISION_VISIT (R102): the decision pass visits the next carrier number. -/
  | decisionVisit
  /-- HUNDRED_MS_TICK (R123): the 100 ms divider wraps. -/
  | hundredMsTick
  /-- WANT_WAIT_EXPIRY (R123): the wait of the carrier's want has reached 0 and its lane tests for a grant. -/
  | wantWaitExpiry (carrier : Carrier)
  /-- COMMAND_TIMEOUT (R137): the time left of the channel's live command has reached 0. -/
  | commandTimeout (site : Site)
  /-- LANE_GRANT (R127): the lane grants a want. -/
  | laneGrant (site : Site)
  /-- RADIO_REPLY (R139): the radio interface delivers one unit of bytes to the channel. -/
  | radioReply (site : Site) (frame : List Byte)
  /-- LINK_UP (R150): the interface reports the channel's link up. -/
  | linkUp (site : Site)
  /-- LINK_DOWN (R149): the interface reports the channel's link down. -/
  | linkDown (site : Site)
  /-- CIVIL_CLOCK_SECOND (R153): the sub-second divider completes a second. -/
  | civilClockSecond
  /-- MINUTE_EVENT (R154): the minute event that the seconds carry raised is taken, its parts in the order given. -/
  | minuteEvent (order : List MinutePart)
deriving DecidableEq, Repr

end Sys2Proof
end

