-- ==== Sys2Proof/Decode.lean ====
section
/-! DEFINITION. The command that a word spells. The KC-16's table gives no row any bits, so no word spells a command. -/

namespace Sys2Proof

/-- The command that an nbits-bit word spells by the table's bits: none, since no row of the table has bits. -/
def decodeTableWord (_nbits _w : Nat) : Option Instr := none

end Sys2Proof
end

