-- ==== Sys2Proof/Config.lean ====
section
/-! DEFINITION. Values that the spec leaves open and the model keeps free. -/

namespace Sys2Proof

/-- FREE VALUE (log 6). The order in which the blocks take the n-th internal event that needs one: the parts of a
minute event (R38, R154, R161). It has no body that anything can evaluate. -/
opaque Config.minuteOrder : Nat → List MinutePart

/-- FREE VALUE (log 7). The order in which a LOAD_POLICY taken as the n-th internal event settles the windows (R165). -/
opaque Config.windowOrder : Nat → List WindowNo

end Sys2Proof
end

