-- ==== Sys2Proof/Machine/Operands.lean ====
section
/-! DEFINITION. Carrier numbers taken apart, counts, little-endian bytes, radio frames, and the command that an APB
write is. -/

namespace Sys2Proof.Machine

/-- A carrier's site is the high hexadecimal digit of its number (00_scope.md, "Carrier numbers"). -/
def siteOf (c : Carrier) : Site := ⟨c.val / 16, by have := c.isLt; omega⟩

/-- A carrier's sector, 0..3. -/
def sectorOf (c : Carrier) : Nat := c.val / 4 % 4

/-- A carrier's slot within its sector, 0..3. -/
def slotOf (c : Carrier) : Nat := c.val % 4

/-- A count that rises by one and saturates at its limit. -/
def bump (limit n : Nat) : Nat := min limit (n + 1)

/-- A counter of the given size that rises by one and wraps to 0 past its top value. -/
def wrapUp (size n : Nat) : Nat := (n + 1) % size

/-- ceil (n ÷ d). -/
def ceilDiv (n d : Nat) : Nat := (n + d - 1) / d

/-- v held within lo..hi. -/
def clamp (lo hi v : Nat) : Nat := max lo (min hi v)

/-- Byte i of a record, as a number. -/
def byteAt (b : List Byte) (i : Nat) : Nat := (b.getD i 0#8).toNat

/-- The two-byte little-endian field at offset i. -/
def le16 (b : List Byte) (i : Nat) : Nat := byteAt b i + 256 * byteAt b (i + 1)

/-- v as width bytes, little-endian. -/
def leBytes : (width v : Nat) → List Byte
  | 0, _ => []
  | w + 1, v => BitVec.ofNat 8 v :: leBytes w (v / 256)

/-- n reserved bytes, written as 0 (R191). -/
def zeros (n : Nat) : List Byte := List.replicate n 0#8

/-- The sum of a frame's bytes. -/
def byteSum (b : List Byte) : Nat := (b.map BitVec.toNat).sum

/-- The check byte that brings a frame's sum to a multiple of 256 (R192). -/
def checkByte (b : List Byte) : Byte := BitVec.ofNat 8 (256 - byteSum b % 256)

/-- The 32-bit address of a field: the base plus the offset (R1). -/
def addressOf (base : BitVec 20) (offset : Nat) : BitVec 32 := base ++ 0#12 + BitVec.ofNat 32 offset

/-- What an APB write is, by offset, value and byte strobes (R16, R17 and the table of section 1.7): bits 31:3 of a RUNCTL
value are ignored. -/
def commandOfWrite (offset : Nat) (value : Word) (strobes : BitVec 4) : Instr :=
  if strobes != 0xF#4 then .registerWriteIgnored offset value strobes
  else if offset = 0x00 then .xbaseWrite value
  else if offset = 0x04 then
    let code := value.extractLsb' 0 3
    if code = 1#3 then .run
    else if code = 2#3 then .hold
    else if code = 3#3 then .release
    else if code = 4#3 then .halt
    else if code = 5#3 then .sweepNow
    else .runctlInvalidCode code
  else if offset = 0x0C then .noteWrite value
  else if offset = 0x10 then .noteenWrite value
  else .registerWriteIgnored offset value strobes

/-- The windows in the order given, each once, then those not named, ascending (log 7). -/
def completeWindows (order : List WindowNo) : List WindowNo :=
  order.eraseDups ++ windowNos.filter fun w => !order.contains w

/-- The parts of a minute event in the order given, each once, then those not named in the default order: windows
ascending, countdowns, accounting (log 6). -/
def completeParts (order : List MinutePart) : List MinutePart :=
  order.eraseDups ++ (windowNos.map MinutePart.window ++ [MinutePart.countdown, MinutePart.accounting]).filter fun p =>
    !order.contains p

end Sys2Proof.Machine
end

