-- ==== Sys2Proof/Machine/State.lean ====
section
/-! DEFINITION. The state of the block as plain data, and its value at power-on reset. Each field's rule is cited where it
stands; INVENTORY.md, "State", lists them all with their reset values. -/

namespace Sys2Proof.Machine

/-- The twelve carrier states (section 2.3). -/
inductive CarrierState where
  | unmanaged | unknown | stray | serving | draining | lowering | light | deepening | dark | warming | raising | faulted
deriving DecidableEq, Repr

/-- The load class (R49). -/
inductive LoadClass where
  | absent | fresh | clipped | aged
deriving DecidableEq, Repr

/-- Reasons: of a sleep, of an abandoned drain, and of a wake request (section 2.2). -/
inductive Reason where
  | dwell | directed | abandon | abandonBusy | abandonUsers | deepStop
  | coverLoad | coverLost | windowClose | operator | failsafe | release
deriving DecidableEq, Repr

/-- The refusal codes of the sleep test (R108). -/
inductive RefusalCode where
  | window | failsafe | resleep | budget | noCover | users | load | unordered | dwellPending | coverIneligible | ceiling
  | stackFull
deriving DecidableEq, Repr

/-- The causes of FAULTED (R35). -/
inductive FaultCause where
  | timeout | refused | radio | link | probe
deriving DecidableEq, Repr

/-- The next command of a STRAY carrier (R29). -/
inductive StrayStep where
  | warm | raise
deriving DecidableEq, Repr

/-- Where a carrier came from when a PROBE took it up (R30). -/
inductive ProbeOrigin where
  | serving | unknown | faulted
deriving DecidableEq, Repr

/-- The phase of a cover stack entry (R84). -/
inductive EntryPhase where
  | reserved | settling | settled | returning
deriving DecidableEq, Repr

/-- The deepest sleep a carrier has reached under its entry (R83). -/
inductive Depth where
  | none | light | dark
deriving DecidableEq, Repr

/-- The eight radio commands (R136). -/
inductive RadioCommand where
  | gate | shed | lower | darken | warm | raise | reopen | query
deriving DecidableEq, Repr

/-- The class of a want, fixed by its command (R122). -/
inductive WantClass where
  | wake | probe | sleep
deriving DecidableEq, Repr

/-- The four run states (R181). -/
inductive RunState where
  | halted | running | holding | releasing
deriving DecidableEq, Repr

/-- The phase of a night window (R159). -/
inductive WindowPhase where
  | closed | opened | shallow
deriving DecidableEq, Repr

/-- The six notice flags (R18). -/
inductive Notice where
  | change | directive | fault | failsafe | minute | data
deriving DecidableEq, Repr

/-- The codes of a directive's outcome (R170). -/
inductive OutcomeCode where
  | ok | rejKind | rejParam | rejRun
deriving DecidableEq, Repr

/-- The eight directive kinds (section 12.4). -/
inductive DirectiveKind where
  | loadPolicy | loadCarriers | setClock | holdOn | releaseHold | sleepNow | probe | clearTally
deriving DecidableEq, Repr

/-- The configuration copy of a context (R20). -/
structure CarrierConfig where
  present : Bool := false
  cover : Option Carrier := none
  window : Option WindowNo := none
  /-- C, capacity units per report period. -/
  capacity : Nat := 0
  /-- k, the smoothing shift. -/
  shift : Nat := 0
  /-- S, per-mille. -/
  sleepLimit : Nat := 0
  /-- V, per-mille. -/
  wakeLimit : Nat := 0
  /-- Q, per-mille. -/
  absorbLimit : Nat := 0
  sleepDwell : Nat := 0
  wakeDwell : Nat := 0
  userCeiling : Nat := 0
  budget : Nat := 0
  resleepHold : Nat := 0
  deepenDelay : Nat := 0
  lightSaving : Nat := 0
  darkSaving : Nat := 0
deriving DecidableEq, Repr

/-- One carrier context (R22); the defaults are the power-on values. -/
structure Context where
  cfg : CarrierConfig := {}
  state : CarrierState := .unmanaged
  cls : LoadClass := .absent
  /-- L, in load counts. -/
  load : Nat := 0
  age : Nat := 0
  lastStamp : Option Byte := none
  lastUsers : Nat := 0
  /-- The sleep-dwell count. -/
  sleepCount : Nat := 0
  /-- The wake-dwell count. -/
  wakeCount : Nat := 0
  sleepsTonight : Nat := 0
  lightMinutes : Nat := 0
  darkMinutes : Nat := 0
  lightRun : Nat := 0
  holdLeft : Nat := 0
  resleepLeft : Nat := 0
  cause : Option FaultCause := none
  /-- The reserved-sleep mark. -/
  reserved : Bool := false
  strayStep : Option StrayStep := none
  probeOrigin : Option ProbeOrigin := none
  deepenDeclined : Bool := false
  unorderedNow : Bool := false
  overflowSeen : Bool := false
  lastReason : Option Reason := none
  lastRefusal : Option RefusalCode := none
  dirty : Bool := false
  /-- The mirror edition. -/
  edition : Nat := 0
deriving DecidableEq, Repr

/-- One cover stack entry (R83). -/
structure Entry where
  carrier : Carrier
  phase : EntryPhase
  /-- A, the absorbed load recorded at reservation. -/
  absorbed : Nat
  depth : Depth
  settle : Nat
  reason : Reason
  deepenAtOnce : Bool
deriving DecidableEq, Repr

/-- One want of a lane queue (R122); its class follows from its command. -/
structure Want where
  carrier : Carrier
  command : RadioCommand
  seq : Nat
  wait : Nat
  attempt : Nat
deriving DecidableEq, Repr

/-- The record of a lane's outstanding command (R121); its class follows from its command. -/
structure Outstanding where
  carrier : Carrier
  command : RadioCommand
  attempt : Nat
  tag : BitVec 4
deriving DecidableEq, Repr

/-- One site lane (R121). -/
structure Lane where
  queue : List Want := []
  outstanding : Option Outstanding := none
  joinCounter : Nat := 0
deriving DecidableEq, Repr

/-- One radio channel (R134). -/
structure Channel where
  up : Bool := false
  nextTag : BitVec 4 := 0#4
  liveTag : Option (BitVec 4) := none
  timeLeft : Nat := 0
  /-- MODEL'S OWN output record (log 19): the command frame last handed to the radio interface. -/
  sent : List Byte := []
deriving DecidableEq, Repr

/-- The in-flight record of a PROBE (section 10.5). -/
structure ProbeRecord where
  slot : Slot
  members : List Carrier
  selectionDone : Bool
  affected : Nat
  skipped : Nat
deriving DecidableEq, Repr

/-- One directive outcome waiting to be written (R10, R170). -/
structure DirectiveOutcome where
  slot : Slot
  affected : Nat
  skipped : Nat
  code : OutcomeCode
deriving DecidableEq, Repr

/-- What events on carriers act on together: the Carrier Context Table, the Cover Stack Store, the Site Lanes, the Radio
Channels, the NOTE register, the PROBE records and the outcome queue. -/
structure Cluster where
  contexts : Vector Context 256
  coverStacks : Vector (List Entry) 256
  lanes : Vector Lane 16
  channels : Vector Channel 16
  note : BitVec 6
  probes : List ProbeRecord
  outcomes : List DirectiveOutcome
deriving DecidableEq, Repr

/-- The Sweep Timer's counters (R65) and the 100 ms divider (R123). -/
structure Timer where
  tick : Nat := 0
  prescaler : Nat := 0
  downCount : Nat := 0
  hundred : Nat := 0
  sweepPending : Bool := false
deriving DecidableEq, Repr

/-- The eight command timeouts (R135), in units of 100 ms. -/
structure Timeouts where
  gate : Nat := 1
  shed : Nat := 1
  lower : Nat := 1
  darken : Nat := 1
  warm : Nat := 1
  raise : Nat := 1
  reopen : Nat := 1
  query : Nat := 1
deriving DecidableEq, Repr

/-- The settings taken from the policy block (R39, R66, R88, R135); the defaults are the power-on values. -/
structure Policy where
  reload : Nat := 1
  prescale : Nat := 0
  failsafeLimit : Nat := 1
  freshness : Nat := 1
  strictData : Bool := false
  settle : Nat := 0
  shedAttempts : Nat := 1
  shedInterval : Nat := 1
  residual : Nat := 0
  wakeAttempts : Nat := 1
  busyBackoff : Nat := 1
  timeouts : Timeouts := {}
deriving DecidableEq, Repr

/-- The civil clock (R152). -/
structure Clock where
  seconds : Nat := 0
  minutes : Nat := 0
  hours : Nat := 0
  weekday : Nat := 0
  day : Nat := 0
  /-- The sub-second divider. -/
  sub : Nat := 0
  valid : Bool := false
deriving DecidableEq, Repr

/-- One match of a window entry (R157); none is ANY. -/
structure WindowMatch where
  mask : BitVec 7 := 0#7
  hour : Option Nat := some 0
  minute : Option Nat := some 0
deriving DecidableEq, Repr

/-- One window entry (R157). -/
structure WindowEntry where
  enabled : Bool := false
  openAt : WindowMatch := {}
  deepStopAt : WindowMatch := {}
  closeAt : WindowMatch := {}
deriving DecidableEq, Repr

/-- One night window: its entry and its phase (R159). -/
structure Window where
  entry : WindowEntry := {}
  phase : WindowPhase := .closed
deriving DecidableEq, Repr

/-- A carrier table row as read: the present flag, whether its C lies in 10..4000, and the configuration copy it
would give (R20). -/
structure CarrierRow where
  present : Bool
  capacityOk : Bool
  cfg : CarrierConfig
deriving DecidableEq, Repr

/-- The clock that a minute event carries: the one after the carry (R154). The matches read its minute, hour and weekday
(R158). -/
structure MinuteStamp where
  seconds : Nat
  minutes : Nat
  hours : Nat
  weekday : Nat
  day : Nat
deriving DecidableEq, Repr

/-- What a shared-memory access was asked for; it tells the requesting operation where to go on. -/
inductive Purpose where
  | firstStamp (c : Carrier)
  | body (c : Carrier) (stamp : Byte)
  | secondStamp (c : Carrier) (stamp : Byte) (used users : Nat)
  | slotState (n : Slot)
  | slotTaken (n : Slot)
  | slotFields (n : Slot)
  | directivePolicy (n : Slot)
  | directiveWindows (n : Slot) (policy : Policy)
  | directiveRow (n : Slot) (c : Carrier)
  | mirrorRecord (c : Carrier) (edition : Nat)
  | outcomeCheck (n : Slot)
  | outcomeFields (n : Slot)
  | outcomeState (n : Slot)
  | header
  | startupPolicy
  | startupWindows (policy : Policy)
  | startupRow (c : Carrier)
deriving DecidableEq, Repr

/-- The outstanding shared-memory access of the Exchange Port (R5). -/
structure Access where
  /-- MODEL'S OWN (log 8): which access this is, so that a late answer to an earlier one is known. -/
  number : Nat
  write : Bool
  address : BitVec 32
  length : Nat
  data : List Byte
  purpose : Purpose
  /-- Reference cycles since the issue (log 24). -/
  waited : Nat
deriving DecidableEq, Repr

/-- The directive being executed in an intake (R168). -/
structure DirectiveRun where
  slot : Slot
  kind : Option DirectiveKind
  base : BitVec 8
  mask : BitVec 8
  stateMask : BitVec 16
  params : List Byte
  /-- The next carrier number to take, 0..256. -/
  position : Nat
  begun : Bool
  /-- HOLD or RELEASE has been taken since the execution began (R176). -/
  stopped : Bool
  affected : Nat
  skipped : Nat
  /-- LOAD_POLICY: the policy block and window table, once both have been read. -/
  policy : Option (Policy × Vector WindowEntry 8)
  /-- LOAD_CARRIERS: the row of the carrier at position, once it has been read. -/
  row : Option CarrierRow
deriving DecidableEq, Repr

/-- The phase of a pass, with its position (R71). -/
inductive Phase where
  /-- taken: an observation has been taken; visited: some present carrier has been reached. -/
  | gather (taken visited : Bool)
  | intake (run : Option DirectiveRun)
  | decision (position : Nat)
  /-- wrote: a mirror record has been written successfully; todo: the outcomes still to handle. -/
  | writeBack (wrote : Bool) (todo : List Slot)
deriving DecidableEq, Repr

/-- A sweep (sweep set) or a write-back-only pass (clear) in progress. -/
structure Pass where
  sweep : Bool
  /-- XBASE bits 31:12 as they stood at the begin (R2, R70, R75). -/
  base : BitVec 20
  /-- The run state has left RUNNING since this sweep began (R77). -/
  leftRunning : Bool
  /-- HALT has cut this pass (R76). -/
  cut : Bool
  /-- An XBASE write has been taken since the pass began (R2). -/
  moved : Bool := false
  phase : Phase
deriving DecidableEq, Repr

/-- The start-up in progress (R182). -/
structure Startup where
  base : BitVec 20
  /-- The rows held so far, the newest first. -/
  rows : List CarrierRow
deriving DecidableEq, Repr

/-- The state of the KC-16. -/
structure State where
  /-- Bits 31:12 of XBASE (R1). -/
  xbase : BitVec 20
  noteEn : BitVec 6
  refused : Bool
  runState : RunState
  timer : Timer
  policy : Policy
  sweepCount : Nat
  overruns : Nat
  starvation : Nat
  failsafe : Bool
  torn : Nat
  late : Nat
  memErrors : Nat
  /-- The mirror edition word (R14). -/
  editionWord : Nat
  fleetTally : Nat
  clock : Clock
  windows : Vector Window 8
  cluster : Cluster
  /-- The retake slot (R12). -/
  retake : Option Slot
  port : Option Access
  pass : Option Pass
  startup : Option Startup
  /-- MODEL'S OWN (log 5): the minute events raised and not yet taken, oldest first. -/
  minutesDue : List MinuteStamp
  /-- MODEL'S OWN (log 8): the number of the next access. -/
  accessSeq : Nat
  /-- MODEL'S OWN (log 6): what free values are applied to. -/
  choices : Nat
  /-- MODEL'S OWN (log 1): the commands waiting, first in, first out. -/
  pending : List Instr
deriving DecidableEq, Repr

/-- Why the machine stops with a fault. It never does: every event of the spec has an effect, so there is no reason
(safe). -/
inductive Fault where
deriving DecidableEq, Repr

/-- Why a command has no meaning. -/
inductive Refusal where
  /-- Raised by exec for a command that has no meaning yet; no arm of exec raises it (safe). -/
  | notModelled (mnemonic : String)
deriving DecidableEq, Repr

/-- What a command answers. -/
abbrev Result := Host.Outcome State Fault Refusal

/-- The cluster at power-on: every context, stack, lane and channel at its reset value (R22, R82, R121, R134), NOTE 0 (R16),
no PROBE record (R178), no outcome (R10). -/
def Cluster.reset : Cluster where
  contexts := Vector.replicate 256 {}
  coverStacks := Vector.replicate 256 []
  lanes := Vector.replicate 16 {}
  channels := Vector.replicate 16 {}
  note := 0#6
  probes := []
  outcomes := []

/-- The block right after power-on reset (R1, R16, R22, R65, R68, R70, R72, R152, R157, R181, R188). -/
def State.reset : State where
  xbase := 0#20
  noteEn := 0#6
  refused := false
  runState := .halted
  timer := {}
  policy := {}
  sweepCount := 0
  overruns := 0
  starvation := 0
  failsafe := false
  torn := 0
  late := 0
  memErrors := 0
  editionWord := 0
  fleetTally := 0
  clock := {}
  windows := Vector.replicate 8 {}
  cluster := Cluster.reset
  retake := none
  port := none
  pass := none
  startup := none
  minutesDue := []
  accessSeq := 0
  choices := 0
  pending := []

end Sys2Proof.Machine
end

