-- ==== Sys2Proof/Machine/Flags.lean ====
section
/-! DEFINITION. The notice flags and the interrupt line, the reads of the register port, the codes of section 12, and the
mirrored view of a context with its dirty mark. -/

namespace Sys2Proof.Machine

/-- The flag's position in NOTE and NOTEEN (section 1.7). -/
def Notice.bit : Notice → Nat
  | .change => 0
  | .directive => 1
  | .fault => 2
  | .failsafe => 3
  | .minute => 4
  | .data => 5

/-- NOTE with the flag set (R18: setting a flag that is already 1 leaves it 1). -/
def Notice.raiseIn (n : Notice) (note : BitVec 6) : BitVec 6 := note ||| (1#6 <<< n.bit)

/-- Whether the flag is set in NOTE. -/
def Notice.isIn (n : Notice) (note : BitVec 6) : Bool := note.getLsbD n.bit

def RunState.code : RunState → Nat
  | .halted => 0
  | .running => 1
  | .holding => 2
  | .releasing => 3

/-- The interrupt line: asserted exactly when some flag and its enable are both 1 (R19). -/
def State.interruptLine (s : State) : Bool := s.cluster.note &&& s.noteEn != 0#6

/-- STAT (section 1.7, R16). -/
def State.stat (s : State) : Word :=
  BitVec.ofNat 32 (s.runState.code + 4 * s.clock.valid.toNat + 8 * s.failsafe.toNat + 16 * s.pass.isSome.toNat
    + 32 * s.refused.toNat)

/-- A read of the register port (section 1.7, R16): offsets that hold no register read 0. A read changes nothing. -/
def State.readRegister (s : State) (offset : Nat) : Word :=
  if offset = 0x00 then s.xbase ++ 0#12
  else if offset = 0x04 then BitVec.ofNat 32 s.runState.code
  else if offset = 0x08 then s.stat
  else if offset = 0x0C then s.cluster.note.setWidth 32
  else if offset = 0x10 then s.noteEn.setWidth 32
  else 0#32

/-! ## Codes of section 12.6 -/

def CarrierState.code : CarrierState → Nat
  | .unmanaged => 0
  | .unknown => 1
  | .stray => 2
  | .serving => 3
  | .draining => 4
  | .lowering => 5
  | .light => 6
  | .deepening => 7
  | .dark => 8
  | .warming => 9
  | .raising => 10
  | .faulted => 11

def LoadClass.code : LoadClass → Nat
  | .absent => 0
  | .fresh => 1
  | .clipped => 2
  | .aged => 3

def reasonCode : Option Reason → Nat
  | none => 0
  | some .dwell => 1
  | some .directed => 2
  | some .abandon => 3
  | some .abandonBusy => 4
  | some .abandonUsers => 5
  | some .deepStop => 6
  | some .coverLoad => 7
  | some .coverLost => 8
  | some .windowClose => 9
  | some .operator => 10
  | some .failsafe => 11
  | some .release => 12

def refusalCode : Option RefusalCode → Nat
  | none => 0
  | some .window => 1
  | some .failsafe => 2
  | some .resleep => 3
  | some .budget => 4
  | some .noCover => 5
  | some .users => 6
  | some .load => 7
  | some .unordered => 8
  | some .dwellPending => 9
  | some .coverIneligible => 10
  | some .ceiling => 11
  | some .stackFull => 12

def causeCode : Option FaultCause → Nat
  | none => 0
  | some .timeout => 1
  | some .refused => 2
  | some .radio => 3
  | some .link => 4
  | some .probe => 5

def strayCode : Option StrayStep → Nat
  | none => 0
  | some .warm => 1
  | some .raise => 2

def Depth.code : Depth → Nat
  | .none => 0
  | .light => 1
  | .dark => 2

/-- The command's code in a command frame (section 12.7). -/
def RadioCommand.code : RadioCommand → Nat
  | .gate => 1
  | .shed => 2
  | .lower => 3
  | .darken => 4
  | .warm => 5
  | .raise => 6
  | .reopen => 7
  | .query => 8

/-- The class of a want follows from its command (R122). -/
def RadioCommand.wantClass : RadioCommand → WantClass
  | .warm | .raise | .reopen => .wake
  | .query => .probe
  | .gate | .shed | .lower | .darken => .sleep

def OutcomeCode.code : OutcomeCode → Nat
  | .ok => 0
  | .rejKind => 1
  | .rejParam => 2
  | .rejRun => 3

/-- The slot states of section 12.4. -/
def slotPosted : Nat := 1
def slotTaken : Nat := 2
def slotDone : Nat := 3
def slotRejected : Nat := 4

/-- The final state that an outcome carries: DONE for OK, REJECTED otherwise (R170). -/
def OutcomeCode.finalState : OutcomeCode → Nat
  | .ok => slotDone
  | _ => slotRejected

def directiveKindOf : Nat → Option DirectiveKind
  | 1 => some .loadPolicy
  | 2 => some .loadCarriers
  | 3 => some .setClock
  | 4 => some .holdOn
  | 5 => some .releaseHold
  | 6 => some .sleepNow
  | 7 => some .probe
  | 8 => some .clearTally
  | _ => none

/-! ## The mirrored fields and the dirty mark (R23) -/

/-- The fields of a context that its mirror record shows; the stack and the entry's depth reached are shown besides
(R23). -/
structure MirrorView where
  state : CarrierState
  cls : LoadClass
  age : Nat
  load : Nat
  cover : Option Carrier
  sleepsTonight : Nat
  lastReason : Option Reason
  lastRefusal : Option RefusalCode
  cause : Option FaultCause
  lightMinutes : Nat
  darkMinutes : Nat
  holdLeft : Nat
  resleepLeft : Nat
  reserved : Bool
  deepenDeclined : Bool
  unorderedNow : Bool
  overflowSeen : Bool
  strayStep : Option StrayStep
deriving DecidableEq, Repr

def Context.view (x : Context) : MirrorView where
  state := x.state
  cls := x.cls
  age := x.age
  load := x.load
  cover := x.cfg.cover
  sleepsTonight := x.sleepsTonight
  lastReason := x.lastReason
  lastRefusal := x.lastRefusal
  cause := x.cause
  lightMinutes := x.lightMinutes
  darkMinutes := x.darkMinutes
  holdLeft := x.holdLeft
  resleepLeft := x.resleepLeft
  reserved := x.reserved
  deepenDeclined := x.deepenDeclined
  unorderedNow := x.unorderedNow
  overflowSeen := x.overflowSeen
  strayStep := x.strayStep

/-- A change of a context: the dirty mark is set when a mirrored field changes value (R23). -/
def Context.edit (f : Context → Context) (x : Context) : Context :=
  { f x with dirty := (f x).dirty || decide ((f x).view ≠ x.view) }

/-- The states in which a carrier is on its way through a sleep: DRAINING through RAISING (R27, R186). -/
def CarrierState.inSleepPath : CarrierState → Bool
  | .draining | .lowering | .light | .deepening | .dark | .warming | .raising => true
  | _ => false

end Sys2Proof.Machine
end

