-- ==== Sys2Proof/Machine/Ops.lean ====
section
/-! DEFINITION. The named reads and writes of the cluster: contexts, stacks, lanes, channels, notices, the outcome queue; and
the change of a carrier's state (R26). -/

namespace Sys2Proof.Machine

/-! ## Reads -/

def Cluster.ctx (w : Cluster) (c : Carrier) : Context := w.contexts[c]

def Cluster.stack (w : Cluster) (c : Carrier) : List Entry := w.coverStacks[c]

def Cluster.lane (w : Cluster) (i : Site) : Lane := w.lanes[i]

def Cluster.channel (w : Cluster) (i : Site) : Channel := w.channels[i]

/-- The owner of the first stack, in ascending number, that holds an entry of the carrier (R82: there is one at most). -/
def Cluster.hostOf (w : Cluster) (c : Carrier) : Option Carrier :=
  carriers.find? fun k => (w.stack k).any fun e => e.carrier == c

/-- The carrier's entry, on whatever stack it stands. -/
def Cluster.entryOf (w : Cluster) (c : Carrier) : Option Entry :=
  (w.hostOf c).bind fun k => (w.stack k).find? fun e => e.carrier == c

/-- The carrier holds an entry on some stack. -/
def Cluster.holdsEntry (w : Cluster) (c : Carrier) : Bool := (w.hostOf c).isSome

/-- The carrier's entry is in phase RETURNING. -/
def Cluster.isReturning (w : Cluster) (c : Carrier) : Bool :=
  match w.entryOf c with
  | some e => e.phase == .returning
  | none => false

/-- The want of the carrier in its lane, if it has one (R121). -/
def Cluster.wantOf (w : Cluster) (c : Carrier) : Option Want :=
  (w.lane (siteOf c)).queue.find? fun x => x.carrier == c

/-- The carrier has this command wanted. -/
def Cluster.wants (w : Cluster) (c : Carrier) (command : RadioCommand) : Bool :=
  match w.wantOf c with
  | some x => x.command == command
  | none => false

/-- The carrier's command is outstanding in its lane. -/
def Cluster.isOutstanding (w : Cluster) (c : Carrier) : Bool :=
  match (w.lane (siteOf c)).outstanding with
  | some o => o.carrier == c
  | none => false

/-- The part is quiet: every stack is empty and no carrier is in DRAINING through RAISING or in STRAY (R186). -/
abbrev Cluster.Quiet (w : Cluster) : Prop :=
  ∀ c : Carrier, w.stack c = [] ∧ (w.ctx c).state.inSleepPath = false ∧ (w.ctx c).state ≠ .stray

/-! ## Writes -/

def Cluster.setCtx (w : Cluster) (c : Carrier) (x : Context) : Cluster :=
  { w with contexts := w.contexts.set c x }

/-- Change one context, with the dirty mark of R23. -/
def Cluster.editCtx (w : Cluster) (c : Carrier) (f : Context → Context) : Cluster :=
  w.setCtx c ((w.ctx c).edit f)

/-- Set the carrier's dirty mark, where a rule says so whatever the values. -/
def Cluster.markDirty (w : Cluster) (c : Carrier) : Cluster :=
  w.setCtx c { w.ctx c with dirty := true }

/-- Change every context, each with the dirty mark of R23. -/
def Cluster.editAll (w : Cluster) (f : Context → Context) : Cluster :=
  { w with contexts := w.contexts.map (Context.edit f) }

/-- Set every carrier's dirty mark (R2, R182). -/
def Cluster.markAllDirty (w : Cluster) : Cluster :=
  { w with contexts := w.contexts.map fun x => { x with dirty := true } }

def Cluster.setStack (w : Cluster) (c : Carrier) (es : List Entry) : Cluster :=
  { w with coverStacks := w.coverStacks.set c es }

def Cluster.setLane (w : Cluster) (i : Site) (l : Lane) : Cluster :=
  { w with lanes := w.lanes.set i l }

def Cluster.setChannel (w : Cluster) (i : Site) (h : Channel) : Cluster :=
  { w with channels := w.channels.set i h }

/-- Set a notice flag (R18). -/
def Cluster.notify (w : Cluster) (n : Notice) : Cluster := { w with note := n.raiseIn w.note }

/-- Change the fields of the carrier's entry that R83 lets change, where it stands. -/
def Cluster.editEntry (w : Cluster) (c : Carrier) (f : Entry → Entry) : Cluster :=
  match w.hostOf c with
  | none => w
  | some k => w.setStack k ((w.stack k).map fun e => if e.carrier = c then f e else e)

/-! ## The state of a carrier -/

/-- A change of a carrier's state (R26): both dwell counts fall to 0; leaving LIGHT ends the light run; leaving UNKNOWN clears
the probe origin; leaving STRAY clears the stray step. -/
def Context.enter (st : CarrierState) (x : Context) : Context :=
  { x with
    state := st
    sleepCount := 0
    wakeCount := 0
    lightRun := if x.state = .light ∧ st ≠ .light then 0 else x.lightRun
    probeOrigin := if x.state = .unknown ∧ st ≠ .unknown then none else x.probeOrigin
    strayStep := if x.state = .stray ∧ st ≠ .stray then none else x.strayStep }

/-- Starting the re-sleep hold (R33). -/
def Context.startResleep (x : Context) : Context := { x with resleepLeft := x.cfg.resleepHold }

/-! ## The outcome queue -/

/-- An outcome joins the queue, which keeps one outcome per slot in ascending slot number (R10). -/
def joinOutcome (o : DirectiveOutcome) : List DirectiveOutcome → List DirectiveOutcome
  | [] => [o]
  | p :: ps =>
    if o.slot < p.slot then o :: p :: ps
    else if o.slot = p.slot then o :: ps
    else p :: joinOutcome o ps

/-- The outcome of the slot leaves the queue. -/
def dropOutcome (n : Slot) (q : List DirectiveOutcome) : List DirectiveOutcome := q.filter fun o => o.slot != n

def Cluster.outcomeJoins (w : Cluster) (o : DirectiveOutcome) : Cluster := { w with outcomes := joinOutcome o w.outcomes }

def Cluster.outcomeLeaves (w : Cluster) (n : Slot) : Cluster := { w with outcomes := dropOutcome n w.outcomes }

/-! ## The state of the block -/

def State.ctx (s : State) (c : Carrier) : Context := s.cluster.ctx c

def State.stack (s : State) (c : Carrier) : List Entry := s.cluster.stack c

def State.lane (s : State) (i : Site) : Lane := s.cluster.lane i

def State.channel (s : State) (i : Site) : Channel := s.cluster.channel i

/-- Apply an operation to the cluster. -/
def State.on (s : State) (f : Cluster → Cluster) : State := { s with cluster := f s.cluster }

/-- Set a notice flag. -/
def State.notify (s : State) (n : Notice) : State := s.on fun w => w.notify n

/-- The test for the end of RELEASING, at the end of an event that may remove an entry or take a carrier out of STRAY
(R186). -/
def State.testReleasingEnd (s : State) : State :=
  if s.runState = .releasing ∧ s.cluster.Quiet then { s with runState := .holding } else s

end Sys2Proof.Machine
end

