-- ==== Sys2Proof/Machine/Wants.lean ====
section
/-! DEFINITION. Wants joining and leaving a site lane (R124, R125), and the end of an outstanding command (R131). -/

namespace Sys2Proof.Machine

/-- The carrier's want, if any, leaves its lane; the wants behind it close up (R125). -/
def Cluster.dropWant (w : Cluster) (c : Carrier) : Cluster :=
  let l := w.lane (siteOf c)
  w.setLane (siteOf c) { l with queue := l.queue.filter fun x => x.carrier != c }

/-- A want at the tail of a lane, with the join counter as its enqueue sequence (R122). -/
def Lane.append (l : Lane) (c : Carrier) (command : RadioCommand) (wait attempt : Nat) : Lane :=
  { l with
    queue := l.queue ++ [{ carrier := c, command, seq := l.joinCounter, wait, attempt }]
    joinCounter := wrapUp 65536 l.joinCounter }

/-- A want joins its lane (R124): beside a want of the same command it does not join; it replaces a want of another command,
at the tail. A want is only asked for a carrier that has no command outstanding. -/
def Cluster.joinWant (w : Cluster) (c : Carrier) (command : RadioCommand) (wait attempt : Nat) : Cluster :=
  if w.isOutstanding c || w.wants c command then w
  else
    let v := w.dropWant c
    v.setLane (siteOf c) ((v.lane (siteOf c)).append c command wait attempt)

/-- A want to be sent as soon as the lane allows: wait 0, attempt count 1. -/
def Cluster.want (w : Cluster) (c : Carrier) (command : RadioCommand) : Cluster := w.joinWant c command 0 1

/-- The outstanding command of a lane ends: the slot empties and the channel's tag is retired (R131, R134). -/
def Cluster.retire (w : Cluster) (i : Site) : Cluster :=
  (w.setLane i { w.lane i with outstanding := none }).setChannel i { w.channel i with liveTag := none, timeLeft := 0 }

/-- The carrier's outstanding command, if any, is abandoned (R21, R35). -/
def Cluster.abandon (w : Cluster) (c : Carrier) : Cluster :=
  if w.isOutstanding c then w.retire (siteOf c) else w

/-- A link-cause FAULTED carrier enters UNKNOWN with class ABSENT, probe origin none and a QUERY want (R36). -/
def Cluster.relink (w : Cluster) (c : Carrier) : Cluster :=
  (w.editCtx c fun x => { x.enter .unknown with cls := .absent, probeOrigin := none }).want c .query

end Sys2Proof.Machine
end

