-- ==== Sys2Proof/Machine/Stacks.lean ====
section
/-! DEFINITION. Cover stacks (section 5): removal, wake requests, unwinding, settle ageing and push; and the entry into
FAULTED (R35). -/

namespace Sys2Proof.Machine

/-! ## Removal -/

/-- A removal has left the owner's stack empty (R92). DESIGN CHOICE (log 34): the wake-dwell count of a SERVING owner is 0 after
the removal whatever event has made it, as R92 and R105 say, a CLOSE that cancels the last reservation on the stack too, of
which R96 says that it does not change the owner's count. -/
def Cluster.stackEmptied (w : Cluster) (k : Carrier) : Cluster :=
  let x := w.ctx k
  if x.state = .serving then w.editCtx k fun y => { y with wakeCount := 0 }
  else if x.state = .faulted ∧ x.cause = some .link ∧ (w.channel (siteOf k)).up = true then w.relink k
  else w

/-- The carrier's entry leaves the stack it stands on; the entries above move down one place; the owner and the carrier
are marked dirty (R91). An emptied stack hands on (R92). -/
def Cluster.removeEntry (w : Cluster) (c : Carrier) : Cluster :=
  match w.hostOf c with
  | none => w
  | some k =>
    let v := ((w.setStack k ((w.stack k).eraseP fun e => e.carrier == c)).markDirty k).markDirty c
    if v.stack k = [] then v.stackEmptied k else v

/-! ## Wake requests -/

/-- The carrier holds an entry that is not RETURNING. -/
def Cluster.holdsActive (w : Cluster) (c : Carrier) : Bool :=
  match w.entryOf c with
  | some e => e.phase != .returning
  | none => false

/-- The carrier's entry goes RETURNING and the reason is recorded in the entry and in the carrier's last reason (R32). -/
def Cluster.turnBack (w : Cluster) (c : Carrier) (r : Reason) : Cluster :=
  ((w.editEntry c fun e => { e with phase := .returning, reason := r }).editCtx c fun x =>
    { x with lastReason := some r }).markDirty c

/-- A reservation is cancelled while its GATE is still a want: want and entry go, the mark is cleared, the re-sleep hold
starts (R31, R33). -/
def Cluster.cancelReservation (w : Cluster) (c : Carrier) (r : Reason) : Cluster :=
  (((w.dropWant c).removeEntry c).editCtx c fun x =>
    { x.startResleep with reserved := false, lastReason := some r }).markDirty c

/-- A wake request acts by the state of its carrier (R31), and records its reason where it acts (R32). -/
def Cluster.wakeRequest (w : Cluster) (c : Carrier) (r : Reason) : Cluster :=
  match (w.ctx c).state with
  | .serving => if (w.ctx c).reserved then w.cancelReservation c r else w
  | .draining =>
    if w.holdsActive c then
      if w.wants c .shed || w.wants c .lower then (w.turnBack c r).want c .reopen else w.turnBack c r
    else w
  | .lowering | .deepening | .warming => if w.holdsActive c then w.turnBack c r else w
  | .light => if w.holdsActive c then (w.turnBack c r).want c .raise else w
  | .dark => if w.holdsActive c then (w.turnBack c r).want c .warm else w
  | .raising | .stray | .unmanaged | .unknown | .faulted => w

/-- Wake requests with one reason to a list of carriers, in order. -/
def Cluster.wakeAll (w : Cluster) (cs : List Carrier) (r : Reason) : Cluster :=
  cs.foldl (fun v c => v.wakeRequest c r) w

/-- Unwinding a stack: a wake request to the carrier of every entry that stands on it, from the top downward (R93). -/
def Cluster.unwind (w : Cluster) (k : Carrier) (r : Reason) : Cluster :=
  w.wakeAll ((w.stack k).reverse.map Entry.carrier) r

/-- Every stack is unwound, in ascending number of the owners (R73, R95). -/
def Cluster.unwindAll (w : Cluster) (r : Reason) : Cluster :=
  carriers.foldl (fun v k => v.unwind k r) w

/-! ## The end of a probed query -/

/-- A PROBE whose selection is done and whose last member has gone (R178). -/
def ProbeRecord.finished (p : ProbeRecord) : Bool := p.members.isEmpty && p.selectionDone

/-- The outcome of a PROBE: OK with the record's two counts (R178). -/
def ProbeRecord.outcome (p : ProbeRecord) : DirectiveOutcome :=
  { slot := p.slot, affected := p.affected, skipped := p.skipped, code := .ok }

/-- Every finished record leaves the list and its outcome joins the outcome queue (R178). -/
def Cluster.closeProbes (w : Cluster) : Cluster :=
  { w with
    probes := w.probes.filter fun p => !p.finished
    outcomes := (w.probes.filter ProbeRecord.finished).foldl (fun q p => joinOutcome p.outcome q) w.outcomes }

/-- A member's query has ended: counted in its record, and the carrier leaves the members (R178). -/
def ProbeRecord.count (c : Carrier) (answered : Bool) (p : ProbeRecord) : ProbeRecord :=
  if p.members.contains c then
    { p with
      members := p.members.filter fun m => m != c
      affected := if answered then p.affected + 1 else p.affected
      skipped := if answered then p.skipped else p.skipped + 1 }
  else p

/-- The end of the carrier's query is handed to the record that holds it, if the carrier has a probe origin (R148, R178). -/
def Cluster.endQuery (w : Cluster) (c : Carrier) (answered : Bool) : Cluster :=
  if (w.ctx c).state = .unknown ∧ (w.ctx c).probeOrigin.isSome then
    { w with probes := w.probes.map (ProbeRecord.count c answered) }.closeProbes
  else w

/-! ## FAULTED -/

/-- A carrier enters FAULTED (R35): its command and wants end, its entry goes, its own stack is unwound with COVER_LOST, its
state and cause are recorded, FAULT is set and the carrier is dirty. A query under a PROBE ends with it (R178). -/
def Cluster.enterFaulted (w : Cluster) (c : Carrier) (cause : FaultCause) : Cluster :=
  let w1 := ((w.endQuery c false).abandon c).dropWant c
  let w2 := (w1.removeEntry c).editCtx c fun x => { x with reserved := false }
  let w3 := w2.unwind c .coverLost
  let w4 := w3.editCtx c fun x => { x.enter .faulted with lightRun := 0, cause := some cause }
  (w4.notify .fault).markDirty c

/-! ## Push and settling -/

/-- The capacity of a cover stack (R82). -/
def stackCapacity : Nat := 8

/-- A sleep is reserved (R85, R113): the entry goes on top of the cover's stack, the cover's overflow mark and sleep-dwell
count are cleared (R107), the candidate gains its reserved-sleep mark and a GATE want, and both are dirty.
DESIGN CHOICE (log 40): R107 sets the cover's sleep-dwell count to 0 at the push, though R113 says that the cover's context is
not changed beyond its stack and its overflow mark. -/
def Cluster.reserve (w : Cluster) (c cover : Carrier) (absorbed : Nat) (reason : Reason) (deepen : Bool) : Cluster :=
  let e : Entry :=
    { carrier := c, phase := .reserved, absorbed, depth := .none, settle := 0, reason, deepenAtOnce := deepen }
  let w1 := w.setStack cover (w.stack cover ++ [e])
  let w2 := (w1.editCtx cover fun x => { x with overflowSeen := false, sleepCount := 0 }).markDirty cover
  let w3 := (w2.editCtx c fun x =>
    { x with reserved := true, sleepCount := 0, lastReason := some reason, lastRefusal := none }).markDirty c
  w3.want c .gate

/-- One decision pass counted for an entry: a SETTLING entry gains 1 and becomes SETTLED on reaching the settle sweeps
(R88). -/
def Entry.ageSettle (settle : Nat) (e : Entry) : Entry :=
  if e.phase = .settling then
    { e with settle := e.settle + 1, phase := if settle ≤ e.settle + 1 then .settled else .settling }
  else e

/-- Settle ageing of the owner's stack (R88). -/
def Cluster.ageSettling (w : Cluster) (k : Carrier) (settle : Nat) : Cluster :=
  w.setStack k ((w.stack k).map (Entry.ageSettle settle))

/-- What a LOWER ACK does to the entry (R87): depth reached LIGHT, deepen at once cleared, and a RESERVED entry becomes
SETTLING, or SETTLED at once with 0 settle sweeps. -/
def Entry.lowered (settle : Nat) (e : Entry) : Entry :=
  if e.phase = .reserved then
    { e with
      depth := .light
      deepenAtOnce := false
      settle := 0
      phase := if settle = 0 then .settled else .settling }
  else { e with depth := .light, deepenAtOnce := false }

end Sys2Proof.Machine
end

