-- ==== Sys2Proof/Machine/Windows.lean ====
section
/-! DEFINITION. Night windows (section 9): matches, phases and their effects on bound carriers; the minute's countdowns (R38) and
the night accounting (R189). -/

namespace Sys2Proof.Machine

/-- The part of a match that a set field or ANY decides (R158). -/
def fieldFits (field : Option Nat) (v : Nat) : Bool :=
  match field with
  | some x => x == v
  | none => true

/-- A match fires at a minute event (R158). -/
def WindowMatch.fires (m : WindowMatch) (t : MinuteStamp) : Bool :=
  m.mask.getLsbD t.weekday && fieldFits m.hour t.hours && fieldFits m.minute t.minutes

/-- The carrier is bound to the window: present, and its configuration copy names the window (R159). -/
def Context.boundTo (x : Context) (n : WindowNo) : Bool := x.cfg.present && x.cfg.window == some n

/-- The carriers bound to a window, in ascending number. -/
def Cluster.bound (w : Cluster) (n : WindowNo) : List Carrier := carriers.filter fun c => (w.ctx c).boundTo n

/-- What an OPEN gives a bound carrier (R161). -/
def Context.openNight (x : Context) : Context :=
  { x with sleepsTonight := 0, lightMinutes := 0, darkMinutes := 0, deepenDeclined := false }

/-- The effects of an OPEN on the bound carriers (R161). -/
def Cluster.openEffects (w : Cluster) (n : WindowNo) : Cluster :=
  w.editAll fun x => if x.boundTo n then x.openNight else x

/-- The effects of a CLOSE: WINDOW_CLOSE to every bound carrier that holds an entry, ascending (R162). -/
def Cluster.closeEffects (w : Cluster) (n : WindowNo) : Cluster :=
  w.wakeAll ((w.bound n).filter fun c => w.holdsEntry c) .windowClose

/-- A dark carrier is wanted warm with reason DEEP_STOP; its entry keeps its phase (R163). -/
def Cluster.deepStop (w : Cluster) (c : Carrier) : Cluster :=
  (((w.editEntry c fun e => { e with reason := .deepStop }).editCtx c fun x =>
    { x with lastReason := some .deepStop }).markDirty c).want c .warm

/-- The bound carriers in DARK with an entry not RETURNING, ascending (R163). -/
def Cluster.darkBound (w : Cluster) (n : WindowNo) : List Carrier :=
  (w.bound n).filter fun c => (w.ctx c).state == .dark && w.holdsActive c

/-- The effects of a DEEP_STOP (R163). -/
def Cluster.deepStopEffects (w : Cluster) (n : WindowNo) : Cluster := (w.darkBound n).foldl Cluster.deepStop w

/-- The follow-up of a DEEP_STOP: those of the dark carriers that have no WARM want (R164). -/
def Cluster.followUp (w : Cluster) (n : WindowNo) : Cluster :=
  ((w.darkBound n).filter fun c => !w.wants c .warm).foldl Cluster.deepStop w

/-- The countdowns of a present context (R38). -/
def Context.countDown (x : Context) : Context :=
  if x.cfg.present then
    { x with
      holdLeft := if x.holdLeft ≤ 254 then x.holdLeft - 1 else x.holdLeft
      resleepLeft := x.resleepLeft - 1
      lightRun := if x.state = .light then bump 255 x.lightRun else x.lightRun }
  else x

/-- The minutes that the night accounting counts for a present carrier (R189). -/
def Context.account (x : Context) : Context :=
  if x.cfg.present then
    match x.state with
    | .light | .deepening => { x with lightMinutes := bump 65535 x.lightMinutes }
    | .dark | .warming => { x with darkMinutes := bump 65535 x.darkMinutes }
    | _ => x
  else x

/-- The saving that the night accounting adds for a present carrier (R189). -/
def Context.saving (x : Context) : Nat :=
  if x.cfg.present then
    match x.state with
    | .light | .deepening => x.cfg.lightSaving
    | .dark | .warming => x.cfg.darkSaving
    | _ => 0
  else 0

/-- The top of the fleet tally (R188). -/
def tallyTop : Nat := 4294967295

/-- The saving of all carriers in one minute. -/
def Cluster.saving (w : Cluster) : Nat := (carriers.map fun c => (w.ctx c).saving).sum

/-! ## Over the state -/

def State.window (s : State) (n : WindowNo) : Window := s.windows[n]

def State.setPhase (s : State) (n : WindowNo) (ph : WindowPhase) : State :=
  { s with windows := s.windows.set n { s.window n with phase := ph } }

/-- The phases as the tests read them (R159). -/
def State.phases (s : State) : Vector WindowPhase 8 := s.windows.map Window.phase

/-- CLOSE acts on an OPEN or SHALLOW window (R160, R162). -/
def State.closeMatch (s : State) (n : WindowNo) : State :=
  if (s.window n).phase = .closed then s else (s.setPhase n .closed).on fun w => w.closeEffects n

/-- OPEN acts on a SHUT window (R160, R161). -/
def State.openMatch (s : State) (n : WindowNo) : State :=
  if (s.window n).phase = .closed then (s.setPhase n .opened).on fun w => w.openEffects n else s

/-- DEEP_STOP acts on an OPEN window (R160, R163). -/
def State.deepStopMatch (s : State) (n : WindowNo) : State :=
  if (s.window n).phase = .opened then (s.setPhase n .shallow).on fun w => w.deepStopEffects n else s

/-- The follow-up at a minute event that finds the window SHALLOW (R164). -/
def State.shallowFollowUp (s : State) (n : WindowNo) : State :=
  if (s.window n).phase = .shallow then s.on fun w => w.followUp n else s

/-- One window takes the minute event: CLOSE, then OPEN, then DEEP_STOP, then the follow-up (R160, R164). The matches of a
window that is not enabled are not evaluated (R158). -/
def State.evalWindow (s : State) (t : MinuteStamp) (n : WindowNo) : State :=
  let e := (s.window n).entry
  let s1 := if e.enabled && e.closeAt.fires t then s.closeMatch n else s
  let s2 := if e.enabled && e.openAt.fires t then s1.openMatch n else s1
  let s3 := if e.enabled && e.deepStopAt.fires t then s2.deepStopMatch n else s2
  s3.shallowFollowUp n

/-- One part of the minute event (R38, R154, R189). -/
def State.minutePart (s : State) (t : MinuteStamp) : MinutePart → State
  | .window n => s.evalWindow t n
  | .countdown => if s.runState = .halted then s else s.on fun w => w.editAll Context.countDown
  | .accounting =>
    if s.runState = .halted then s
    else { s with fleetTally := min tallyTop (s.fleetTally + s.cluster.saving) }.on fun w => w.editAll Context.account

/-- The minute event: every part once, in the order given, and the MINUTE notice (R154). -/
def State.takeMinute (s : State) (t : MinuteStamp) (order : List MinutePart) : State :=
  ((completeParts order).foldl (fun v p => v.minutePart t p) s).notify .minute

/-- One window takes its new entry, and its phase is settled by the old and new enabled flags (R165). DESIGN CHOICE (log 38): a
disabled window that was OPEN or SHALLOW has its CLOSE effects on the cover stacks, as R165 and R171 say, though R82 says that
LOAD_POLICY leaves the stacks as they are. -/
def State.settleWindow (s : State) (new : Vector WindowEntry 8) (n : WindowNo) : State :=
  let old := s.window n
  let e := new[n]
  if old.entry.enabled && e.enabled then { s with windows := s.windows.set n { old with entry := e } }
  else
    let s1 := { s with windows := s.windows.set n { entry := e, phase := .closed } }
    if old.entry.enabled && old.phase != .closed then s1.on fun w => w.closeEffects n else s1

/-- A window table that has been read in full is applied (R157, R165). -/
def State.applyWindows (s : State) (new : Vector WindowEntry 8) (order : List WindowNo) : State :=
  (completeWindows order).foldl (fun v n => v.settleWindow new n) s

end Sys2Proof.Machine
end

