-- ==== Sys2Proof/Machine/Timing.lean ====
section
/-! DEFINITION. The civil clock (R152, R153) and the Sweep Timer's counters (R65, R67). -/

namespace Sys2Proof.Machine

/-- One second: the whole carry through minutes, hours, weekday and day number, and the divider from 0 again (R153). -/
def Clock.second (k : Clock) : Clock :=
  let k := { k with sub := 0 }
  if k.seconds < 59 then { k with seconds := k.seconds + 1 }
  else if k.minutes < 59 then { k with seconds := 0, minutes := k.minutes + 1 }
  else if k.hours < 23 then { k with seconds := 0, minutes := 0, hours := k.hours + 1 }
  else
    { k with
      seconds := 0
      minutes := 0
      hours := 0
      weekday := if k.weekday < 6 then k.weekday + 1 else 0
      day := wrapUp 65536 k.day }

/-- The second carries seconds from 59 to 0 (R154). -/
def Clock.carries (k : Clock) : Bool := decide (59 ≤ k.seconds)

/-- What a minute event carries: seconds, minute, hour, weekday and day number (R154). -/
def Clock.stamp (k : Clock) : MinuteStamp :=
  { seconds := k.seconds, minutes := k.minutes, hours := k.hours, weekday := k.weekday, day := k.day }

/-- A second of the civil clock (R153); a carry from 59 to 0 raises a minute event with the clock after the carry (R154). An
invalid clock stands still. -/
def State.clockSecond (s : State) : State :=
  if s.clock.valid then
    let k := s.clock.second
    { s with
      clock := k
      minutesDue := if s.clock.carries then s.minutesDue ++ [k.stamp] else s.minutesDue }
  else s

/-- The timer is reloaded for new pacing (R67). DESIGN CHOICE (log 36): only what R67 lists is set anew; the tick divider and the
100 ms divider run on, so the first 1 ms tick after the reload may come up to 1 ms early. -/
def Timer.reloaded (t : Timer) (reload : Nat) : Timer := { t with prescaler := 0, downCount := reload }

/-- One 1 ms tick: the prescaler advances, and the down-count is stepped when the low bits that the code names are 0 (R65); the
100 ms divider advances (R123). -/
def Timer.millisecond (t : Timer) (code : Nat) : Timer :=
  let ps := wrapUp 128 t.prescaler
  { t with
    prescaler := ps
    downCount := if ps % 2 ^ code = 0 then t.downCount - 1 else t.downCount
    hundred := wrapUp 100 t.hundred }

/-- A 1 ms tick steps the down-count to 0 (R65). -/
def Timer.expires (t : Timer) (code : Nat) : Bool :=
  wrapUp 128 t.prescaler % 2 ^ code == 0 && decide (t.downCount ≤ 1)

/-- A 1 ms tick wraps the 100 ms divider (R123). -/
def Timer.wrapsHundred (t : Timer) : Bool := wrapUp 100 t.hundred == 0

end Sys2Proof.Machine
end

