-- ==== Sys2Proof/Machine/ClockMeanings.lean ====
section
/-! DEFINITION. The meanings of the civil clock's second and of the minute event (R153, R154). -/

namespace Sys2Proof.Machine

/-- CIVIL_CLOCK_SECOND (R153). -/
def execCivilClockSecond (s : State) : Result := .next s.clockSecond

/-- MINUTE_EVENT (R154): the oldest minute event raised and not yet taken; none is taken at any other moment (log 5). -/
def execMinuteEvent (order : List MinutePart) (s : State) : Result :=
  .next <|
    match s.minutesDue with
    | t :: ts => ({ s with minutesDue := ts }.takeMinute t order).testReleasingEnd
    | [] => s

end Sys2Proof.Machine
end

