-- ==== Sys2Proof/Machine/Load.lean ====
section
/-! DEFINITION. Load arithmetic (R45 to R59) and what the gather's visit does to a context (R41 to R44). -/

namespace Sys2Proof.Machine

/-- The instantaneous utilisation in per-mille, and whether the sample is clipped (R45; log 30). -/
def utilisation (u capacity : Nat) : Nat × Bool :=
  if u ≤ capacity then ((u * 1000 + capacity / 2) / capacity, false) else (1000, true)

/-- The step of the smoothing for a distance m (R47). -/
def smoothStep (shift m : Nat) : Nat := if shift = 0 then m else (m + 2 ^ (shift - 1)) / 2 ^ shift

/-- L moved toward its target (R47). -/
def smooth (shift load target : Nat) : Nat :=
  if load ≤ target then load + smoothStep shift (target - load) else load - smoothStep shift (load - target)

/-- The four answers of a comparison (R52); atLimit is AT. -/
inductive Comparison where
  | below | atLimit | above | unordered
deriving DecidableEq, Repr

/-- A load against a limit, both trusted. -/
def compareOrdered (x limit : Nat) : Comparison :=
  if x < limit then .below else if x = limit then .atLimit else .above

/-- A load against a limit under a class (R52). -/
def compareLoad (cls : LoadClass) (x limit : Nat) : Comparison :=
  match cls with
  | .absent | .aged => .unordered
  | .fresh | .clipped => compareOrdered x limit

/-- The sleep comparison of a candidate (R53): a CLIPPED candidate gives ABOVE. -/
def sleepComparison (x : Context) : Comparison :=
  if x.cls = .clipped then .above else compareLoad x.cls x.load (16 * x.cfg.sleepLimit)

/-- The wake comparison of a cover (R54). -/
def wakeComparison (x : Context) : Comparison := compareLoad x.cls x.load (16 * x.cfg.wakeLimit)

/-- The class check of a cover passes (R55). -/
def LoadClass.trusted : LoadClass → Bool
  | .fresh | .clipped => true
  | .absent | .aged => false

/-- The absorbed load of a candidate onto its cover (R56). -/
def absorbedLoad (cand cover : Context) : Nat :=
  min 65535 (ceilDiv (cand.load * cand.cfg.capacity) cover.cfg.capacity)

/-- Entries whose A counts in a projection: RESERVED and SETTLING (R57, R58). -/
def Entry.counted (e : Entry) : Bool := e.phase == .reserved || e.phase == .settling

/-- The sum of the counted A of a stack (R57). -/
def countedLoad (es : List Entry) : Nat := ((es.filter Entry.counted).map Entry.absorbed).sum

/-- The projection of a cover for a candidate's absorbed load (R57). -/
def projection (cover : Context) (es : List Entry) (absorbed : Nat) : Nat :=
  min 65535 (cover.load + countedLoad es + absorbed)

/-- The projection against the cover's absorb ceiling (R59). -/
def ceilingComparison (cover : Context) (es : List Entry) (absorbed : Nat) : Comparison :=
  compareLoad cover.cls (projection cover es absorbed) (16 * cover.cfg.absorbLimit)

/-! ## The visit to an observation slot -/

/-- An applied observation (R44): L moves toward 16 × p, or takes it when the class is ABSENT (R46); the class becomes
CLIPPED or FRESH; last users is stored; the unordered-now mark is cleared. -/
def Context.applyObservation (used users : Nat) (x : Context) : Context :=
  let p := utilisation used x.cfg.capacity
  let target := 16 * p.1
  { x with
    load := if x.cls = .absent then target else smooth x.cfg.shift x.load target
    cls := if p.2 then .clipped else .fresh
    lastUsers := users
    unorderedNow := false }

/-- A taken observation (R41): stamp and age, and the observation applied to a SERVING carrier. -/
def Context.takeObservation (stamp : Byte) (used users : Nat) (x : Context) : Context :=
  let y := { x with lastStamp := some stamp, age := 0 }
  if y.state = .serving then y.applyObservation used users else y

/-- A torn or not-new slot (R42). DESIGN CHOICE (log 39): the age rises, and a change of it shows in the mirror (R23, R63), though
the table of R9 says of a not-new slot that the host sees no change in the mirror. -/
def Context.missObservation (x : Context) : Context := { x with age := bump 255 x.age }

/-- Class ageing (R43). -/
def Context.ageClass (freshness : Nat) (x : Context) : Context :=
  if (x.cls = .fresh ∨ x.cls = .clipped) ∧ freshness < x.age then { x with cls := .aged } else x

/-- Whether an observation is taken (R9): the stamps agree and differ from the last stamp seen. -/
def observationTaken (x : Context) (first second : Byte) : Bool := first == second && x.lastStamp != some first

/-- The whole visit of a slot whose three reads have completed: the outcome of R9, then class ageing (R40). -/
def Context.visitSlot (freshness : Nat) (first second : Byte) (used users : Nat) (x : Context) : Context :=
  (if observationTaken x first second then x.takeObservation first used users else x.missObservation).ageClass freshness

end Sys2Proof.Machine
end

