-- ==== Sys2Proof/Machine/Decision.lean ====
section
/-! DEFINITION. The tests of the decision pass (section 6): eligibility, the sleep test and its SLEEP_NOW variant, the cover
wake test and the wake-pop, the deepen test, and one visit. -/

namespace Sys2Proof.Machine

/-- What the tests read besides the cluster: the policy, the failsafe condition and the window phases. -/
structure TestSetting where
  policy : Policy
  failsafe : Bool
  phases : Vector WindowPhase 8

/-- The phase that a carrier's window is in; none when no window is named. -/
def TestSetting.phaseOf (t : TestSetting) (x : Context) : Option WindowPhase :=
  x.cfg.window.map fun n => t.phases[n]

/-- A comparison made for a carrier came out UNORDERED: its unordered-now mark is set (R61), and DATA with the strict-data
flag on (R62). -/
def Cluster.markUnordered (w : Cluster) (c : Carrier) (strict : Bool) : Cluster :=
  let v := w.editCtx c fun x => { x with unorderedNow := true }
  if strict then v.notify .data else v

/-! ## The sleep test -/

/-- Which sleep test is made: the pass's own, or that of SLEEP_NOW with its depth (R117). -/
inductive SleepMode where
  | pass
  | directed (dark : Bool)
deriving DecidableEq, Repr

/-- Condition 1 (R109, R117): the phases that permit a sleep. -/
def SleepMode.windowOk (m : SleepMode) : Option WindowPhase → Bool
  | some .opened => true
  | some .shallow => m != .directed true
  | some .closed | none => false

/-- The eligibility of a cover (R81): none when it is eligible, else the refusal of the first failing condition. DESIGN
CHOICE (log 32): the cover's own stack takes no part, as R81 says, although R27 says that a carrier with a non-empty stack
is not eligible as a cover. -/
def Cluster.coverRefusal (w : Cluster) (c cover : Carrier) : Option RefusalCode :=
  let k := w.ctx cover
  if k.cfg.present = false then some .coverIneligible
  else if cover = c then some .coverIneligible
  else if k.state ≠ .serving ∨ k.reserved = true then some .coverIneligible
  else if w.holdsEntry cover then some .coverIneligible
  else if k.cls.trusted then none
  else some .unordered

/-- What a sleep test finds. -/
inductive SleepVerdict where
  /-- Conditions 1 to 6 and the load comparison AT or ABOVE: refused, the sleep-dwell count falls to 0. -/
  | refusedEarly (code : RefusalCode)
  /-- Condition 8: the candidate's own class made the comparison UNORDERED; the count falls to 0. -/
  | unorderedLoad
  /-- Conditions 9 to 12: refused with the raised count kept. -/
  | refusedLate (code : RefusalCode)
  /-- Conditions 10 and 11: refused UNORDERED because of the cover's class. -/
  | unorderedCover (cover : Carrier)
  /-- Condition 12: the cover's stack is full. -/
  | stackFull (cover : Carrier)
  /-- All conditions hold. -/
  | admitted (cover : Carrier) (absorbed : Nat)
deriving DecidableEq, Repr

/-- Conditions 10 to 12 (R111). -/
def Cluster.coverVerdict (w : Cluster) (c cover : Carrier) : SleepVerdict :=
  match w.coverRefusal c cover with
  | some .unordered => .unorderedCover cover
  | some code => .refusedLate code
  | none =>
    let a := absorbedLoad (w.ctx c) (w.ctx cover)
    match ceilingComparison (w.ctx cover) (w.stack cover) a with
    | .above => .refusedLate .ceiling
    | .unordered => .unorderedCover cover
    | .below | .atLimit => if stackCapacity ≤ (w.stack cover).length then .stackFull cover else .admitted cover a

/-- The twelve conditions in their order (R108 to R111, R117). -/
def Cluster.sleepVerdict (w : Cluster) (t : TestSetting) (m : SleepMode) (c : Carrier) : SleepVerdict :=
  let x := w.ctx c
  if m.windowOk (t.phaseOf x) = false then .refusedEarly .window
  else if t.failsafe then .refusedEarly .failsafe
  else if 0 < x.resleepLeft then .refusedEarly .resleep
  else if x.cfg.budget ≤ x.sleepsTonight then .refusedEarly .budget
  else match x.cfg.cover with
    | none => .refusedEarly .noCover
    | some cover =>
      if x.cfg.userCeiling < x.lastUsers then .refusedEarly .users
      else match sleepComparison x with
        | .atLimit | .above => .refusedEarly .load
        | .unordered => .unorderedLoad
        | .below =>
          if m = .pass ∧ bump 255 x.sleepCount < x.cfg.sleepDwell then .refusedLate .dwellPending
          else w.coverVerdict c cover

/-- A refusal is recorded: the last refusal, and in the pass the sleep-dwell count (R110, R112, R117). -/
def Context.refuse (m : SleepMode) (code : RefusalCode) (count : Nat) (x : Context) : Context :=
  { x with lastRefusal := some code, sleepCount := if m = .pass then count else x.sleepCount }

/-- What each verdict does (R110 to R113, R117, R118). -/
def Cluster.applyVerdict (w : Cluster) (t : TestSetting) (m : SleepMode) (c : Carrier) : SleepVerdict → Cluster
  | .refusedEarly code => w.editCtx c (Context.refuse m code 0)
  | .unorderedLoad => (w.editCtx c (Context.refuse m .unordered 0)).markUnordered c t.policy.strictData
  | .refusedLate code => w.editCtx c fun x => x.refuse m code (bump 255 x.sleepCount)
  | .unorderedCover cover =>
    (w.editCtx c fun x => x.refuse m .unordered (bump 255 x.sleepCount)).markUnordered cover t.policy.strictData
  | .stackFull cover =>
    (w.editCtx c fun x => x.refuse m .stackFull (bump 255 x.sleepCount)).editCtx cover fun x =>
      { x with overflowSeen := true }
  | .admitted cover absorbed =>
    match m with
    | .pass => w.reserve c cover absorbed .dwell false
    | .directed dark => w.reserve c cover absorbed .directed dark

/-- The sleep test of a candidate. -/
def Cluster.sleepTest (w : Cluster) (t : TestSetting) (m : SleepMode) (c : Carrier) : Cluster :=
  w.applyVerdict t m c (w.sleepVerdict t m c)

/-- The conditions under which a sleep test is made (R107): present, SERVING, no reserved sleep, an empty stack, not held. -/
def Cluster.sleepTestable (w : Cluster) (c : Carrier) : Bool :=
  let x := w.ctx c
  x.cfg.present && x.state == .serving && !x.reserved && (w.stack c).isEmpty && x.holdLeft == 0

/-! ## The cover wake test -/

/-- The topmost entry that is not RETURNING (R89). -/
def topActive (es : List Entry) : Option Entry := es.reverse.find? fun e => e.phase != .returning

/-- The wake-pop (R89, R106): a COVER_LOAD request to the topmost entry not RETURNING, and the count set to 0; with none
such, nothing. -/
def Cluster.wakePop (w : Cluster) (k : Carrier) : Cluster :=
  match topActive (w.stack k) with
  | some e => (w.wakeRequest e.carrier .coverLoad).editCtx k fun x => { x with wakeCount := 0 }
  | none => w

/-- The wake-dwell count moves by the comparison (R104). -/
def Cluster.countWake (w : Cluster) (k : Carrier) (strict : Bool) : Cluster :=
  match wakeComparison (w.ctx k) with
  | .above => w.editCtx k fun x => { x with wakeCount := bump 255 x.wakeCount }
  | .unordered => (w.editCtx k fun x => { x with wakeCount := bump 255 x.wakeCount }).markUnordered k strict
  | .below | .atLimit => w.editCtx k fun x => { x with wakeCount := 0 }

/-- The cover wake test of an owner (R104). -/
def Cluster.wakeTest (w : Cluster) (k : Carrier) (strict : Bool) : Cluster :=
  let v := w.countWake k strict
  if (v.ctx k).cfg.wakeDwell ≤ (v.ctx k).wakeCount then v.wakePop k else v

/-! ## The deepen test -/

/-- The conditions whose failure withdraws a DARKEN want (R116, R144): window OPEN, mark clear, entry not RETURNING. -/
def Cluster.mayDeepen (w : Cluster) (t : TestSetting) (c : Carrier) : Bool :=
  !w.isReturning c && t.phaseOf (w.ctx c) == some .opened && !(w.ctx c).deepenDeclined

/-- The deepen test (R115), and the withdrawal of a DARKEN want whose conditions no longer hold (R116). -/
def Cluster.deepenTest (w : Cluster) (t : TestSetting) (c : Carrier) : Cluster :=
  let x := w.ctx c
  if w.mayDeepen t c then
    if 1 ≤ x.cfg.deepenDelay ∧ x.cfg.deepenDelay ≤ x.lightRun then w.want c .darken else w
  else if w.wants c .darken then w.dropWant c else w

/-! ## One visit -/

/-- One visit of a present carrier: settle ageing, then the one test that its state calls for (R102, R103). -/
def Cluster.visit (w : Cluster) (t : TestSetting) (c : Carrier) : Cluster :=
  let v := if (w.stack c).isEmpty then w else w.ageSettling c t.policy.settle
  let x := v.ctx c
  match x.state with
  | .serving =>
    if (v.stack c).isEmpty = false then v.wakeTest c t.policy.strictData
    else if x.reserved then v
    else if x.holdLeft = 0 then v.sleepTest t .pass c
    else v.editCtx c fun y => { y with sleepCount := 0 }
  | .light => v.deepenTest t c
  | _ => v

/-- A visit of the pass passes over a carrier that is not present (R102). -/
def Cluster.passVisit (w : Cluster) (t : TestSetting) (c : Carrier) : Cluster :=
  if (w.ctx c).cfg.present then w.visit t c else w

end Sys2Proof.Machine
end

