-- ==== Sys2Proof/Machine/Formats.lean ====
section
/-! DEFINITION. The byte layouts of section 12: offsets, the records the part reads (policy block, window table, carrier row,
slot fields, observation) and those it writes (header, mirror record, outcome fields). -/

namespace Sys2Proof.Machine

/-! ## Offsets (section 12.1) -/

def policyOffset : Nat := 0x0040
def windowTableOffset : Nat := 0x0100
def slotOffset (n : Slot) : Nat := 0x0200 + 32 * n.val
def rowOffset (c : Carrier) : Nat := 0x0800 + 32 * c.val
def observationOffset (c : Carrier) : Nat := 0x2800 + 16 * c.val
def mirrorOffset (c : Carrier) : Nat := 0x3800 + 32 * c.val

/-! ## What the part reads -/

/-- The policy block (section 12.3), each setting held in its range (R39, R66, R88, R135). -/
def parsePolicy (b : List Byte) : Policy where
  reload := max 1 (byteAt b 0x00)
  prescale := min 7 (byteAt b 0x01)
  freshness := clamp 1 15 (byteAt b 0x02)
  failsafeLimit := max 1 (byteAt b 0x03)
  settle := min 15 (byteAt b 0x04)
  strictData := byteAt b 0x05 != 0
  shedAttempts := clamp 1 15 (byteAt b 0x06)
  shedInterval := max 1 (byteAt b 0x07)
  residual := byteAt b 0x08
  wakeAttempts := clamp 1 8 (byteAt b 0x09)
  busyBackoff := max 1 (byteAt b 0x0A)
  timeouts :=
    { gate := max 1 (byteAt b 0x0C)
      shed := max 1 (byteAt b 0x0D)
      lower := max 1 (byteAt b 0x0E)
      darken := max 1 (byteAt b 0x0F)
      warm := max 1 (byteAt b 0x10)
      raise := max 1 (byteAt b 0x11)
      reopen := max 1 (byteAt b 0x12)
      query := max 1 (byteAt b 0x13) }

/-- An hour or minute field of a match: 0xFF is ANY, a value above the top is held as the top (R157). -/
def parseMatchField (top v : Nat) : Option Nat := if v = 0xFF then none else some (min top v)

/-- A match at offset i of an entry (section 12.3): bit 7 of the mask is ignored. -/
def parseMatch (b : List Byte) (i : Nat) : WindowMatch where
  mask := BitVec.ofNat 7 (byteAt b i)
  hour := parseMatchField 23 (byteAt b (i + 1))
  minute := parseMatchField 59 (byteAt b (i + 2))

/-- Window entry n of the window table (section 12.3, R157). -/
def parseWindow (b : List Byte) (n : WindowNo) : WindowEntry where
  enabled := byteAt b (16 * n.val) != 0
  openAt := parseMatch b (16 * n.val + 4)
  deepStopAt := parseMatch b (16 * n.val + 8)
  closeAt := parseMatch b (16 * n.val + 12)

/-- The whole window table. -/
def parseWindows (b : List Byte) : Vector WindowEntry 8 := Vector.ofFn (parseWindow b)

/-- The cover field of a row (R20): a carrier number other than the carrier's own, else none. -/
def parseCover (c : Carrier) (v : Nat) : Option Carrier :=
  if h : v < 256 then (if v = c.val then none else some ⟨v, h⟩) else none

/-- The window field of a row (R20). -/
def parseWindowNo (v : Nat) : Option WindowNo := if h : v < 8 then some ⟨v, h⟩ else none

/-- The carrier table row of carrier c (section 12.5), each field held by R20. -/
def parseRow (c : Carrier) (b : List Byte) : CarrierRow where
  present := byteAt b 0x00 != 0
  capacityOk := decide (10 ≤ le16 b 0x04 ∧ le16 b 0x04 ≤ 4000)
  cfg :=
    { present := byteAt b 0x00 != 0
      window := parseWindowNo (byteAt b 0x01)
      cover := parseCover c (le16 b 0x02)
      capacity := le16 b 0x04
      sleepLimit := min 1000 (le16 b 0x06)
      wakeLimit := min 1000 (le16 b 0x08)
      absorbLimit := min 1000 (le16 b 0x0A)
      shift := min 7 (byteAt b 0x0C)
      sleepDwell := max 1 (byteAt b 0x0D)
      wakeDwell := max 1 (byteAt b 0x0E)
      userCeiling := byteAt b 0x0F
      budget := min 15 (byteAt b 0x10)
      resleepHold := byteAt b 0x11
      deepenDelay := byteAt b 0x12
      lightSaving := min 4095 (le16 b 0x14)
      darkSaving := min 4095 (le16 b 0x16) }

/-- The fields of a directive slot from byte 0x01 to byte 0x0F (section 12.4): kind, selector, state mask, parameters. -/
def parseSlot (n : Slot) (b : List Byte) : DirectiveRun where
  slot := n
  kind := directiveKindOf (byteAt b 0)
  base := b.getD 1 0#8
  mask := b.getD 2 0#8
  stateMask := BitVec.ofNat 16 (le16 b 3)
  params := b.drop 5
  position := 0
  begun := false
  stopped := false
  affected := 0
  skipped := 0
  policy := none
  row := none

/-! ## What the part writes -/

/-- The flags of a mirror record (section 12.6). -/
def mirrorFlags (w : Cluster) (c : Carrier) : Nat :=
  let x := w.ctx c
  let depth := match w.entryOf c with
    | some e => e.depth.code
    | none => 0
  x.reserved.toNat + 2 * x.deepenDeclined.toNat + 4 * x.unorderedNow.toNat + 8 * x.overflowSeen.toNat
    + 16 * strayCode x.strayStep + 64 * (decide (x.holdLeft ≠ 0)).toNat + 128 * depth

/-- The cover as a mirror record codes it: 0xFFFF for none (section 12.6). -/
def coverCode : Option Carrier → Nat
  | some k => k.val
  | none => 0xFFFF

/-- The stacked carrier numbers, bottom first, and 0 above the depth (R191). -/
def stackBytes (es : List Entry) : List Byte :=
  (es.map (fun e => BitVec.ofNat 8 e.carrier.val) ++ zeros 8).take 8

/-- The mirror record of a carrier, as 32 bytes (section 12.6, R191). -/
def mirrorRecord (w : Cluster) (c : Carrier) (edition : Nat) : List Byte :=
  let x := w.ctx c
  leBytes 1 edition ++ leBytes 1 x.state.code ++ leBytes 1 x.cls.code ++ leBytes 1 (w.stack c).length
    ++ leBytes 2 x.load ++ leBytes 2 (coverCode x.cfg.cover) ++ stackBytes (w.stack c)
    ++ leBytes 2 (mirrorFlags w c) ++ leBytes 1 x.sleepsTonight ++ leBytes 1 (reasonCode x.lastReason)
    ++ leBytes 1 (refusalCode x.lastRefusal) ++ leBytes 1 (causeCode x.cause) ++ leBytes 2 x.lightMinutes
    ++ leBytes 2 x.darkMinutes ++ leBytes 1 x.holdLeft ++ leBytes 1 x.resleepLeft ++ leBytes 1 x.age ++ zeros 3

/-- The header, as 64 bytes (section 12.2, R14, R191). -/
def headerBytes (s : State) : List Byte :=
  leBytes 4 0x00000C01 ++ leBytes 1 s.runState.code ++ leBytes 1 s.failsafe.toNat ++ leBytes 1 s.starvation
    ++ leBytes 1 s.clock.valid.toNat ++ leBytes 4 s.sweepCount ++ leBytes 2 s.editionWord ++ zeros 2
    ++ leBytes 4 s.fleetTally ++ leBytes 2 s.torn ++ leBytes 2 s.late ++ leBytes 2 s.overruns ++ leBytes 2 s.memErrors
    ++ leBytes 1 s.clock.seconds ++ leBytes 1 s.clock.minutes ++ leBytes 1 s.clock.hours ++ leBytes 1 s.clock.weekday
    ++ leBytes 2 s.clock.day ++ zeros 30

/-- The outcome fields 0x10 to 0x14 of a slot (section 12.4). -/
def outcomeBytes (o : DirectiveOutcome) : List Byte :=
  leBytes 2 o.affected ++ leBytes 2 o.skipped ++ leBytes 1 o.code.code

end Sys2Proof.Machine
end

