-- ==== Sys2Proof/Machine/Exchange.lean ====
section
/-! DEFINITION. The Exchange Port's accesses (R5, R6) and the phases of a pass: gather (R40), starvation and failsafe (R72 to
R74), directive intake (R10, R12), and write-back (R11, R13 to R15). The phases are written last first, since each hands on to
the next. -/

namespace Sys2Proof.Machine

/-! ## Accesses -/

/-- A read is issued (R5). -/
def State.read (s : State) (base : BitVec 20) (offset length : Nat) (purpose : Purpose) : State :=
  { s with
    port := some
      { number := s.accessSeq, write := false, address := addressOf base offset, length, data := [], purpose, waited := 0 }
    accessSeq := s.accessSeq + 1 }

/-- A write is issued (R5). -/
def State.write (s : State) (base : BitVec 20) (offset : Nat) (data : List Byte) (purpose : Purpose) : State :=
  { s with
    port := some
      { number := s.accessSeq, write := true, address := addressOf base offset, length := data.length, data, purpose,
        waited := 0 }
    accessSeq := s.accessSeq + 1 }

/-- A failed access is counted and sets FAULT (R6). -/
def State.countFailure (s : State) : State := { s with memErrors := bump 65535 s.memErrors }.notify .fault

/-- The pass goes to a phase. -/
def State.enterPhase (s : State) (p : Pass) (ph : Phase) : State := { s with pass := some { p with phase := ph } }

/-! ## Write-back -/

/-- The header write, the last of every write-back (R14): the mirror edition word rises before it when a mirror record has
been written. -/
def State.issueHeader (s : State) (p : Pass) (wrote : Bool) : State :=
  let s1 := if wrote then { s with editionWord := wrapUp 65536 s.editionWord } else s
  (s1.enterPhase p (.writeBack wrote [])).write p.base 0 (headerBytes s1) .header

/-- The check read of the next outcome, or the header when none is left (R11). -/
def State.nextOutcome (s : State) (p : Pass) (wrote : Bool) (todo : List Slot) : State :=
  match todo with
  | [] => s.issueHeader p wrote
  | n :: _ => (s.enterPhase p (.writeBack wrote todo)).read p.base (slotOffset n) 1 (.outcomeCheck n)

/-- The outcomes that stand in the queue now are handled (R11). -/
def State.beginOutcomes (s : State) (p : Pass) (wrote : Bool) : State :=
  s.nextOutcome p wrote (s.cluster.outcomes.map DirectiveOutcome.slot)

/-- The first dirty carrier at or above a number. The scan of a write-back goes up once: DESIGN CHOICE (log 35), a carrier
without a record in this write-back that turns dirty after the scan has passed its number waits for the next one. -/
def Cluster.nextDirty (w : Cluster) (start : Nat) : Option Carrier :=
  carriers.find? fun c => decide (start ≤ c.val) && (w.ctx c).dirty

/-- The next mirror record, or the outcomes when no carrier from the number on is dirty (R13): the edition is one above the
carrier's, and the dirty mark is cleared at issue (R13, R23). -/
def State.writeRecords (s : State) (p : Pass) (wrote : Bool) (start : Nat) : State :=
  match s.cluster.nextDirty start with
  | some c =>
    let e := wrapUp 256 (s.ctx c).edition
    let data := mirrorRecord s.cluster c e
    ((s.enterPhase p (.writeBack wrote [])).on fun w => w.setCtx c { w.ctx c with dirty := false }).write p.base
      (mirrorOffset c) data (.mirrorRecord c e)
  | none => s.beginOutcomes p wrote

/-- A write-back begins. -/
def State.beginWriteBack (s : State) (p : Pass) : State := s.writeRecords p false 0

/-- The end of a pass that an XBASE write has found in progress. DESIGN CHOICE (log 31): its write-back has used up marks of that
write with records at its own base, so every mark is set again, and the next write-back fills the whole mirror in the new area
(R2). -/
def State.remark (s : State) (p : Pass) : State := if p.moved then s.on Cluster.markAllDirty else s

/-- The pass ends; CHANGE is set when a mirror record has been written (R15). A start-up that waits for the port issues its
first read (log 14). -/
def State.endPass (s : State) (wrote : Bool) : State :=
  let s1 := { (if wrote then s.notify .change else s) with pass := none }
  match s1.startup with
  | some u => s1.read u.base policyOffset 192 .startupPolicy
  | none => s1

/-! ## Directive intake -/

/-- The decision pass begins at carrier 0 (R101), unless the run state has left RUNNING (R77). -/
def State.endIntake (s : State) (p : Pass) : State :=
  if p.leftRunning then s.beginWriteBack p else s.enterPhase p (.decision 0)

/-- The state of slot n is read, or the intake ends after slot 31 (R10). -/
def State.intakeFrom (s : State) (p : Pass) (n : Nat) : State :=
  if h : n < 32 then
    (s.enterPhase p (.intake none)).read p.base (slotOffset ⟨n, h⟩) 1 (.slotState ⟨n, h⟩)
  else s.endIntake p

/-- The reading of the sweep ends on a failure after TAKEN was to be written: the slot becomes the retake slot (R7, R8,
R12). -/
def State.failTaken (s : State) (p : Pass) (n : Slot) : State := { s with retake := some n }.beginWriteBack p

/-- The fields of a slot are read (R10); an outcome still queued for it leaves unwritten (R168). -/
def State.readFields (s : State) (p : Pass) (n : Slot) : State :=
  ((s.on fun w => w.outcomeLeaves n).enterPhase p (.intake none)).read p.base (slotOffset n + 1) 15 (.slotFields n)

/-- A POSTED slot is taken up: TAKEN is written (R10); an outcome still queued for it leaves unwritten (R168). -/
def State.writeTaken (s : State) (p : Pass) (n : Slot) : State :=
  ((s.on fun w => w.outcomeLeaves n).enterPhase p (.intake none)).write p.base (slotOffset n)
    [BitVec.ofNat 8 slotTaken] (.slotTaken n)

/-- A PROBE of that slot is in flight (R10). -/
def Cluster.inFlight (w : Cluster) (n : Slot) : Bool := w.probes.any fun r => r.slot == n

/-- The state of a slot has been read (R10, R12). -/
def State.slotStateRead (s : State) (p : Pass) (n : Slot) (v : Nat) : State :=
  if s.cluster.inFlight n then s.intakeFrom p (n.val + 1)
  else if v = slotPosted then s.writeTaken p n
  else if s.retake = some n then
    if v = slotTaken then s.readFields p n else { s with retake := none }.intakeFrom p (n.val + 1)
  else s.intakeFrom p (n.val + 1)

/-- The fields of a slot have been read: the directive is there to be executed (R168). A LOAD_POLICY first reads the policy
block (R171). -/
def State.beginDirective (s : State) (p : Pass) (d : DirectiveRun) : State :=
  let s1 := s.enterPhase p (.intake (some d))
  if d.kind = some .loadPolicy then s1.read p.base policyOffset 192 (.directivePolicy d.slot) else s1

/-- The directive has been executed: the retake slot returns to none if it was this one (R12), and the next slot is read. -/
def State.finishDirective (s : State) (p : Pass) (d : DirectiveRun) : State :=
  { s with retake := if s.retake = some d.slot then none else s.retake }.intakeFrom p (d.slot.val + 1)

/-- The directive has been executed and its outcome joins the queue (R168, R170). -/
def State.concludeDirective (s : State) (p : Pass) (d : DirectiveRun) (code : OutcomeCode) : State :=
  let o : DirectiveOutcome := { slot := d.slot, affected := d.affected, skipped := d.skipped, code }
  (s.on fun w => w.outcomeJoins o).finishDirective p d

/-! ## Gather -/

/-- Entering failsafe (R73): the condition, the FAILSAFE notice, and every stack unwound. -/
def State.enterFailsafe (s : State) : State :=
  ({ s with failsafe := true }.notify .failsafe).on fun w => w.unwindAll .failsafe

/-- The starvation check at the end of a gather (R72, R74). -/
def State.starvationCheck (s : State) (taken visited failed : Bool) : State :=
  if taken then { s with starvation := 0, failsafe := false }
  else if failed || !visited then s
  else
    let n := bump 255 s.starvation
    let s1 := { s with starvation := n }
    if s.policy.failsafeLimit ≤ n ∧ s.failsafe = false then s1.enterFailsafe.testReleasingEnd else s1

/-- The gather ends, complete or cut short by a failed read (R40, R71, R77). -/
def State.endGather (s : State) (p : Pass) (taken visited failed : Bool) : State :=
  let s1 := s.starvationCheck taken visited failed
  if failed || p.leftRunning then s1.beginWriteBack p else s1.intakeFrom p 0

/-- The first present carrier at or above a number. -/
def Cluster.nextPresent (w : Cluster) (start : Nat) : Option Carrier :=
  carriers.find? fun c => decide (start ≤ c.val) && (w.ctx c).cfg.present

/-- The next present carrier's slot is visited, or the gather ends (R40). -/
def State.gatherFrom (s : State) (p : Pass) (taken visited : Bool) (start : Nat) : State :=
  match s.cluster.nextPresent start with
  | some c => (s.enterPhase p (.gather taken true)).read p.base (observationOffset c) 1 (.firstStamp c)
  | none => s.endGather p taken visited false

/-- The third read of a slot has completed (R9, R41 to R44). -/
def State.slotVisited (s : State) (c : Carrier) (first second : Byte) (used users : Nat) : State :=
  let s1 := if first = second then s else { s with torn := bump 65535 s.torn }
  s1.on fun w => w.editCtx c (Context.visitSlot s.policy.freshness first second used users)

/-! ## The end of an access that belongs to a pass -/

/-- What the end of a write-back access does by itself (R8, R11, R13): data is none for a failure. -/
def State.writeBackEffect (s : State) (purpose : Purpose) (data : Option (List Byte)) : State :=
  match purpose, data with
  | .mirrorRecord c e, some _ => s.on fun w => w.setCtx c { w.ctx c with edition := e }
  | .mirrorRecord c _, none => s.on fun w => w.markDirty c
  | .outcomeCheck n, some b =>
    match s.cluster.outcomes.find? fun o => o.slot == n with
    | some o =>
      if byteAt b 0 = slotTaken then s
      else if byteAt b 0 = o.code.finalState then (s.on fun w => w.outcomeLeaves n).notify .directive
      else s.on fun w => w.outcomeLeaves n
    | none => s
  | .outcomeState n, some _ => (s.on fun w => w.outcomeLeaves n).notify .directive
  | _, _ => s

/-- A mirror record has been written successfully by this access. -/
def recordWritten (purpose : Purpose) (data : Option (List Byte)) : Bool :=
  match purpose, data with
  | .mirrorRecord _ _, some _ => true
  | _, _ => false

/-- Where the write-back goes on after an access (R11, R13, R14). -/
def State.writeBackNext (s : State) (p : Pass) (wrote : Bool) (todo : List Slot) (purpose : Purpose)
    (data : Option (List Byte)) : State :=
  match purpose, data with
  | .mirrorRecord c _, _ => s.writeRecords p wrote (c.val + 1)
  | .outcomeCheck n, some b =>
    match s.cluster.outcomes.find? fun o => o.slot == n with
    | some o =>
      if byteAt b 0 = slotTaken then s.write p.base (slotOffset n + 0x10) (outcomeBytes o) (.outcomeFields n)
      else s.nextOutcome p wrote todo.tail
    | none => s.nextOutcome p wrote todo.tail
  | .outcomeFields n, some _ =>
    match s.cluster.outcomes.find? fun o => o.slot == n with
    | some o => s.write p.base (slotOffset n) [BitVec.ofNat 8 o.code.finalState] (.outcomeState n)
    | none => s.nextOutcome p wrote todo.tail
  | .header, _ => (s.remark p).endPass wrote
  | _, _ => s.nextOutcome p wrote todo.tail

/-- An access of a write-back has ended. After HALT the rest is not made: the mirror edition word rises and CHANGE is set as
it ends, if a mirror record has been written (R76). -/
def State.writeBackEnded (s : State) (p : Pass) (wrote : Bool) (todo : List Slot) (purpose : Purpose)
    (data : Option (List Byte)) : State :=
  let s1 := s.writeBackEffect purpose data
  let wrote' := wrote || recordWritten purpose data
  if p.cut then
    (if wrote' && purpose != .header then { s1 with editionWord := wrapUp 65536 s1.editionWord } else s1).endPass wrote'
  else (s1.enterPhase p (.writeBack wrote' todo)).writeBackNext p wrote' todo purpose data

/-- A read of the gather has ended (R7, R9, R40). -/
def State.gatherEnded (s : State) (p : Pass) (taken visited : Bool) (purpose : Purpose) (data : Option (List Byte)) :
    State :=
  match purpose, data with
  | .firstStamp c, some b => s.read p.base (observationOffset c + 4) 4 (.body c (b.getD 0 0#8))
  | .body c stamp, some b => s.read p.base (observationOffset c) 1 (.secondStamp c stamp (le16 b 0) (le16 b 2))
  | .secondStamp c stamp used users, some b =>
    (s.slotVisited c stamp (b.getD 0 0#8) used users).gatherFrom p
      (taken || observationTaken (s.ctx c) stamp (b.getD 0 0#8)) visited (c.val + 1)
  | _, _ => s.endGather p taken visited true

/-- An access of the directive intake has ended (R7, R8, R10, R12). -/
def State.intakeEnded (s : State) (p : Pass) (run : Option DirectiveRun) (purpose : Purpose) (data : Option (List Byte)) :
    State :=
  match purpose, data with
  | .slotState n, some b => s.slotStateRead p n (byteAt b 0)
  | .slotTaken n, some _ => s.readFields p n
  | .slotFields n, some b => s.beginDirective p (parseSlot n b)
  | .directivePolicy n, some b => s.read p.base windowTableOffset 128 (.directiveWindows n (parsePolicy b))
  | .directiveWindows _ policy, some b =>
    s.enterPhase p (.intake (run.map fun d => { d with policy := some (policy, parseWindows b) }))
  | .directiveRow _ c, some b => s.enterPhase p (.intake (run.map fun d => { d with row := some (parseRow c b) }))
  | .slotTaken n, none => s.failTaken p n
  | .slotFields n, none => s.failTaken p n
  | .directivePolicy n, none => s.failTaken p n
  | .directiveWindows n _, none => s.failTaken p n
  | .directiveRow n _, none => s.failTaken p n
  | _, _ => s.beginWriteBack p

/-- The slot whose directive an access was made for, once TAKEN was to be written. -/
def Purpose.takenSlot : Purpose → Option Slot
  | .slotTaken n | .slotFields n | .directivePolicy n | .directiveWindows n _ | .directiveRow n _ => some n
  | _ => none

/-- A sweep that HALT has cut in its gather or intake ends with the access in progress (log 13). The retake slot is kept
(R12, R76), unless the access fails after TAKEN was to be written, which sets it (R12). -/
def State.cutEnded (s : State) (purpose : Purpose) (data : Option (List Byte)) : State :=
  { s with retake := if data.isNone then purpose.takenSlot.or s.retake else s.retake }.endPass false

/-- An access of a pass has ended. -/
def State.passEnded (s : State) (p : Pass) (purpose : Purpose) (data : Option (List Byte)) : State :=
  match p.phase with
  | .writeBack wrote todo => s.writeBackEnded p wrote todo purpose data
  | .gather taken visited => if p.cut then s.cutEnded purpose data else s.gatherEnded p taken visited purpose data
  | .intake run => if p.cut then s.cutEnded purpose data else s.intakeEnded p run purpose data
  | .decision _ => s

end Sys2Proof.Machine
end

