-- ==== Sys2Proof/Machine/Rows.lean ====
section
/-! DEFINITION. The resets of a context (R22), the application of carrier rows (R20, R21), and start-up (R182). -/

namespace Sys2Proof.Machine

/-- The HALT values of a context (R22): power-on values but for the mirror edition. -/
def Context.atHalt (x : Context) : Context := { edition := x.edition }

/-- A context that becomes present (R22, last column). -/
def Context.becomePresent (cfg : CarrierConfig) (x : Context) : Context :=
  { cfg, state := .unknown, dirty := true, edition := x.edition }

/-- A context that becomes UNMANAGED (R22): present no, cover and window none, the other configuration fields kept. -/
def Context.becomeUnmanaged (x : Context) : Context :=
  { cfg := { x.cfg with present := false, cover := none, window := none }, dirty := true, edition := x.edition }

/-- Whether a row is applied to the carrier (R21). -/
def Cluster.rowApplicable (w : Cluster) (c : Carrier) : Bool :=
  (w.stack c).isEmpty &&
    match (w.ctx c).state with
    | .unmanaged | .unknown | .faulted => true
    | .serving => !(w.ctx c).reserved
    | _ => false

/-- A carrier becomes present: UNKNOWN with a QUERY want (R21, R182). -/
def Cluster.makePresent (w : Cluster) (c : Carrier) (cfg : CarrierConfig) : Cluster :=
  (w.setCtx c ((w.ctx c).becomePresent cfg)).want c .query

/-- A carrier becomes UNMANAGED: its query ends, its command is abandoned, its want leaves (R21, R178). -/
def Cluster.makeUnmanaged (w : Cluster) (c : Carrier) : Cluster :=
  let v := ((w.endQuery c false).abandon c).dropWant c
  v.setCtx c (v.ctx c).becomeUnmanaged

/-- A row is applied to a carrier that may take it (R21); the answer says whether it counts as affected (R172). -/
def Cluster.applyRow (w : Cluster) (c : Carrier) (row : CarrierRow) : Cluster × Bool :=
  if row.present then
    if row.capacityOk then
      if (w.ctx c).state = .unmanaged then (w.makePresent c row.cfg, true)
      else (w.editCtx c fun x => { x with cfg := row.cfg }, true)
    else (w, false)
  else if (w.ctx c).state = .unmanaged then (w, true)
  else (w.makeUnmanaged c, true)

/-! ## Start-up -/

/-- One row of start-up's configuring event: a present row with C in range makes its carrier present (R182). -/
def Cluster.configureRow (w : Cluster) (r : Carrier × CarrierRow) : Cluster :=
  if r.2.present && r.2.capacityOk then w.makePresent r.1 r.2.cfg else w

/-- The configuring event over all contexts (R182): HALT values, the present rows in ascending number, all dirty. -/
def Cluster.configure (w : Cluster) (rows : List CarrierRow) : Cluster :=
  ((carriers.zip rows).foldl Cluster.configureRow { w with contexts := w.contexts.map Context.atHalt }).markAllDirty

/-- The last step of start-up (R76, R182): contexts configured, timer set up and started, sweep-pending set, RUNNING. -/
def State.configure (s : State) (rows : List CarrierRow) : State :=
  { s with
    timer := { tick := 0, prescaler := 0, hundred := 0, downCount := s.policy.reload, sweepPending := true }
    runState := .running
    startup := none }.on fun w => w.configure rows

/-- A start-up read has completed (R182). -/
def State.startupRead (s : State) (u : Startup) (purpose : Purpose) (b : List Byte) : State :=
  match purpose with
  | .startupPolicy => s.read u.base windowTableOffset 128 (.startupWindows (parsePolicy b))
  | .startupWindows policy =>
    ({ s with policy := policy }.applyWindows (parseWindows b) windowNos).read u.base (rowOffset 0) 32 (.startupRow 0)
  | .startupRow c =>
    let rows := parseRow c b :: u.rows
    if h : c.val + 1 < 256 then
      { s with startup := some { u with rows } }.read u.base (rowOffset ⟨c.val + 1, h⟩) 32 (.startupRow ⟨c.val + 1, h⟩)
    else s.configure rows.reverse
  | _ => s

/-- A start-up access has ended; a failed read stops start-up (R7, R182). -/
def State.startupEnded (s : State) (u : Startup) (purpose : Purpose) (data : Option (List Byte)) : State :=
  match data with
  | some b => s.startupRead u purpose b
  | none => { s with startup := none }

/-! ## The end of an access -/

/-- The outstanding access has ended, with its data or failed, and the requesting operation goes on (R5 to R8). -/
def State.accessEnded (s : State) (purpose : Purpose) (data : Option (List Byte)) : State :=
  match s.pass with
  | some p => s.passEnded p purpose data
  | none =>
    match s.startup with
    | some u => s.startupEnded u purpose data
    | none => s

/-- The outstanding access fails (R5, R6). -/
def State.accessFailed (s : State) (a : Access) : State := ({ s with port := none }.countFailure).accessEnded a.purpose none

/-- The outstanding access completes (R5). -/
def State.accessCompleted (s : State) (a : Access) (data : List Byte) : State :=
  { s with port := none }.accessEnded a.purpose (some data)

/-- The answer to an access is its completion: its number is that of the outstanding access, and a read's last data has
arrived (R5, log 8, log 10). -/
def Access.completedBy (a : Access) (number : Nat) (data : List Byte) : Bool :=
  a.number == number && (a.write || data.length == a.length)

end Sys2Proof.Machine
end

