-- ==== Sys2Proof/Machine/Directives.lean ====
section
/-! DEFINITION. The execution of directives (section 10): selection, the walk over the selected carriers, and what each kind does
to one carrier. -/

namespace Sys2Proof.Machine

/-- The carrier is selected (R169): the bits outside the mask agree with the base, and the flag of its state is set. -/
def DirectiveRun.selects (d : DirectiveRun) (c : Carrier) (st : CarrierState) : Bool :=
  ((BitVec.ofNat 8 c.val ^^^ d.base) &&& ~~~d.mask) == 0#8 && d.stateMask.getLsbD st.code

/-- Parameter byte i (section 12.4). -/
def DirectiveRun.param (d : DirectiveRun) (i : Nat) : Nat := byteAt d.params i

/-- The directive being executed, when its next step is the command's to make: an intake holds it and no access is
outstanding. -/
def State.directive (s : State) : Option (Pass × DirectiveRun) :=
  match s.pass, s.port with
  | some p, none =>
    match p.phase with
    | .intake (some d) => some (p, d)
    | _ => none
  | _, _ => none

/-- The directive being executed, if it is of this kind. -/
def State.directiveOf (s : State) (k : Option DirectiveKind) : Option (Pass × DirectiveRun) :=
  s.directive.filter fun r => r.2.kind == k

/-- One selected carrier counted as affected or skipped (R170). -/
def DirectiveRun.count (d : DirectiveRun) (affected : Bool) : DirectiveRun :=
  if affected then { d with affected := d.affected + 1 } else { d with skipped := d.skipped + 1 }

/-- The walk goes on to the next carrier number. -/
def DirectiveRun.next (d : DirectiveRun) : DirectiveRun := { d with position := d.position + 1 }

/-- One step of a walk: the action on the carrier at the position, if it is selected as it stands (R168, R169). -/
def DirectiveRun.step (act : Cluster → Carrier → Cluster × Bool) (w : Cluster) (d : DirectiveRun) (c : Carrier) :
    Cluster × DirectiveRun :=
  if d.selects c (w.ctx c).state then ((act w c).1, (d.count (act w c).2).next) else (w, d.next)

/-- The walk over at most n carrier numbers, each action one event (R168). -/
def DirectiveRun.walk (act : Cluster → Carrier → Cluster × Bool) :
    (n : Nat) → Cluster → DirectiveRun → Cluster × DirectiveRun
  | 0, w, d => (w, d)
  | n + 1, w, d =>
    if h : d.position < 256 then
      let r := d.step act w ⟨d.position, h⟩
      DirectiveRun.walk act n r.1 r.2
    else (w, d)

/-- A walk of n carrier numbers, and the directive's conclusion with OK when all have been taken. -/
def State.walkDirective (s : State) (p : Pass) (d : DirectiveRun) (n : Nat)
    (act : Cluster → Carrier → Cluster × Bool) : State :=
  let r := DirectiveRun.walk act n s.cluster { d with begun := true }
  let s1 := (s.on fun _ => r.1).testReleasingEnd
  if 256 ≤ r.2.position then s1.concludeDirective p r.2 .ok else s1.enterPhase p (.intake (some r.2))

/-! ## HOLD_ON and RELEASE_HOLD -/

/-- HOLD_ON on one carrier (R174): the hold and then an OPERATOR wake request; an UNMANAGED carrier is passed over. -/
def holdOnCarrier (minutes : Nat) (w : Cluster) (c : Carrier) : Cluster × Bool :=
  if (w.ctx c).state = .unmanaged then (w, false)
  else ((w.editCtx c fun x => { x with holdLeft := minutes }).wakeRequest c .operator, true)

/-- RELEASE_HOLD on one carrier (R175). -/
def releaseHoldCarrier (w : Cluster) (c : Carrier) : Cluster × Bool :=
  if (w.ctx c).state = .unmanaged then (w, false) else (w.editCtx c fun x => { x with holdLeft := 0 }, true)

/-! ## SLEEP_NOW -/

/-- SLEEP_NOW on one carrier (R117, R118, R176): the directed sleep test where it applies; affected when it reserves. -/
def sleepNowCarrier (t : TestSetting) (dark : Bool) (w : Cluster) (c : Carrier) : Cluster × Bool :=
  if w.sleepTestable c then
    let v := w.sleepTest t (.directed dark) c
    (v, (v.ctx c).reserved)
  else (w, false)

/-- SLEEP_NOW after the run state has left RUNNING: the carriers not yet reached are counted as skipped (R176). DESIGN CHOICE
(log 33): each is selected by its state as it stands when the walk comes to it. -/
def skipCarrier (w : Cluster) (_ : Carrier) : Cluster × Bool := (w, false)

/-! ## PROBE -/

/-- Change the in-flight record of a slot. -/
def Cluster.editProbe (w : Cluster) (n : Slot) (f : ProbeRecord → ProbeRecord) : Cluster :=
  { w with probes := w.probes.map fun r => if r.slot = n then f r else r }

/-- The fresh record that a PROBE begins with, in place of any other of its slot (R177). -/
def Cluster.placeProbe (w : Cluster) (n : Slot) : Cluster :=
  { w with
    probes := (w.probes.filter fun r => r.slot != n) ++
      [{ slot := n, members := [], selectionDone := false, affected := 0, skipped := 0 }] }

/-- The carrier joins the members of the slot's record. -/
def Cluster.joinProbe (w : Cluster) (n : Slot) (c : Carrier) : Cluster :=
  w.editProbe n fun r => { r with members := r.members ++ [c] }

/-- The carrier has neither a want nor a command (R30). -/
def Cluster.idle (w : Cluster) (c : Carrier) : Bool := (w.wantOf c).isNone && !w.isOutstanding c

/-- PROBE takes a SERVING carrier: UNKNOWN with origin SERVING, class, L and age kept, a QUERY want (R30, R177). -/
def Cluster.probeServing (w : Cluster) (n : Slot) (c : Carrier) : Cluster :=
  ((w.editCtx c fun x => { x.enter .unknown with probeOrigin := some .serving }).want c .query).joinProbe n c

/-- PROBE takes an UNKNOWN carrier: origin UNKNOWN, its query kept as it stands (R30, R177). -/
def Cluster.probeUnknown (w : Cluster) (n : Slot) (c : Carrier) : Cluster :=
  (w.editCtx c fun x => { x with probeOrigin := some .unknown }).joinProbe n c

/-- PROBE takes a FAULTED carrier: UNKNOWN with origin FAULTED and class ABSENT, a QUERY want (R30, R177). -/
def Cluster.probeFaulted (w : Cluster) (n : Slot) (c : Carrier) : Cluster :=
  ((w.editCtx c fun x => { x.enter .unknown with probeOrigin := some .faulted, cls := .absent }).want c .query).joinProbe n c

/-- PROBE on one selected carrier (R177): taken up, or counted as skipped in the record. -/
def probeCarrier (n : Slot) (w : Cluster) (c : Carrier) : Cluster × Bool :=
  let x := w.ctx c
  if x.state = .serving ∧ x.reserved = false ∧ w.stack c = [] ∧ w.idle c = true then (w.probeServing n c, true)
  else if x.state = .unknown ∧ x.probeOrigin = none then (w.probeUnknown n c, true)
  else if x.state = .faulted ∧ w.stack c = [] then (w.probeFaulted n c, true)
  else (w.editProbe n fun r => { r with skipped := r.skipped + 1 }, false)

/-- Every selected carrier has been taken: selection done, and the PROBE ends at once if no member is left (R177, R178). -/
def Cluster.endSelection (w : Cluster) (n : Slot) : Cluster :=
  (w.editProbe n fun r => { r with selectionDone := true }).closeProbes

/-! ## LOAD_CARRIERS -/

/-- A row that has been read is judged again and applied to its carrier, or discarded (R172). -/
def State.takeRow (s : State) (d : DirectiveRun) (c : Carrier) (row : CarrierRow) : State × DirectiveRun :=
  if s.cluster.rowApplicable c then
    let r := s.cluster.applyRow c row
    (s.on fun _ => r.1, { d.count r.2 with row := none }.next)
  else (s, { d.count false with row := none }.next)

/-- The walk of LOAD_CARRIERS over at most n carrier numbers (R172): a held row is applied; a selected carrier that may take
a row has its row read, which ends the walk until the read completes; others are counted or passed over. -/
def State.walkRows (p : Pass) : (n : Nat) → State → DirectiveRun → State × DirectiveRun
  | 0, s, d => (s, d)
  | n + 1, s, d =>
    if h : d.position < 256 then
      let c : Carrier := ⟨d.position, h⟩
      match d.row with
      | some row =>
        let r := s.takeRow d c row
        State.walkRows p n r.1 r.2
      | none =>
        if d.selects c (s.ctx c).state then
          if s.cluster.rowApplicable c then (s.read p.base (rowOffset c) 32 (.directiveRow d.slot c), d)
          else State.walkRows p n s (d.count false).next
        else State.walkRows p n s d.next
    else (s, d)

end Sys2Proof.Machine
end

