-- ==== Sys2Proof/Machine/Sweeps.lean ====
section
/-! DEFINITION. The meanings of the timer's expiry, of the begin of a sweep and of a decision visit (R68, R70, R75, R101,
R102). -/

namespace Sys2Proof.Machine

/-- A pass that begins now, with XBASE as it stands (R70, R75). -/
def State.newPass (s : State) (sweep : Bool) : Pass :=
  { sweep, base := s.xbase, leftRunning := false, cut := false, phase := .writeBack false [] }

/-- An expiry counts an overrun (R68, R75). -/
def State.countOverrun (s : State) : State := { s with overruns := bump 65535 s.overruns }

/-- An expiry (R65, R68, R75): the down-count is reloaded; then by the run state. A stopped timer has no expiry. -/
def State.expire (s : State) : State :=
  let s1 := { s with timer := { s.timer with downCount := s.policy.reload } }
  match s.runState with
  | .halted => s
  | .running =>
    if s.timer.sweepPending then s1.countOverrun else { s1 with timer := { s1.timer with sweepPending := true } }
  | .holding | .releasing => if s.pass.isSome then s1.countOverrun else s1.beginWriteBack (s1.newPass false)

/-- SWEEP_TIMER_EXPIRY (R68). -/
def execSweepTimerExpiry (s : State) : Result := .next s.expire

/-- The conditions of a sweep's begin (R70). -/
def State.sweepMayBegin (s : State) : Bool := s.timer.sweepPending && s.pass.isNone && s.runState == .running

/-- A sweep begins (R70): sweep-pending clears, the sweep count rises, the gather begins. -/
def State.beginSweep (s : State) : State :=
  { s with
    timer := { s.timer with sweepPending := false }
    sweepCount := wrapUp 4294967296 s.sweepCount }.gatherFrom (s.newPass true) false false 0

/-- SWEEP_BEGIN (R70): nothing happens while its conditions do not hold (log 3). DESIGN CHOICE (log 37): the begin is a command
of its own, which comes after the event that has made its conditions true; a command taken between, a HOLD or an expiry, acts
on a sweep that is still pending. -/
def execSweepBegin (s : State) : Result := .next (if s.sweepMayBegin then s.beginSweep else s)

/-- What the decision pass's tests read besides the cluster. -/
def State.setting (s : State) : TestSetting := { policy := s.policy, failsafe := s.failsafe, phases := s.phases }

/-- The next visit of a decision pass at a position; after carrier 255 write-back begins (R101, R102). -/
def State.visitNext (s : State) (p : Pass) (position : Nat) : State :=
  if h : position < 256 then
    let s1 := (s.on fun w => w.passVisit s.setting ⟨position, h⟩).testReleasingEnd
    if position + 1 < 256 then s1.enterPhase p (.decision (position + 1)) else s1.beginWriteBack p
  else s.beginWriteBack p

/-- DECISION_VISIT (R102): nothing happens while no decision pass is in progress (log 3). -/
def execDecisionVisit (s : State) : Result :=
  .next <|
    match s.pass with
    | some p =>
      match p.phase with
      | .decision position => s.visitNext p position
      | _ => s
    | none => s

end Sys2Proof.Machine
end

