-- ==== Sys2Proof/Machine/DirectiveMeanings.lean ====
section
/-! DEFINITION. The meanings of the eight directives and of the unknown kind (R170 to R179). A directive's command acts while
the intake holds a directive of that kind and no access is outstanding; otherwise nothing happens (log 3). -/

namespace Sys2Proof.Machine

/-- LOAD_POLICY (R171): policy settings, timer reload and windows applied as one event, once both reads have completed. -/
def execLoadPolicy (order : List WindowNo) (s : State) : Result :=
  .next <|
    match s.directiveOf (some .loadPolicy) with
    | some (p, d) =>
      match d.policy with
      | some (policy, windows) =>
        let s1 := { s with policy := policy, timer := s.timer.reloaded policy.reload }
        (s1.applyWindows windows order).testReleasingEnd.concludeDirective p d .ok
      | none => s
    | none => s

/-- LOAD_CARRIERS (R172): the walk goes on until a row has to be read or all carriers have been taken. -/
def execLoadCarriers (count : Nat) (s : State) : Result :=
  .next <|
    match s.directiveOf (some .loadCarriers) with
    | some (p, d) =>
      let r := State.walkRows p count s { d with begun := true }
      let s1 := r.1.testReleasingEnd
      if 256 ≤ r.2.position then s1.concludeDirective p r.2 .ok else s1.enterPhase p (.intake (some r.2))
    | none => s

/-- The SET_CLOCK fields are in range (R155, R173). -/
def DirectiveRun.clockInRange (d : DirectiveRun) : Bool :=
  decide (d.param 0 ≤ 59 ∧ d.param 1 ≤ 59 ∧ d.param 2 ≤ 23 ∧ d.param 3 ≤ 6)

/-- The clock that a taken SET_CLOCK leaves (R155). -/
def DirectiveRun.clock (d : DirectiveRun) : Clock :=
  { seconds := d.param 0, minutes := d.param 1, hours := d.param 2, weekday := d.param 3, day := le16 d.params 4, sub := 0,
    valid := true }

/-- SET_CLOCK (R155, R173). -/
def execSetClock (s : State) : Result :=
  .next <|
    match s.directiveOf (some .setClock) with
    | some (p, d) =>
      if d.clockInRange then { s with clock := d.clock }.concludeDirective p d .ok else s.concludeDirective p d .rejParam
    | none => s

/-- HOLD_ON (R174): a minute count of 0 is taken as 1. -/
def execHoldOn (count : Nat) (s : State) : Result :=
  .next <|
    match s.directiveOf (some .holdOn) with
    | some (p, d) => s.walkDirective p d count (holdOnCarrier (max 1 (d.param 0)))
    | none => s

/-- RELEASE_HOLD (R175). -/
def execReleaseHold (count : Nat) (s : State) : Result :=
  .next <|
    match s.directiveOf (some .releaseHold) with
    | some (p, d) => s.walkDirective p d count releaseHoldCarrier
    | none => s

/-- SLEEP_NOW (R117, R176): rejected when its execution begins outside RUNNING; a HOLD or RELEASE taken since it began leaves
the carriers not yet reached skipped (which of them are selected is judged as the walk comes to each: DESIGN CHOICE, log 33).
The run state is judged as the execution begins, as R176 says, and not by the change that R77 speaks of: DESIGN CHOICE
(log 28). Depth 2 is DARK (R190). -/
def execSleepNow (count : Nat) (s : State) : Result :=
  .next <|
    match s.directiveOf (some .sleepNow) with
    | some (p, d) =>
      if d.begun = false ∧ s.runState ≠ .running then s.concludeDirective p d .rejRun
      else if d.stopped then s.walkDirective p d count skipCarrier
      else s.walkDirective p d count (sleepNowCarrier s.setting (d.param 0 == 2))
    | none => s

/-- PROBE (R177): the record is placed at its beginning; when all carriers have been taken the selection is done. -/
def execProbe (count : Nat) (s : State) : Result :=
  .next <|
    match s.directiveOf (some .probe) with
    | some (p, d) =>
      let w := if d.begun then s.cluster else s.cluster.placeProbe d.slot
      let r := DirectiveRun.walk (probeCarrier d.slot) count w { d with begun := true }
      if 256 ≤ r.2.position then (s.on fun _ => r.1.endSelection d.slot).finishDirective p r.2
      else (s.on fun _ => r.1).enterPhase p (.intake (some r.2))
    | none => s

/-- CLEAR_TALLY (R179). -/
def execClearTally (s : State) : Result :=
  .next <|
    match s.directiveOf (some .clearTally) with
    | some (p, d) =>
      ({ s with fleetTally := 0 }.on fun w => w.editAll fun x => { x with lightMinutes := 0, darkMinutes := 0 }).concludeDirective
        p d .ok
    | none => s

/-- DIRECTIVE_UNKNOWN_KIND (R170): rejected with REJ_KIND, changing nothing. -/
def execDirectiveUnknownKind (s : State) : Result :=
  .next <|
    match s.directiveOf none with
    | some (p, d) => s.concludeDirective p d .rejKind
    | none => s

end Sys2Proof.Machine
end

