-- ==== Sys2Proof/Machine/Lanes.lean ====
section
/-! DEFINITION. The grant of a lane (R126 to R131), the sending of a command (R136, R192), the 100 ms tick over lanes and
channels (R123, R137), and the timeout of a command (R137). -/

namespace Sys2Proof.Machine

/-- The classes that a lane may grant in a run state (R129). -/
def RunState.allows : RunState → WantClass → Bool
  | .halted, _ => false
  | .running, _ => true
  | .holding, k | .releasing, k => k != .sleep

/-- The oldest eligible want of a class (R128). -/
def Lane.oldest (l : Lane) (k : WantClass) : Option Want :=
  l.queue.find? fun x => x.wait == 0 && x.command.wantClass == k

/-- The oldest eligible want of a class that the run state allows. -/
def Lane.pick (l : Lane) (rs : RunState) (k : WantClass) : Option Want :=
  if rs.allows k then l.oldest k else none

/-- The choice of R128: WAKE, else PROBE, else SLEEP, each as the run state allows. -/
def Lane.choose (l : Lane) (rs : RunState) : Option Want :=
  (l.pick rs .wake).or ((l.pick rs .probe).or (l.pick rs .sleep))

/-- The want that a lane would grant now, if its conditions hold (R127). -/
def Cluster.grantChoice (w : Cluster) (i : Site) (rs : RunState) : Option Want :=
  if (w.lane i).outstanding.isNone && (w.channel i).up then (w.lane i).choose rs else none

/-- The policy timeout of a command (R135). -/
def Timeouts.of (t : Timeouts) : RadioCommand → Nat
  | .gate => t.gate
  | .shed => t.shed
  | .lower => t.lower
  | .darken => t.darken
  | .warm => t.warm
  | .raise => t.raise
  | .reopen => t.reopen
  | .query => t.query

/-- The parameter of a command: for SHED the number of the carrier's cover, otherwise 0 (R130, R136). A SHED is sent only for
a carrier that has a cover (R80). -/
def commandParameter (x : Context) : RadioCommand → Nat
  | .shed => match x.cfg.cover with
    | some k => k.val
    | none => 0
  | _ => 0

/-- The command frame (section 12.7, R136, R192). -/
def commandFrame (tag : BitVec 4) (c : Carrier) (command : RadioCommand) (parameter : Nat) : List Byte :=
  let body : List Byte :=
    [tag.setWidth 8, BitVec.ofNat 8 (sectorOf c), BitVec.ofNat 8 (slotOf c), BitVec.ofNat 8 command.code,
      BitVec.ofNat 8 parameter]
  body ++ [checkByte body]

/-- The state that the command implies at its send (R130). -/
def sendState (command : RadioCommand) (st : CarrierState) : CarrierState :=
  match command, st with
  | .gate, .serving => .draining
  | .lower, .draining => .lowering
  | .darken, .light => .deepening
  | .warm, .dark => .warming
  | .raise, .light => .raising
  | _, st => st

/-- The carrier at the send of its command (R130): a change of state by R26, and the reserved-sleep mark cleared at GATE
(R25). -/
def Context.atSend (command : RadioCommand) (x : Context) : Context :=
  let y := if sendState command x.state = x.state then x else x.enter (sendState command x.state)
  if command = .gate then { y with reserved := false } else y

/-- The want is granted: it leaves the queue and fills the outstanding slot, the channel sends the command under its next
tag, and the carrier enters the state of the send (R130, R136). -/
def Cluster.send (w : Cluster) (i : Site) (x : Want) (t : Timeouts) : Cluster :=
  let h := w.channel i
  let l := w.lane i
  let tag := h.nextTag
  let w1 := w.setLane i
    { l with
      queue := l.queue.filter fun y => y.carrier != x.carrier
      outstanding := some { carrier := x.carrier, command := x.command, attempt := x.attempt, tag } }
  let w2 := w1.setChannel i
    { h with
      liveTag := some tag
      nextTag := tag + 1#4
      timeLeft := t.of x.command
      sent := commandFrame tag x.carrier x.command (commandParameter (w.ctx x.carrier) x.command) }
  w2.editCtx x.carrier (Context.atSend x.command)

/-- The lane's test for a grant, and the grant when its conditions hold (R127). -/
def Cluster.testGrant (w : Cluster) (i : Site) (rs : RunState) (t : Timeouts) : Cluster :=
  match w.grantChoice i rs with
  | some x => w.send i x t
  | none => w

/-! ## The 100 ms tick -/

/-- The waits of a lane's wants at a 100 ms tick (R123). -/
def Lane.tick (l : Lane) : Lane := { l with queue := l.queue.map fun x => { x with wait := x.wait - 1 } }

/-- The time left of a channel's live command at a 100 ms tick (R137). -/
def Channel.tick (h : Channel) : Channel := if h.liveTag.isSome then { h with timeLeft := h.timeLeft - 1 } else h

/-- The 100 ms tick over all lanes and channels. -/
def Cluster.hundredTick (w : Cluster) : Cluster :=
  { w with lanes := w.lanes.map Lane.tick, channels := w.channels.map Channel.tick }

/-- The channel's live command has no time left: its timeout is due (R137). -/
def Channel.timedOut (h : Channel) : Bool := h.liveTag.isSome && h.timeLeft == 0

/-- A failed query is recorded as PROBE when the PROBE took its carrier out of FAULTED (R30). -/
def failureCause (x : Context) (command : RadioCommand) (cause : FaultCause) : FaultCause :=
  if command = .query ∧ x.probeOrigin = some .faulted then .probe else cause

/-- The timeout of the live command (R137): the tag is retired, the slot empties, the carrier enters FAULTED. -/
def Cluster.commandTimeout (w : Cluster) (i : Site) : Cluster :=
  match (w.lane i).outstanding with
  | some o => (w.retire i).enterFaulted o.carrier (failureCause (w.ctx o.carrier) o.command .timeout)
  | none => w.retire i

end Sys2Proof.Machine
end

