-- ==== Sys2Proof/Machine/Replies.lean ====
section
/-! DEFINITION. The check and matching of a reply frame (R138, R139, R192), the handling of every reply to every command
(R141 to R148), and the link events (R149, R150). -/

namespace Sys2Proof.Machine

/-- The outcome of a reply (section 12.7). -/
inductive ReplyOutcome where
  | ack | busy | nak | fault
deriving DecidableEq, Repr

/-- The radio state of a reply (section 12.7). -/
inductive RadioState where
  | on | light | dark | fault
deriving DecidableEq, Repr

/-- A reply that has passed its check. -/
structure Reply where
  tag : BitVec 4
  outcome : ReplyOutcome
  radio : RadioState
  users : Nat
deriving DecidableEq, Repr

def replyOutcomeOf : Nat → Option ReplyOutcome
  | 0 => some .ack
  | 1 => some .busy
  | 2 => some .nak
  | 3 => some .fault
  | _ => none

def radioStateOf : Nat → Option RadioState
  | 0 => some .on
  | 1 => some .light
  | 2 => some .dark
  | 3 => some .fault
  | _ => none

/-- The check of a delivered unit: six bytes that sum to a multiple of 256, with an outcome and a radio state that name
one of the four (R138, R192). -/
def parseReply (frame : List Byte) : Option Reply :=
  if frame.length = 6 ∧ byteSum frame % 256 = 0 then
    match replyOutcomeOf (byteAt frame 1), radioStateOf (byteAt frame 2) with
    | some outcome, some radio =>
      some { tag := (frame.getD 0 0#8).setWidth 4, outcome, radio, users := le16 frame 3 }
    | _, _ => none
  else none

/-! ## Replies, command by command -/

/-- The state a carrier rests in before the send of a command that was answered BUSY; a STRAY carrier stays STRAY
(R141). -/
def restingState (command : RadioCommand) (st : CarrierState) : CarrierState :=
  match command, st with
  | .warm, .warming => .dark
  | .raise, .raising => .light
  | _, st => st

/-- BUSY to WARM, RAISE, OPEN or QUERY (R141): below the wake attempts the command is wanted again after the busy
back-off; at the limit the carrier is FAULTED with REFUSED. -/
def Cluster.busyRetry (w : Cluster) (p : Policy) (o : Outstanding) : Cluster :=
  if o.attempt < p.wakeAttempts then
    (w.editCtx o.carrier fun x =>
      if restingState o.command x.state = x.state then x else x.enter (restingState o.command x.state)).joinWant o.carrier
      o.command p.busyBackoff (o.attempt + 1)
  else w.enterFaulted o.carrier (failureCause (w.ctx o.carrier) o.command .refused)

/-- The replies that fault the carrier whatever the command: FAULT with RADIO, NAK with REFUSED (R141). -/
def Cluster.replyFault (w : Cluster) (o : Outstanding) (cause : FaultCause) : Cluster :=
  w.enterFaulted o.carrier (failureCause (w.ctx o.carrier) o.command cause)

/-- A carrier comes back to SERVING: its entry is removed and its re-sleep hold starts (R142, R146, R147). -/
def Cluster.backToServing (w : Cluster) (c : Carrier) (f : Context → Context) : Cluster :=
  (w.removeEntry c).editCtx c fun x => f (x.enter .serving).startResleep

/-- GATE BUSY or NAK (R142): the drain is abandoned before the gate closed. The last reason of a carrier whose entry was
RETURNING is kept. -/
def Cluster.abandonDrain (w : Cluster) (c : Carrier) (r : Reason) : Cluster :=
  w.backToServing c fun x => if w.isReturning c then x else { x with lastReason := some r }

/-- A reply to GATE (R142). -/
def Cluster.gateReply (w : Cluster) (o : Outstanding) (r : Reply) : Cluster :=
  match r.outcome with
  | .ack => if w.isReturning o.carrier then w.want o.carrier .reopen else w.want o.carrier .shed
  | .busy => w.abandonDrain o.carrier .abandonBusy
  | .nak => w.abandonDrain o.carrier .abandon
  | .fault => w.replyFault o .radio

/-- A SHED whose users are above the residual, for an entry not RETURNING (R143). -/
def Cluster.shedAgain (w : Cluster) (p : Policy) (o : Outstanding) : Cluster :=
  if o.attempt < p.shedAttempts then w.joinWant o.carrier .shed p.shedInterval (o.attempt + 1)
  else (w.turnBack o.carrier .abandonUsers).want o.carrier .reopen

/-- A reply to SHED (R143). -/
def Cluster.shedReply (w : Cluster) (p : Policy) (o : Outstanding) (r : Reply) : Cluster :=
  match r.outcome with
  | .ack =>
    if w.isReturning o.carrier then w.want o.carrier .reopen
    else if r.users ≤ p.residual then w.want o.carrier .lower
    else w.shedAgain p o
  | .busy => if w.isReturning o.carrier then w.want o.carrier .reopen else w.shedAgain p o
  | .nak => w.replyFault o .refused
  | .fault => w.replyFault o .radio

/-- A LOWER ACK (R144): LIGHT, one more sleep tonight, the entry settled by R87; then RAISE for a RETURNING entry, DARKEN where
deepen at once was set. -/
def Cluster.lowered (w : Cluster) (p : Policy) (c : Carrier) : Cluster :=
  let returning := w.isReturning c
  let deepen := match w.entryOf c with
    | some e => e.deepenAtOnce
    | none => false
  let v := (w.editCtx c fun x =>
    { x.enter .light with sleepsTonight := x.sleepsTonight + 1, lightRun := 0 }).editEntry c (Entry.lowered p.settle)
  if returning then v.want c .raise else if deepen then v.want c .darken else v

/-- A reply to LOWER (R144). -/
def Cluster.lowerReply (w : Cluster) (p : Policy) (o : Outstanding) (r : Reply) : Cluster :=
  match r.outcome with
  | .ack => w.lowered p o.carrier
  | .busy =>
    let v := w.editCtx o.carrier (Context.enter .draining)
    (if w.isReturning o.carrier then v else v.turnBack o.carrier .abandonBusy).want o.carrier .reopen
  | .nak => w.replyFault o .refused
  | .fault => w.replyFault o .radio

/-- A reply to DARKEN (R145). -/
def Cluster.darkenReply (w : Cluster) (o : Outstanding) (r : Reply) : Cluster :=
  let c := o.carrier
  match r.outcome with
  | .ack =>
    let v := (w.editCtx c (Context.enter .dark)).editEntry c fun e => { e with depth := .dark }
    if w.isReturning c then v.want c .warm else v
  | .busy | .nak =>
    let v := w.editCtx c fun x => { x.enter .light with lightRun := 0, deepenDeclined := true }
    if w.isReturning c then v.want c .raise else v
  | .fault => w.replyFault o .radio

/-- A reply to WARM (R146). -/
def Cluster.warmReply (w : Cluster) (p : Policy) (o : Outstanding) (r : Reply) : Cluster :=
  let c := o.carrier
  match r.outcome with
  | .ack =>
    if (w.ctx c).state = .stray then (w.editCtx c fun x => { x with strayStep := some .raise }).want c .raise
    else
      let v := w.editCtx c fun x => { x.enter .light with lightRun := 0 }
      if w.isReturning c then v.want c .raise else v
  | .busy => w.busyRetry p o
  | .nak => w.replyFault o .refused
  | .fault => w.replyFault o .radio

/-- A reply to RAISE (R146). -/
def Cluster.raiseReply (w : Cluster) (p : Policy) (o : Outstanding) (r : Reply) : Cluster :=
  match r.outcome with
  | .ack => w.backToServing o.carrier fun x => { x with cls := .absent, deepenDeclined := false }
  | .busy => w.busyRetry p o
  | .nak => w.replyFault o .refused
  | .fault => w.replyFault o .radio

/-- A reply to OPEN (R147). -/
def Cluster.openReply (w : Cluster) (p : Policy) (o : Outstanding) (r : Reply) : Cluster :=
  match r.outcome with
  | .ack => w.backToServing o.carrier id
  | .busy => w.busyRetry p o
  | .nak => w.replyFault o .refused
  | .fault => w.replyFault o .radio

/-- A QUERY found the carrier asleep: STRAY, with the command that comes next (R29, R148). -/
def Cluster.becomeStray (w : Cluster) (c : Carrier) (step : StrayStep) (command : RadioCommand) : Cluster :=
  ((w.endQuery c true).editCtx c fun x => { x.enter .stray with strayStep := some step }).want c command

/-- A reply to QUERY (R148). -/
def Cluster.queryReply (w : Cluster) (p : Policy) (o : Outstanding) (r : Reply) : Cluster :=
  let c := o.carrier
  match r.outcome with
  | .ack =>
    match r.radio with
    | .on =>
      (w.endQuery c true).editCtx c fun x =>
        { x.enter .serving with cls := if x.probeOrigin = some .serving then x.cls else .absent }
    | .light => w.becomeStray c .raise .raise
    | .dark => w.becomeStray c .warm .warm
    | .fault => w.replyFault o .radio
  | .busy => w.busyRetry p o
  | .nak => w.replyFault o .refused
  | .fault => w.replyFault o .radio

/-- The handling of a taken reply by the rule of its command (R139). -/
def Cluster.handleReply (w : Cluster) (p : Policy) (o : Outstanding) (r : Reply) : Cluster :=
  match o.command with
  | .gate => w.gateReply o r
  | .shed => w.shedReply p o r
  | .lower => w.lowerReply p o r
  | .darken => w.darkenReply o r
  | .warm => w.warmReply p o r
  | .raise => w.raiseReply p o r
  | .reopen => w.openReply p o r
  | .query => w.queryReply p o r

/-- A reply is taken (R139): the tag is retired, the slot empties, and the reply is handled. -/
def Cluster.takeReply (w : Cluster) (p : Policy) (i : Site) (r : Reply) : Cluster :=
  match (w.lane i).outstanding with
  | some o => (w.retire i).handleReply p o r
  | none => w.retire i

/-! ## Link events -/

/-- The carriers of a site in ascending number. -/
def carriersOf (i : Site) : List Carrier := carriers.filter fun c => siteOf c == i

/-- A carrier of a site whose link goes DOWN: FAULTED with cause LINK, unless it is UNMANAGED (R149). -/
def Cluster.faultByLink (w : Cluster) (c : Carrier) : Cluster :=
  if (w.ctx c).state = .unmanaged then w else w.enterFaulted c .link

/-- A link DOWN (R149): the link state, the live command abandoned, every managed carrier of the site FAULTED. -/
def Cluster.linkDown (w : Cluster) (i : Site) : Cluster :=
  let w1 := w.setChannel i { w.channel i with up := false }
  let w2 := if (w1.channel i).liveTag.isSome then w1.retire i else w1
  (carriersOf i).foldl Cluster.faultByLink w2

/-- A carrier of a site whose link comes UP: a LINK-cause FAULTED carrier with an empty stack enters UNKNOWN (R150). -/
def Cluster.relinkIfFree (w : Cluster) (c : Carrier) : Cluster :=
  if (w.ctx c).state = .faulted ∧ (w.ctx c).cause = some .link ∧ w.stack c = [] then w.relink c else w

/-- A link UP (R150). -/
def Cluster.linkUp (w : Cluster) (i : Site) : Cluster :=
  (carriersOf i).foldl Cluster.relinkIfFree (w.setChannel i { w.channel i with up := true })

end Sys2Proof.Machine
end

