-- ==== Sys2Proof/Machine/Radio.lean ====
section
/-! DEFINITION. The meanings of the 100 ms tick, the expiry of a want's wait, the timeout of a command, the grant of a lane, a
radio reply and the link events (R123, R127, R137 to R139, R149, R150). -/

namespace Sys2Proof.Machine

/-- The 100 ms divider wraps (R123, R137): every positive wait and the time left of every live command fall by 1. It stands
still in HALTED. -/
def State.hundredTick (s : State) : State :=
  if s.runState = .halted then s else { s with timer := { s.timer with hundred := 0 } }.on Cluster.hundredTick

/-- HUNDRED_MS_TICK (R123). -/
def execHundredMsTick (s : State) : Result := .next s.hundredTick

/-- The lane's test for a grant, with the run state and the policy timeouts as they stand (R127). -/
def State.testGrant (s : State) (i : Site) : State := s.on fun w => w.testGrant i s.runState s.policy.timeouts

/-- The carrier's want has become eligible. -/
def Cluster.waitExpired (w : Cluster) (c : Carrier) : Bool :=
  match w.wantOf c with
  | some x => x.wait == 0
  | none => false

/-- WANT_WAIT_EXPIRY (R123): a want's wait has reached 0, so its lane tests for a grant. -/
def execWantWaitExpiry (c : Carrier) (s : State) : Result :=
  .next (if s.cluster.waitExpired c then s.testGrant (siteOf c) else s)

/-- COMMAND_TIMEOUT (R137): a live command with no time left times out. -/
def execCommandTimeout (i : Site) (s : State) : Result :=
  .next (if (s.channel i).timedOut then (s.on fun w => w.commandTimeout i).testReleasingEnd else s)

/-- LANE_GRANT (R127). -/
def execLaneGrant (i : Site) (s : State) : Result := .next (s.testGrant i)

/-- A discarded or late reply is counted (R138, R139). -/
def State.countLate (s : State) : State := { s with late := bump 65535 s.late }

/-- RADIO_REPLY (R138, R139): checked, then matched against the live tag, then taken. -/
def execRadioReply (i : Site) (frame : List Byte) (s : State) : Result :=
  .next <|
    match parseReply frame with
    | some r =>
      if (s.channel i).liveTag = some r.tag then (s.on fun w => w.takeReply s.policy i r).testReleasingEnd
      else s.countLate
    | none => s.countLate

/-- LINK_UP (R149, R150): a report that stays as it was raises no event. -/
def execLinkUp (i : Site) (s : State) : Result := .next (if (s.channel i).up then s else s.on fun w => w.linkUp i)

/-- LINK_DOWN (R149). -/
def execLinkDown (i : Site) (s : State) : Result :=
  .next (if (s.channel i).up then (s.on fun w => w.linkDown i).testReleasingEnd else s)

end Sys2Proof.Machine
end

