-- ==== Sys2Proof/Machine/Idle.lean ====
section
/-! DEFINITION. What the block does on an empty queue (log 2): the internal event that is due, or one cycle of the 1 MHz
reference. -/

namespace Sys2Proof.Machine

/-- The command of the directive that waits to be executed, one carrier at a time. -/
def directiveCommand (choices : Nat) : Option DirectiveKind → Instr
  | some .loadPolicy => .loadPolicy (Config.windowOrder choices)
  | some .loadCarriers => .loadCarriers 1
  | some .setClock => .setClock
  | some .holdOn => .holdOn 1
  | some .releaseHold => .releaseHold 1
  | some .sleepNow => .sleepNow 1
  | some .probe => .probe 1
  | some .clearTally => .clearTally
  | none => .directiveUnknownKind

/-- A command timeout that is due (R137). -/
def State.timeoutDue (s : State) : Option Instr :=
  (sites.find? fun i => (s.channel i).timedOut).map .commandTimeout

/-- A minute event that has been raised (R154). -/
def State.minuteDue (s : State) : Option Instr :=
  if s.minutesDue.isEmpty then none else some (.minuteEvent (Config.minuteOrder s.choices))

/-- A grant whose conditions hold (R127). -/
def State.grantDue (s : State) : Option Instr :=
  (sites.find? fun i => (s.cluster.grantChoice i s.runState).isSome).map .laneGrant

/-- A sweep whose begin is due (R70). -/
def State.sweepDue (s : State) : Option Instr := if s.sweepMayBegin then some .sweepBegin else none

/-- The next step of a directive's execution (R168). -/
def State.directiveDue (s : State) : Option Instr := s.directive.map fun r => directiveCommand s.choices r.2.kind

/-- The next visit of a decision pass (R102). -/
def State.visitDue (s : State) : Option Instr :=
  match s.pass with
  | some p =>
    match p.phase with
    | .decision _ => some .decisionVisit
    | _ => none
  | none => none

/-- The internal event that is due, if any (log 2). -/
def State.dueEvent (s : State) : Option Instr :=
  s.timeoutDue.or (s.minuteDue.or (s.grantDue.or (s.sweepDue.or (s.directiveDue.or s.visitDue))))

/-- The reference cycles that an access may take: 50 µs (R5). -/
def accessCycles : Nat := 50

/-- One reference cycle over the outstanding access (R5). -/
def State.accessCycle (s : State) : State :=
  match s.port with
  | some a => if a.waited + 1 < accessCycles then { s with port := some { a with waited := a.waited + 1 } } else s.accessFailed a
  | none => s

/-- One reference cycle over the civil clock (R153). -/
def State.clockCycle (s : State) : State :=
  if s.clock.valid then
    if s.clock.sub + 1 < 1000000 then { s with clock := { s.clock with sub := s.clock.sub + 1 } } else s.clockSecond
  else s

/-- One 1 ms tick (R65, R123). -/
def State.millisecond (s : State) : State :=
  let t := s.timer
  let s1 := { s with timer := t.millisecond s.policy.prescale }
  let s2 := if t.expires s.policy.prescale then s1.expire else s1
  if t.wrapsHundred then s2.hundredTick else s2

/-- One reference cycle over the Sweep Timer, which stands still in HALTED (R65). -/
def State.timerCycle (s : State) : State :=
  if s.runState = .halted then s
  else if s.timer.tick + 1 < 1000 then { s with timer := { s.timer with tick := s.timer.tick + 1 } }
  else { s with timer := { s.timer with tick := 0 } }.millisecond

/-- One cycle of the 1 MHz reference (log 24). -/
def State.referenceCycle (s : State) : State := s.accessCycle.clockCycle.timerCycle

end Sys2Proof.Machine
end

