-- ==== Sys2Proof/Machine/Memory.lean ====
section
/-! DEFINITION. The meanings of the three ends of a shared-memory access (R5 to R8). -/

namespace Sys2Proof.Machine

/-- MEMORY_ACCESS_COMPLETE (R5): the answer to the outstanding access; a late answer to an earlier one is discarded. -/
def execMemoryAccessComplete (access : Nat) (data : List Byte) (s : State) : Result :=
  .next <|
    match s.port with
    | some a => if a.completedBy access data then s.accessCompleted a data else s
    | none => s

/-- MEMORY_ACCESS_ERROR (R5, R6): an error response to the outstanding access; a late one is discarded. -/
def execMemoryAccessError (access : Nat) (s : State) : Result :=
  .next <|
    match s.port with
    | some a => if a.number = access then s.accessFailed a else s
    | none => s

/-- MEMORY_ACCESS_TIMEOUT (R5, R6): 50 µs have passed since the outstanding access was issued. -/
def execMemoryAccessTimeout (s : State) : Result :=
  .next <|
    match s.port with
    | some a => s.accessFailed a
    | none => s

end Sys2Proof.Machine
end

