-- ==== Sys2Proof/Machine/Registers.lean ====
section
/-! DEFINITION. The meanings of power-on reset and of the register writes other than the run-state commands (R1, R2, R16 to R19,
R22). -/

namespace Sys2Proof.Machine

/-- A refused RUNCTL or XBASE write sets REFUSED and changes nothing else (R1, R17). -/
def State.refuse (s : State) : State := { s with refused := true }

/-- XBASE bits 31:12 of a written value (R1). -/
def baseOf (value : Word) : BitVec 20 := value.extractLsb' 12 20

/-- Whether an XBASE write is taken (R1): in HALTED or HOLDING, and with bits 31:12 not above 0xFFFFA. -/
def State.takesBase (s : State) (value : Word) : Bool :=
  (s.runState == .halted || s.runState == .holding) && decide (baseOf value ≤ 0xFFFFA#20)

/-- POWER_ON_RESET (R22): every field of the spec at its power-on value. The queue and the model's own numbering of accesses
and choices go on (log 17). -/
def execPowerOnReset (s : State) : Result :=
  .next { State.reset with pending := s.pending, accessSeq := s.accessSeq, choices := s.choices }

/-- A taken XBASE write (R1, R2): every record is dirty, and a pass in progress keeps its base and remembers the write
(State.remark). -/
def State.moveBase (s : State) (value : Word) : State :=
  { s with
    xbase := baseOf value
    refused := false
    pass := s.pass.map fun p => { p with moved := true }
    cluster := s.cluster.markAllDirty }

/-- XBASE_WRITE (R1, R2). -/
def execXbaseWrite (value : Word) (s : State) : Result :=
  .next (if s.takesBase value then s.moveBase value else s.refuse)

/-- RUNCTL_INVALID_CODE (R17): refused, whatever the code. -/
def execRunctlInvalidCode (_code : BitVec 3) (s : State) : Result := .next s.refuse

/-- NOTE_WRITE (R18): each flag written 0 is cleared, each flag written 1 is left. -/
def execNoteWrite (value : Word) (s : State) : Result :=
  .next (s.on fun w => { w with note := w.note &&& value.setWidth 6 })

/-- NOTEEN_WRITE (R18, R19): all six enables are replaced. -/
def execNoteenWrite (value : Word) (s : State) : Result := .next { s with noteEn := value.setWidth 6 }

/-- REGISTER_WRITE_IGNORED (R16): nothing changes. -/
def execRegisterWriteIgnored (_offset : Nat) (_value : Word) (_strobes : BitVec 4) (s : State) : Result := .next s

end Sys2Proof.Machine
end

