-- ==== Sys2Proof/Machine/RunControl.lean ====
section
/-! DEFINITION. The meanings of the run-state commands (R69, R76, R77, R181 to R187). -/

namespace Sys2Proof.Machine

/-- A directive whose execution has begun when the run state leaves RUNNING (R176). -/
def DirectiveRun.stop (d : DirectiveRun) : DirectiveRun := if d.begun then { d with stopped := true } else d

/-- A phase when the run state leaves RUNNING (R176). -/
def Phase.stop : Phase → Phase
  | .intake (some d) => .intake (some d.stop)
  | ph => ph

/-- A sweep in progress when the run state leaves RUNNING (R77, R101): a decision pass ends and write-back begins; the other
phases go on, and the sweep remembers the change. -/
def State.leaveRunning (s : State) : State :=
  match s.pass with
  | some p =>
    if p.sweep then
      match p.phase with
      | .decision _ => s.beginWriteBack { p with leftRunning := true }
      | ph => { s with pass := some { p with leftRunning := true, phase := ph.stop } }
    else s
  | none => s

/-- Sweep-pending is cleared (R76). -/
def State.clearPending (s : State) : State := { s with timer := { s.timer with sweepPending := false } }

/-- Start-up begins (R182) with XBASE as it stands; its first read waits for the access of a pass that HALT has cut
(log 14). -/
def State.beginStartup (s : State) : State :=
  let s1 := { s with refused := false, startup := some { base := s.xbase, rows := [] } }
  if s.port.isNone then s1.read s.xbase policyOffset 192 .startupPolicy else s1

/-- RUN (R181, R182, R184). -/
def execRun (s : State) : Result :=
  .next <|
    match s.runState with
    | .halted => if s.startup.isNone then s.beginStartup else s.refuse
    | .holding => { s with runState := .running, refused := false }
    | .running | .releasing => s.refuse

/-- HOLD (R76, R77, R184). -/
def execHold (s : State) : Result :=
  .next <|
    match s.runState with
    | .running => { s with runState := .holding, refused := false }.clearPending.leaveRunning
    | .halted | .holding | .releasing => s.refuse

/-- A taken RELEASE (R76, R77, R185): RELEASING, every stack unwound, the end of RELEASING tested in the same event.
DESIGN CHOICE (log 38): the stacks are unwound, as R95 and R185 say, though R82 says that the run-state changes leave the stacks
as they are. -/
def State.release (s : State) : State :=
  let s1 := { s with runState := .releasing, refused := false }.clearPending
  (s1.on fun w => w.unwindAll .release).testReleasingEnd.leaveRunning

/-- RELEASE (R181, R185). -/
def execRelease (s : State) : Result :=
  .next <|
    match s.runState with
    | .running | .holding => s.release
    | .halted | .releasing => s.refuse

/-- The part is quiet enough for HALT (R187): stacks empty, lanes idle and empty, no carrier in DRAINING through RAISING or
STRAY. -/
abbrev Cluster.QuietForHalt (w : Cluster) : Prop :=
  w.Quiet ∧ ∀ i : Site, (w.lane i).outstanding = none ∧ (w.lane i).queue = []

/-- The cluster at HALT (R22, R121, R187): HALT values of every context, join counters 0; the list of PROBE records is
empty (R178, log 13). -/
def Cluster.halt (w : Cluster) : Cluster :=
  { w with
    contexts := w.contexts.map Context.atHalt
    lanes := w.lanes.map fun l => { l with joinCounter := 0 }
    probes := [] }

/-- A pass in progress at HALT (R76): it ends with its access in progress; with none in progress it ends at once (log 13). The
retake slot is kept (R12, R76, R187). -/
def State.cutPass (s : State) : State :=
  match s.pass with
  | some p =>
    if s.port.isSome then { s with pass := some { p with cut := true } }
    else { s with pass := none }
  | none => s

/-- A taken HALT (R76, R187). -/
def State.halt (s : State) : State :=
  ({ s with
    runState := .halted
    refused := false
    sweepCount := 0
    overruns := 0
    starvation := 0
    failsafe := false
    torn := 0
    late := 0
    memErrors := 0 }.on Cluster.halt).clearPending.cutPass

/-- HALT (R187): taken in a quiet HOLDING, otherwise refused. -/
def execHalt (s : State) : Result :=
  .next (if s.runState = .holding ∧ s.cluster.QuietForHalt then s.halt else s.refuse)

/-- SWEEP_NOW (R69): taken in RUNNING, sets sweep-pending and counts no overrun. -/
def execSweepNow (s : State) : Result :=
  .next <|
    match s.runState with
    | .running => { s with refused := false, timer := { s.timer with sweepPending := true } }
    | .halted | .holding | .releasing => s.refuse

end Sys2Proof.Machine
end

