-- ==== Sys2Proof/Machine/Dispatch.lean ====
section
/-! DEFINITION. The effect of each command on everything but the queue: one arm per row of spec/opcode_table.json. -/

namespace Sys2Proof.Machine

def exec (i : Instr) (s : State) : Host.Outcome State Fault Refusal :=
  match i with
  | .powerOnReset => Sys2Proof.Machine.execPowerOnReset s
  | .xbaseWrite value => Sys2Proof.Machine.execXbaseWrite value s
  | .run => Sys2Proof.Machine.execRun s
  | .hold => Sys2Proof.Machine.execHold s
  | .release => Sys2Proof.Machine.execRelease s
  | .halt => Sys2Proof.Machine.execHalt s
  | .sweepNow => Sys2Proof.Machine.execSweepNow s
  | .runctlInvalidCode code => Sys2Proof.Machine.execRunctlInvalidCode code s
  | .noteWrite value => Sys2Proof.Machine.execNoteWrite value s
  | .noteenWrite value => Sys2Proof.Machine.execNoteenWrite value s
  | .registerWriteIgnored offset value strobes => Sys2Proof.Machine.execRegisterWriteIgnored offset value strobes s
  | .memoryAccessComplete access data => Sys2Proof.Machine.execMemoryAccessComplete access data s
  | .memoryAccessError access => Sys2Proof.Machine.execMemoryAccessError access s
  | .memoryAccessTimeout => Sys2Proof.Machine.execMemoryAccessTimeout s
  | .sweepTimerExpiry => Sys2Proof.Machine.execSweepTimerExpiry s
  | .sweepBegin => Sys2Proof.Machine.execSweepBegin s
  | .loadPolicy order => Sys2Proof.Machine.execLoadPolicy order s
  | .loadCarriers count => Sys2Proof.Machine.execLoadCarriers count s
  | .setClock => Sys2Proof.Machine.execSetClock s
  | .holdOn count => Sys2Proof.Machine.execHoldOn count s
  | .releaseHold count => Sys2Proof.Machine.execReleaseHold count s
  | .sleepNow count => Sys2Proof.Machine.execSleepNow count s
  | .probe count => Sys2Proof.Machine.execProbe count s
  | .clearTally => Sys2Proof.Machine.execClearTally s
  | .directiveUnknownKind => Sys2Proof.Machine.execDirectiveUnknownKind s
  | .decisionVisit => Sys2Proof.Machine.execDecisionVisit s
  | .hundredMsTick => Sys2Proof.Machine.execHundredMsTick s
  | .wantWaitExpiry carrier => Sys2Proof.Machine.execWantWaitExpiry carrier s
  | .commandTimeout site => Sys2Proof.Machine.execCommandTimeout site s
  | .laneGrant site => Sys2Proof.Machine.execLaneGrant site s
  | .radioReply site frame => Sys2Proof.Machine.execRadioReply site frame s
  | .linkUp site => Sys2Proof.Machine.execLinkUp site s
  | .linkDown site => Sys2Proof.Machine.execLinkDown site s
  | .civilClockSecond => Sys2Proof.Machine.execCivilClockSecond s
  | .minuteEvent order => Sys2Proof.Machine.execMinuteEvent order s

end Sys2Proof.Machine
end

