-- ==== Sys2Proof/Machine/Step.lean ====
section
/-! DEFINITION. One step: the command at the front of the queue, or on an empty queue the internal event that is due or a cycle
of the reference (log 1, log 2). -/

namespace Sys2Proof.Machine

/-- The step on an empty queue (log 2): a due internal event, else one reference cycle. -/
def idleStep (s : State) : Host.Outcome State Fault Refusal :=
  match s.dueEvent with
  | some c => exec c { s with choices := s.choices + 1 }
  | none => .next s.referenceCycle

/-- One step of the block. -/
def step (s : State) : Host.Outcome State Fault Refusal :=
  match s.pending with
  | c :: rest => exec c { s with pending := rest }
  | [] => idleStep s

/-- The state with the command that the word spells at the front of its queue; unchanged where the word spells none. -/
def State.withFetchWord (s : State) (nbits w : Nat) : State :=
  match decodeTableWord nbits w with
  | some c => { s with pending := c :: s.pending }
  | none => s

end Sys2Proof.Machine
end

