-- ==== Sys2Proof/Safety.lean ====
section
/-! DEFINITION. What holds in every state that a run reaches (the invariants of the statements), and the words in which the
statements say when a command meets its conditions. -/

namespace Sys2Proof.Machine

/-! ## Invariants of the cluster -/

/-- A channel's live tag is none exactly while its lane's outstanding slot is empty, and is the tag recorded there
otherwise (R134, R136). -/
abbrev Cluster.TagsAgree (w : Cluster) : Prop :=
  ∀ i : Site, (w.lane i).outstanding.map Outstanding.tag = (w.channel i).liveTag

/-- No cover stack holds more than 8 entries (R82). -/
abbrev Cluster.StacksFit (w : Cluster) : Prop := ∀ k : Carrier, (w.stack k).length ≤ 8

/-- The carriers that have a want or the command of a lane. -/
def Lane.carriers (l : Lane) : List Carrier := l.outstanding.toList.map Outstanding.carrier ++ l.queue.map Want.carrier

/-- Every carrier of a lane is of the lane's site, and has at most one want, and none while its command is outstanding
(R121, R122). -/
abbrev Lane.Sound (i : Site) (l : Lane) : Prop := l.carriers.Nodup ∧ ∀ c ∈ l.carriers, siteOf c = i

abbrev Cluster.LanesSound (w : Cluster) : Prop := ∀ i : Site, (w.lane i).Sound i

/-- An entry of carrier c stands on the stack of carrier k. -/
def Cluster.standsOn (w : Cluster) (c k : Carrier) : Bool := (w.stack k).any fun e => e.carrier == c

/-- The carrier is in DRAINING through RAISING, or SERVING with a reserved sleep (R27). -/
def Context.sleeps (x : Context) : Bool := x.state.inSleepPath || (x.state == .serving && x.reserved)

/-- A carrier has an entry exactly while it sleeps, and the entry stands on the stack of its cover alone (R27, R82). -/
abbrev Cluster.EntriesFit (w : Cluster) : Prop :=
  ∀ c : Carrier,
    ((w.ctx c).sleeps = true → (w.ctx c).cfg.cover.isSome) ∧
      ((w.stack c).map Entry.carrier).Nodup ∧
        ∀ k : Carrier, w.standsOn c k = true ↔ (w.ctx c).sleeps = true ∧ (w.ctx c).cfg.cover = some k

/-- The owner of a stack that is not empty is SERVING without a reserved sleep, or FAULTED (R27). -/
abbrev Cluster.OwnersAwake (w : Cluster) : Prop :=
  ∀ k : Carrier, w.stack k ≠ [] →
    ((w.ctx k).state = .serving ∧ (w.ctx k).reserved = false) ∨ (w.ctx k).state = .faulted

/-- The reserved-sleep mark is set in SERVING alone (R25). -/
abbrev Cluster.MarksFit (w : Cluster) : Prop := ∀ c : Carrier, (w.ctx c).reserved = true → (w.ctx c).state = .serving

/-- The states in which an entry of a phase can belong to its carrier (R84). -/
def EntryPhase.fits : EntryPhase → CarrierState → Bool
  | .reserved, st => st == .serving || st == .draining || st == .lowering
  | .settling, st | .settled, st => st == .light || st == .deepening || st == .dark || st == .warming
  | .returning, st => st.inSleepPath

abbrev Cluster.PhasesFit (w : Cluster) : Prop :=
  ∀ k : Carrier, ∀ e ∈ w.stack k, e.phase.fits (w.ctx e.carrier).state = true

/-- The carrier states for which a command can be wanted (R130, column "Carrier before"). -/
def RadioCommand.fitsWanted (x : Context) : RadioCommand → Bool
  | .gate => x.state == .serving && x.reserved
  | .shed | .lower | .reopen => x.state == .draining
  | .darken => x.state == .light
  | .warm => x.state == .dark || x.state == .stray
  | .raise => x.state == .light || x.state == .stray
  | .query => x.state == .unknown

/-- The carrier states in which a command can be outstanding (R130, column "Carrier at send"). -/
def RadioCommand.fitsSent (x : Context) : RadioCommand → Bool
  | .gate | .shed | .reopen => x.state == .draining
  | .lower => x.state == .lowering
  | .darken => x.state == .deepening
  | .warm => x.state == .warming || x.state == .stray
  | .raise => x.state == .raising || x.state == .stray
  | .query => x.state == .unknown

/-- Each want stands for a carrier in the state its command needs (R28, R130), and RAISE is wanted for a LIGHT carrier only
once its entry is RETURNING (R84). -/
abbrev Cluster.WantsFit (w : Cluster) : Prop :=
  ∀ i : Site, ∀ x ∈ (w.lane i).queue,
    x.command.fitsWanted (w.ctx x.carrier) = true ∧
      (x.command = .raise → (w.ctx x.carrier).state = .light → w.isReturning x.carrier = true)

/-- Each outstanding command is one that may be outstanding in its carrier's state (R28, R130). -/
abbrev Cluster.SentFit (w : Cluster) : Prop :=
  ∀ i : Site, ∀ o ∈ (w.lane i).outstanding.toList, o.command.fitsSent (w.ctx o.carrier) = true

/-- Carriers, entries, wants and commands agree. -/
abbrev Cluster.Coherent (w : Cluster) : Prop :=
  w.LanesSound ∧ w.EntriesFit ∧ w.OwnersAwake ∧ w.MarksFit ∧ w.PhasesFit ∧ w.WantsFit ∧ w.SentFit

/-- The outcome queue and the PROBE records: the outcomes stand in strictly ascending slot number, so that a slot has one at most
(R10); the records are of distinct slots and share no member, each member is UNKNOWN with a probe origin (R30, R178), and a
record stays only while its selection goes on or a member is left (R178). -/
abbrev Cluster.ProbesFit (w : Cluster) : Prop :=
  w.outcomes.Pairwise (fun o p => o.slot < p.slot) ∧ (w.probes.map ProbeRecord.slot).Nodup ∧
    (w.probes.flatMap ProbeRecord.members).Nodup ∧
      ∀ r ∈ w.probes, (r.members = [] → r.selectionDone = false) ∧
        ∀ c ∈ r.members, (w.ctx c).state = .unknown ∧ (w.ctx c).probeOrigin ≠ none

/-! ## Invariants of the state -/

/-- In HALTED every carrier is UNMANAGED, every stack is empty and every lane idle and empty (R186, R187). A pass that is
still there is one that HALT has cut, with its last access outstanding (R76). Start-up runs in HALTED alone (R181). -/
abbrev State.HaltedSound (s : State) : Prop :=
  (s.startup ≠ none → s.runState = .halted) ∧
    (s.runState = .halted →
      (∀ c : Carrier, (s.ctx c).state = .unmanaged ∧ s.stack c = []) ∧
        (∀ i : Site, (s.lane i).outstanding = none ∧ (s.lane i).queue = []) ∧
          ∀ p ∈ s.pass.toList, p.cut = true ∧ s.port.isSome = true)

/-- A decision pass makes no access (R71, R101). -/
def Phase.isDecision : Phase → Bool
  | .decision _ => true
  | .gather _ _ | .intake _ | .writeBack _ _ => false

abbrev State.PassSound (s : State) : Prop := ∀ p ∈ s.pass.toList, p.phase.isDecision = true → s.port = none

/-- The whole block agrees with itself. -/
abbrev State.Coherent (s : State) : Prop := s.cluster.Coherent ∧ s.HaltedSound ∧ s.PassSound

/-- The counters lie in the ranges that the spec gives them (R6, R9, R14, R68, R70, R72, R134, R188). -/
abbrev State.CountersInRange (s : State) : Prop :=
  s.sweepCount < 4294967296 ∧ s.overruns ≤ 65535 ∧ s.starvation ≤ 255 ∧ s.torn ≤ 65535 ∧ s.late ≤ 65535 ∧
    s.memErrors ≤ 65535 ∧ s.editionWord ≤ 65535 ∧ s.fleetTally ≤ 4294967295

/-- The base that the part's accesses use: that of the pass in progress, else that of the start-up (R2, R70, R75, R182). -/
def State.baseInUse (s : State) : Option (BitVec 20) := (s.pass.map Pass.base).or (s.startup.map Startup.base)

/-- XBASE and the bases of a pass and a start-up leave room for the area below the top of the address space (R1). -/
abbrev State.BasesFit (s : State) : Prop :=
  s.xbase ≤ 0xFFFFA#20 ∧ (∀ p ∈ s.pass.toList, p.base ≤ 0xFFFFA#20) ∧ ∀ u ∈ s.startup.toList, u.base ≤ 0xFFFFA#20

/-- length bytes at an address lie in the 24 KiB area at the base, and touch neither the gap at 0x0600 nor what lies beyond
0x57FF (R1). -/
def inArea (base : BitVec 20) (address : BitVec 32) (length : Nat) : Prop :=
  ∃ offset : Nat, address = base ++ 0#12 + BitVec.ofNat 32 offset ∧
    (offset + length ≤ 0x0600 ∨ (0x0800 ≤ offset ∧ offset + length ≤ 0x5800))

/-- The bases leave room for their areas, and the access that is outstanding lies in the area at the base in use (R1, R2). -/
def State.PortInArea (s : State) : Prop :=
  s.BasesFit ∧ ∀ a : Access, s.port = some a → ∃ base, s.baseInUse = some base ∧ inArea base a.address a.length

/-! ## Words of the statements -/

/-- A frame delivered at a site is the reply r to the command o that is outstanding there (R138, R139). -/
def State.Answered (s : State) (i : Site) (frame : List Byte) (o : Outstanding) (r : Reply) : Prop :=
  parseReply frame = some r ∧ (s.channel i).liveTag = some r.tag ∧ (s.lane i).outstanding = some o ∧ siteOf o.carrier = i

/-- The carrier has neither a want in its lane nor a command outstanding there. -/
abbrev Cluster.Unasked (w : Cluster) (c : Carrier) : Prop := w.wantOf c = none ∧ w.isOutstanding c = false

/-- The lane with one want more at its tail (R122, R124). -/
def Lane.joined (l : Lane) (c : Carrier) (command : RadioCommand) (wait attempt : Nat) : Lane :=
  { l with
    queue := l.queue ++ [{ carrier := c, command, seq := l.joinCounter, wait, attempt }]
    joinCounter := (l.joinCounter + 1) % 65536 }

/-- The lane with its outstanding slot emptied (R131). -/
def Lane.ended (l : Lane) : Lane := { l with outstanding := none }

/-- The channel with its tag retired (R139). -/
def Channel.retired (h : Channel) : Channel := { h with liveTag := none, timeLeft := 0 }

/-- At the site the lane is l and the tag retired; every other lane and channel is as it was. -/
def State.LaneAfterReply (s t : State) (i : Site) (l : Lane) : Prop :=
  t.lane i = l ∧ t.channel i = (s.channel i).retired ∧
    ∀ j : Site, j ≠ i → t.lane j = s.lane j ∧ t.channel j = s.channel j

/-- The run state after an event that leaves the cluster v and tests for the end of RELEASING (R186; which events test is
log 26's reading). -/
def State.runAfter (s : State) (v : Cluster) : RunState :=
  if s.runState = .releasing ∧ v.Quiet then .holding else s.runState

/-- Nothing but contexts, stacks, lanes and channels changes, and RELEASING ends where the part is then quiet. -/
def State.OnlyTables (s t : State) : Prop :=
  t = { s with
    runState := s.runAfter t.cluster
    cluster :=
      { s.cluster with
        contexts := t.cluster.contexts
        coverStacks := t.cluster.coverStacks
        lanes := t.cluster.lanes
        channels := t.cluster.channels } }

/-- Every context but the carrier's is as it was. -/
def State.OtherContexts (s t : State) (c : Carrier) : Prop := ∀ d : Carrier, d ≠ c → t.ctx d = s.ctx d

/-- A directive of that kind waits to be executed, in an intake, with no access outstanding. -/
def State.Executing (s : State) (p : Pass) (d : DirectiveRun) (kind : Option DirectiveKind) : Prop :=
  s.pass = some p ∧ s.port = none ∧ p.phase = .intake (some d) ∧ d.kind = kind

/-- The state after a step of a directive that goes on with the run d (R168). -/
def State.goingOn (s : State) (p : Pass) (d : DirectiveRun) : State :=
  { s with pass := some { p with phase := .intake (some d) } }

/-- The state with an access issued by the pass (R5). -/
def State.issued (s : State) (p : Pass) (phase : Phase) (write : Bool) (offset length : Nat) (data : List Byte)
    (purpose : Purpose) : State :=
  { s with
    pass := some { p with phase }
    port := some
      { number := s.accessSeq, write, address := p.base ++ 0#12 + BitVec.ofNat 32 offset, length, data, purpose, waited := 0 }
    accessSeq := s.accessSeq + 1 }

/-- An access of that purpose is outstanding in the pass p, which HALT has not cut. -/
def State.Awaiting (s : State) (p : Pass) (a : Access) (purpose : Purpose) : Prop :=
  s.pass = some p ∧ p.cut = false ∧ s.port = some a ∧ a.purpose = purpose

/-- A failed access has been counted and FAULT is set (R6). -/
def State.failed (s : State) : State :=
  { s with
    memErrors := min 65535 (s.memErrors + 1)
    cluster := { s.cluster with note := Notice.fault.raiseIn s.cluster.note } }

/-! ### The reference clock -/

/-- No internal event is due (R70, R102, R127, R137, R154, R168): no live command without time left, no minute event raised, no
grant to be made, no sweep to begin, and no directive or decision visit that waits. -/
def State.NothingDue (s : State) : Prop :=
  (∀ i : Site, (s.channel i).liveTag = none ∨ (s.channel i).timeLeft ≠ 0) ∧ s.minutesDue = [] ∧
  (∀ i : Site,
    (s.lane i).outstanding ≠ none ∨ (s.channel i).up = false ∨ (s.lane i).choose s.runState = none) ∧
  ¬(s.timer.sweepPending = true ∧ s.pass = none ∧ s.runState = .running) ∧
  ∀ p : Pass, s.pass = some p →
    (∀ n : Nat, p.phase ≠ .decision n) ∧ ∀ d : DirectiveRun, p.phase = .intake (some d) → s.port ≠ none

/-- One cycle of the 1 MHz reference over the access that is outstanding, which fails when 50 have passed (R5). -/
def State.AccessCycled (s t : State) : Prop :=
  (s.port = none → t = s) ∧
  ∀ a : Access, s.port = some a →
    if a.waited + 1 < 50 then t = { s with port := some { a with waited := a.waited + 1 } }
    else exec .memoryAccessTimeout s = .next t

/-- One cycle over the civil clock: every millionth is a second, and an invalid clock stands still (R153). -/
def State.ClockCycled (s t : State) : Prop :=
  if s.clock.valid = false then t = s
  else if s.clock.sub + 1 < 1000000 then t = { s with clock := { s.clock with sub := s.clock.sub + 1 } }
  else exec .civilClockSecond s = .next t

/-- One cycle over the Sweep Timer, which stands still in HALTED (R65, R123): every thousandth is a tick, at which the
prescaler and the 100 ms divider advance and the down-count is stepped where the prescale code's low bits are 0; a step to 0 is
an expiry, and a wrap of the divider the 100 ms tick. -/
def State.TimerCycled (s t : State) : Prop :=
  if s.runState = .halted then t = s
  else if s.timer.tick + 1 < 1000 then t = { s with timer := { s.timer with tick := s.timer.tick + 1 } }
  else
    let prescaler := (s.timer.prescaler + 1) % 128
    let hundred := (s.timer.hundred + 1) % 100
    let stepped : Bool := decide (prescaler % 2 ^ s.policy.prescale = 0)
    let ticked : State :=
      { s with
        timer :=
          { s.timer with
            tick := 0
            prescaler
            hundred
            downCount := if stepped = true then s.timer.downCount - 1 else s.timer.downCount } }
    ∃ u : State,
      (if stepped = true ∧ s.timer.downCount ≤ 1 then exec .sweepTimerExpiry ticked = .next u else u = ticked) ∧
        if hundred = 0 then exec .hundredMsTick u = .next t else t = u

/-! ### The night windows -/

/-- A match of the window fires at the minute event: the window is enabled, and weekday, hour and minute fit (R158). -/
abbrev Window.Fires (w : Window) (x : WindowMatch) (m : MinuteStamp) : Prop :=
  w.entry.enabled = true ∧ x.mask.getLsbD m.weekday = true ∧ (x.hour = none ∨ x.hour = some m.hours) ∧
    (x.minute = none ∨ x.minute = some m.minutes)

/-- The window's CLOSE acts at the minute event: it fires, and the window is OPEN or SHALLOW (R160, R162). -/
abbrev Window.Closes (w : Window) (m : MinuteStamp) : Prop := w.phase ≠ .closed ∧ w.Fires w.entry.closeAt m

/-- The window's OPEN acts at the minute event: it fires, and the window is SHUT or its CLOSE has acted (R160, R161). -/
abbrev Window.Opens (w : Window) (m : MinuteStamp) : Prop := w.Fires w.entry.openAt m ∧ (w.phase = .closed ∨ w.Closes m)

/-- The window's DEEP_STOP acts at the minute event: it fires, and the CLOSE and the OPEN leave the window OPEN (R160, R163). -/
abbrev Window.Stops (w : Window) (m : MinuteStamp) : Prop :=
  w.Fires w.entry.deepStopAt m ∧ (w.Opens m ∨ (w.phase = .opened ∧ ¬w.Closes m))

/-- The minute event finds the window SHALLOW and its CLOSE does not act, so that only the follow-up is made (R164). -/
abbrev Window.FollowsUp (w : Window) (m : MinuteStamp) : Prop := w.phase = .shallow ∧ ¬w.Closes m

/-- The window acts on its bound carriers at the minute event (R160, R164). -/
abbrev Window.Acts (w : Window) (m : MinuteStamp) : Prop := w.Closes m ∨ w.Opens m ∨ w.Stops m ∨ w.FollowsUp m

/-! ### The course of a pass -/

/-- The header is written, with the mirror edition word one higher when a mirror record has been written (R14). -/
def State.IssuesHeader (s t : State) (p : Pass) (wrote : Bool) : Prop :=
  let risen : State := { s with editionWord := if wrote then (s.editionWord + 1) % 65536 else s.editionWord }
  t = risen.issued p (.writeBack wrote []) true 0 64 (headerBytes risen) .header

/-- The state of the first slot of the list is read back for its outcome, or, with none left, the header is written (R11,
R14). -/
def State.GoesOnWith (s t : State) (p : Pass) (wrote : Bool) (todo : List Slot) : Prop :=
  match todo with
  | n :: _ => t = s.issued p (.writeBack wrote todo) false (0x0200 + 32 * n.val) 1 [] (.outcomeCheck n)
  | [] => s.IssuesHeader t p wrote

/-- The record of the first dirty carrier from a number on is written, with an edition one above the carrier's and the dirty
mark cleared; with no such carrier the outcomes that stand in the queue follow (R11, R13). That the scan goes up once is
log 35. -/
def State.WritesRecords (s t : State) (p : Pass) (wrote : Bool) (start : Nat) : Prop :=
  (∀ c : Carrier, start ≤ c.val → (s.ctx c).dirty = true →
    (∀ d : Carrier, start ≤ d.val → d < c → (s.ctx d).dirty = false) →
    t.ctx c = { s.ctx c with dirty := false } ∧ s.OtherContexts t c ∧
    t = ({ s with cluster := { s.cluster with contexts := t.cluster.contexts } }).issued p (.writeBack wrote []) true
      (0x3800 + 32 * c.val) 32 (mirrorRecord s.cluster c (((s.ctx c).edition + 1) % 256))
      (.mirrorRecord c (((s.ctx c).edition + 1) % 256))) ∧
  ((∀ c : Carrier, start ≤ c.val → (s.ctx c).dirty = false) →
    s.GoesOnWith t p wrote (s.cluster.outcomes.map DirectiveOutcome.slot))

/-- The write-back of the pass begins (R13). -/
def State.BeginsWriteBack (s t : State) (p : Pass) : Prop := s.WritesRecords t p false 0

/-- The slot after n is read; after slot 31 the decision pass begins at carrier 0, or write-back when the run state has left
RUNNING (R10, R77, R101). -/
def State.NextSlot (s t : State) (p : Pass) (n : Slot) : Prop :=
  if h : n.val + 1 < 32 then
    t = s.issued p (.intake none) false (0x0200 + 32 * (n.val + 1)) 1 [] (.slotState ⟨n.val + 1, h⟩)
  else if p.leftRunning = true then s.BeginsWriteBack t p
  else t = { s with pass := some { p with phase := .decision 0 } }

/-- The directive d has been executed: the retake slot returns to none if it was this one, and the next slot follows (R10,
R12). -/
def State.Executed (s t : State) (p : Pass) (d : DirectiveRun) : Prop :=
  ({ s with retake := if s.retake = some d.slot then none else s.retake }).NextSlot t p d.slot

/-- The directive d has been executed and its outcome has joined the queue (R10, R168, R170). -/
def State.Concluded (s t : State) (p : Pass) (d : DirectiveRun) (affected skipped : Nat) (code : OutcomeCode) : Prop :=
  ({ s with
      cluster :=
        { s.cluster with outcomes := joinOutcome { slot := d.slot, affected, skipped, code } s.cluster.outcomes } }).Executed
    t p d

/-- A step of a directive leaves the cluster v and the run d, which goes on, or ends with its counts when every carrier number
has been taken (R168, R170). -/
def State.Stepped (s t : State) (p : Pass) (d : DirectiveRun) (v : Cluster) : Prop :=
  let u : State := { s with runState := s.runAfter v, cluster := v }
  if d.position < 256 then t = u.goingOn p d else u.Concluded t p d d.affected d.skipped .ok

/-- A step of a PROBE leaves the cluster v and the run d. When every carrier number has been taken, selection done is set in
its record, and a record without members leaves the list with its outcome (R177, R178). -/
def State.ProbeStepped (s t : State) (p : Pass) (d : DirectiveRun) (v : Cluster) : Prop :=
  if d.position < 256 then t = ({ s with cluster := v }).goingOn p d
  else
    let records := v.probes.map fun r => if r.slot = d.slot then { r with selectionDone := true } else r
    let ended (r : ProbeRecord) : Bool := r.members.isEmpty && r.selectionDone
    let outcome (r : ProbeRecord) : DirectiveOutcome :=
      { slot := r.slot, affected := r.affected, skipped := r.skipped, code := .ok }
    ({ s with
        cluster :=
          { v with
            probes := records.filter fun r => !ended r
            outcomes := (records.filter ended).foldl (fun q r => joinOutcome (outcome r) q) v.outcomes } }).Executed t p d

/-- What the end of the carrier's query does to the PROBE records and the outcome queue (R148, R178): where a PROBE holds the
carrier, it is counted in the record that has it as a member and leaves the members, and a record whose selection is done
ends with its last member. -/
def Cluster.QueryEnded (w v : Cluster) (c : Carrier) (answered : Bool) : Prop :=
  let probed : Prop := (w.ctx c).state = .unknown ∧ (w.ctx c).probeOrigin ≠ none
  (¬probed → v.probes = w.probes ∧ v.outcomes = w.outcomes) ∧
  (probed → ∀ (pre post : List ProbeRecord) (r : ProbeRecord), w.probes = pre ++ r :: post → c ∈ r.members →
    (∀ x ∈ pre ++ post, c ∉ x.members ∧ (x.members = [] → x.selectionDone = false)) →
    (let left : ProbeRecord :=
      { r with
        members := r.members.filter fun m => m != c
        affected := if answered = true then r.affected + 1 else r.affected
        skipped := if answered = true then r.skipped else r.skipped + 1 }
     if left.members = [] ∧ r.selectionDone = true then
       v.probes = pre ++ post ∧ v.outcomes = joinOutcome
         { slot := r.slot, affected := left.affected, skipped := left.skipped, code := .ok } w.outcomes
     else v.probes = pre ++ left :: post ∧ v.outcomes = w.outcomes))

/-! ### The gather -/

/-- What the three reads of an observation slot do (R9, R41 to R46; log 39 for the age of a not-new slot): torn and not-new slots raise the age, a taken observation
sets stamp and age and is applied in SERVING, and class ageing follows. -/
def State.SlotVisited (s u : State) (c : Carrier) (stamp b : Byte) (used users : Nat) : Prop :=
  let x := s.ctx c
  let y := u.ctx c
  let taken : Prop := stamp = b ∧ x.lastStamp ≠ some stamp
  let p1 := utilisation used x.cfg.capacity
  y = { x with
    lastStamp := y.lastStamp, age := y.age, load := y.load, cls := y.cls, lastUsers := y.lastUsers,
    unorderedNow := y.unorderedNow, dirty := y.dirty } ∧
  (¬taken →
    y.age = min 255 (x.age + 1) ∧ y.lastStamp = x.lastStamp ∧ y.load = x.load ∧ y.lastUsers = x.lastUsers ∧
    y.unorderedNow = x.unorderedNow ∧
    y.cls = (if (x.cls = .fresh ∨ x.cls = .clipped) ∧ s.policy.freshness < y.age then .aged else x.cls)) ∧
  (taken → y.lastStamp = some stamp ∧ y.age = 0) ∧
  (taken → x.state ≠ .serving →
    y.load = x.load ∧ y.cls = x.cls ∧ y.lastUsers = x.lastUsers ∧ y.unorderedNow = x.unorderedNow) ∧
  (taken → x.state = .serving →
    y.load = (if x.cls = .absent then 16 * p1.1 else smooth x.cfg.shift x.load (16 * p1.1)) ∧
    y.cls = (if p1.2 then .clipped else .fresh) ∧ y.lastUsers = users ∧ y.unorderedNow = false) ∧
  (y.dirty = true ↔
    x.dirty = true ∨ y.age ≠ x.age ∨ y.load ≠ x.load ∨ y.cls ≠ x.cls ∨ y.unorderedNow ≠ x.unorderedNow) ∧
  s.OtherContexts u c ∧
  u = { s with
    torn := if stamp = b then s.torn else min 65535 (s.torn + 1)
    cluster := { s.cluster with contexts := u.cluster.contexts } }

/-- Every stack of a coherent cluster has been unwound with one reason (R31 to R33, R73, R93, R95). Each stack keeps its entries
but the reserved ones, RETURNING with the reason, or as they were where they already were (R100). A carrier whose entry turns has
the reason as its last reason and the want of R31; one whose reservation goes starts its re-sleep hold. A carrier without an
entry is as it was, but that an owner which loses an entry is dirty, and with an empty stack hands on by R92. No command is
ended. -/
def Cluster.UnwoundAll (w v : Cluster) (r : Reason) : Prop :=
  (∀ k : Carrier, v.stack k =
    ((w.stack k).filter fun e => !(w.ctx e.carrier).reserved).map fun e =>
      if e.phase = .returning then e else { e with phase := .returning, reason := r }) ∧
  (∀ c : Carrier, (v.ctx c).reserved = false) ∧
  (∀ i : Site, (v.lane i).outstanding = (w.lane i).outstanding) ∧
  (∀ k : Carrier, ∀ e ∈ w.stack k,
    (let c := e.carrier
     let x := w.ctx c
     let noted : Context := { x with lastReason := some r, dirty := true }
     let opens : Prop := x.state = .draining ∧ (w.wants c .shed = true ∨ w.wants c .lower = true)
     (e.phase = .returning → v.ctx c = x ∧ v.wantOf c = w.wantOf c) ∧
     (x.reserved = true →
       v.ctx c = { noted with reserved := false, resleepLeft := x.cfg.resleepHold } ∧ v.wantOf c = none) ∧
     (e.phase ≠ .returning → x.reserved = false →
       v.ctx c = noted ∧
       (x.state = .light → v.wants c .raise = true) ∧
       (x.state = .dark → v.wants c .warm = true) ∧
       (opens → v.wants c .reopen = true) ∧
       (x.state ≠ .light → x.state ≠ .dark → ¬opens → v.wantOf c = w.wantOf c)))) ∧
  ∀ c : Carrier, w.holdsEntry c = false →
    (let x := w.ctx c
     let lost : Bool := (w.stack c).any fun e => (w.ctx e.carrier).reserved
     let emptied : Bool := lost && (v.stack c).isEmpty
     if emptied = true ∧ x.state = .faulted ∧ x.cause = some .link ∧ (w.channel (siteOf c)).up = true then
       v.ctx c = { x with
         state := .unknown, cls := .absent, probeOrigin := none, sleepCount := 0, wakeCount := 0, dirty := true } ∧
       v.wants c .query = true
     else
       v.ctx c = { x with
         dirty := x.dirty || lost
         wakeCount := if emptied = true ∧ x.state = .serving then 0 else x.wakeCount } ∧
       v.wantOf c = w.wantOf c)

/-- The part enters failsafe (R73): the condition and the notice are set, and every stack is unwound with reason FAILSAFE. -/
def State.EntersFailsafe (s v : State) : Prop :=
  (s.cluster.Coherent → s.cluster.UnwoundAll v.cluster .failsafe) ∧
  v = { s with
    failsafe := true
    runState := s.runAfter v.cluster
    cluster :=
      { s.cluster with
        contexts := v.cluster.contexts
        coverStacks := v.cluster.coverStacks
        lanes := v.cluster.lanes
        note := Notice.failsafe.raiseIn s.cluster.note } }

/-- The starvation check (R72, R74), by whether an observation has been taken, a present carrier visited, and a read failed. -/
def State.StarvationChecked (s v : State) (taken visited failed : Bool) : Prop :=
  let count := min 255 (s.starvation + 1)
  if taken = true then v = { s with starvation := 0, failsafe := false }
  else if failed = true ∨ visited = false then v = s
  else if s.policy.failsafeLimit ≤ count ∧ s.failsafe = false then ({ s with starvation := count }).EntersFailsafe v
  else v = { s with starvation := count }

/-- The end of a gather (R71, R72, R77): the starvation check, and then slot 0 of the directive board, or write-back after a
failed read or when the run state has left RUNNING. -/
def State.GatherEnds (s t : State) (p : Pass) (taken visited failed : Bool) : Prop :=
  ∃ v : State, s.StarvationChecked v taken visited failed ∧
    if failed = true ∨ p.leftRunning = true then v.BeginsWriteBack t p
    else t = v.issued p (.intake none) false 0x0200 1 [] (.slotState 0)

/-! ### The decision pass -/

/-- The run state has left RUNNING with the sweep of the state u in progress (R77, R176): a decision pass ends and its write-back
begins, a directive whose execution has begun learns of it, the other phases go on; a write-back-only pass goes on as it
is. -/
def State.LeavesRunning (u t : State) : Prop :=
  (u.pass = none → t = u) ∧
  ∀ p : Pass, u.pass = some p →
    (p.sweep = false → t = u) ∧
    (p.sweep = true →
      (∀ n : Nat, p.phase = .decision n → u.BeginsWriteBack t { p with leftRunning := true }) ∧
      (∀ d : DirectiveRun, p.phase = .intake (some d) →
        t = { u with
          pass := some { p with leftRunning := true, phase := .intake (some { d with stopped := d.stopped || d.begun }) } }) ∧
      ((∀ n : Nat, p.phase ≠ .decision n) → (∀ d : DirectiveRun, p.phase ≠ .intake (some d)) →
        t = { u with pass := some { p with leftRunning := true } }))

/-- The next visit of a decision pass goes to carrier c. -/
def State.Visits (s : State) (p : Pass) (c : Carrier) : Prop := s.pass = some p ∧ p.phase = .decision c.val

/-- The visit of carrier c has left the cluster v: the pass goes on to the next number, and after carrier 255 write-back
begins (R101). -/
def State.AfterVisit (s t : State) (p : Pass) (c : Carrier) (v : Cluster) : Prop :=
  let u : State := { s with runState := s.runAfter v, cluster := v }
  if c.val + 1 < 256 then t = { u with pass := some { p with phase := .decision (c.val + 1) } } else u.BeginsWriteBack t p

/-- A candidate that the decision pass and SLEEP_NOW test (R107). -/
abbrev Cluster.Testable (w : Cluster) (c : Carrier) : Prop :=
  (w.ctx c).cfg.present = true ∧ (w.ctx c).state = .serving ∧ (w.ctx c).reserved = false ∧ w.stack c = [] ∧
    (w.ctx c).holdLeft = 0

/-- The twelve conditions of the sleep test of c onto its cover k (R81, R108 to R111, R117). -/
abbrev Cluster.Admits (w : Cluster) (t : TestSetting) (m : SleepMode) (c k : Carrier) : Prop :=
  (t.phaseOf (w.ctx c) = some .opened ∨ (t.phaseOf (w.ctx c) = some .shallow ∧ m ≠ .directed true)) ∧
  t.failsafe = false ∧
  (w.ctx c).resleepLeft = 0 ∧
  (w.ctx c).sleepsTonight < (w.ctx c).cfg.budget ∧
  (w.ctx c).cfg.cover = some k ∧
  (w.ctx c).lastUsers ≤ (w.ctx c).cfg.userCeiling ∧
  (w.ctx c).cls = .fresh ∧
  (w.ctx c).load < 16 * (w.ctx c).cfg.sleepLimit ∧
  (m = .pass → (w.ctx c).cfg.sleepDwell ≤ min 255 ((w.ctx c).sleepCount + 1)) ∧
  (w.ctx k).cfg.present = true ∧
  k ≠ c ∧
  (w.ctx k).state = .serving ∧
  (w.ctx k).reserved = false ∧
  w.holdsEntry k = false ∧
  ((w.ctx k).cls = .fresh ∨ (w.ctx k).cls = .clipped) ∧
  projection (w.ctx k) (w.stack k) (absorbedLoad (w.ctx c) (w.ctx k)) ≤ 16 * (w.ctx k).cfg.absorbLimit ∧
  (w.stack k).length < 8

/-- Conditions 1 to 8 of the sleep test, each with the refusal of its failure, in their order (R108 to R110, R117). -/
def Cluster.candidateChecks (w : Cluster) (t : TestSetting) (m : SleepMode) (c : Carrier) : List (Bool × RefusalCode) :=
  let x := w.ctx c
  [(decide (t.phaseOf x = some .opened ∨ (t.phaseOf x = some .shallow ∧ m ≠ .directed true)), .window),
   (!t.failsafe, .failsafe),
   (decide (x.resleepLeft = 0), .resleep),
   (decide (x.sleepsTonight < x.cfg.budget), .budget),
   (x.cfg.cover.isSome, .noCover),
   (decide (x.lastUsers ≤ x.cfg.userCeiling), .users),
   (decide (x.cls ≠ .clipped ∧ (x.cls = .fresh → x.load < 16 * x.cfg.sleepLimit)), .load),
   (decide (x.cls ≠ .absent ∧ x.cls ≠ .aged), .unordered)]

/-- Conditions 9 to 12, with those of R81 for the cover k at condition 10 (R81, R108, R110, R111, R117). -/
def Cluster.coverChecks (w : Cluster) (m : SleepMode) (c k : Carrier) : List (Bool × RefusalCode) :=
  let x := w.ctx c
  let y := w.ctx k
  [(decide (m = .pass → x.cfg.sleepDwell ≤ min 255 (x.sleepCount + 1)), .dwellPending),
   (y.cfg.present, .coverIneligible),
   (decide (k ≠ c), .coverIneligible),
   (decide (y.state = .serving ∧ y.reserved = false), .coverIneligible),
   (!w.holdsEntry k, .coverIneligible),
   (decide (y.cls = .fresh ∨ y.cls = .clipped), .unordered),
   (decide (projection y (w.stack k) (absorbedLoad x y) ≤ 16 * y.cfg.absorbLimit), .ceiling),
   (decide ((w.stack k).length < 8), .stackFull)]

/-- The refusal of the first check that fails. -/
def firstRefusal (checks : List (Bool × RefusalCode)) : Option RefusalCode := (checks.find? fun q => !q.1).map Prod.snd

/-- The sleep test of c has been refused (R61, R62, R86, R110, R112, R117): the code is the last refusal; in the pass the
sleep-dwell count takes a value; the carrier whose class gave UNORDERED is marked, with DATA under the strict-data flag; and
the cover k that refused a push has its overflow mark. -/
def Cluster.Refused (w v : Cluster) (t : TestSetting) (m : SleepMode) (c : Carrier) (code : RefusalCode) (count : Nat)
    (unordered overflown : Option Carrier) : Prop :=
  (∀ d : Carrier, v.ctx d =
    { w.ctx d with
      lastRefusal := if d = c then some code else (w.ctx d).lastRefusal
      sleepCount := if d = c ∧ m = .pass then count else (w.ctx d).sleepCount
      unorderedNow := (w.ctx d).unorderedNow || decide (unordered = some d)
      overflowSeen := (w.ctx d).overflowSeen || decide (overflown = some d)
      dirty := (w.ctx d).dirty || decide (d = c ∧ (w.ctx d).lastRefusal ≠ some code) ||
        decide (unordered = some d ∧ (w.ctx d).unorderedNow = false) ||
        decide (overflown = some d ∧ (w.ctx d).overflowSeen = false) }) ∧
  v = { w with
    contexts := v.contexts
    note := if unordered ≠ none ∧ t.policy.strictData = true then Notice.data.raiseIn w.note else w.note }

/-- What the sleep test of c leaves when a condition fails: one of the first eight, or one of the last four with the cover k
(R108 to R112, R117). -/
def Cluster.RefusesTest (w v : Cluster) (t : TestSetting) (m : SleepMode) (c : Carrier) : Prop :=
  (∀ code : RefusalCode, firstRefusal (w.candidateChecks t m c) = some code →
    w.Refused v t m c code 0 (if code = .unordered then some c else none) none) ∧
  ∀ (k : Carrier) (code : RefusalCode), firstRefusal (w.candidateChecks t m c) = none → (w.ctx c).cfg.cover = some k →
    firstRefusal (w.coverChecks m c k) = some code →
    w.Refused v t m c code (min 255 ((w.ctx c).sleepCount + 1)) (if code = .unordered then some k else none)
      (if code = .stackFull then some k else none)

/-- The cluster in which the sleep of c onto k has been reserved (R85, R107, R113; log 40 for the cover's count). -/
def Cluster.Reserved (w v : Cluster) (c k : Carrier) (reason : Reason) (deepen : Bool) : Prop :=
  v.stack k = w.stack k ++
    [{ carrier := c, phase := .reserved, absorbed := absorbedLoad (w.ctx c) (w.ctx k), depth := .none, settle := 0, reason,
       deepenAtOnce := deepen }] ∧
  v.ctx c = { w.ctx c with reserved := true, sleepCount := 0, lastReason := some reason, lastRefusal := none, dirty := true } ∧
  v.ctx k = { w.ctx k with overflowSeen := false, sleepCount := 0, dirty := true } ∧
  v.lane (siteOf c) = (w.lane (siteOf c)).joined c .gate 0 1 ∧
  (∀ d : Carrier, d ≠ c → d ≠ k → v.ctx d = w.ctx d) ∧
  (∀ d : Carrier, d ≠ k → v.stack d = w.stack d) ∧
  (∀ j : Site, j ≠ siteOf c → v.lane j = w.lane j) ∧
  v = { w with contexts := v.contexts, coverStacks := v.coverStacks, lanes := v.lanes }

end Sys2Proof.Machine
end

