-- ==== Sys2Proof/WellFormed.lean ====
section
/-! DEFINITION. When a command's operands are ones that the table's row speaks of. -/

namespace Sys2Proof

/-- The ten parts of a minute event in the default order: windows ascending, countdowns, accounting. -/
def allMinuteParts : List MinutePart := windowNos.map .window ++ [.countdown, .accounting]

/-- The port ignores a write with fewer than four strobes, a write to STAT and a write at or above 0x14 (R16); a write to an
offset that is no multiple of 4 reaches no register either (log 16). -/
def writeIgnored (offset : Nat) (strobes : BitVec 4) : Bool :=
  strobes != 0xF#4 || offset == 0x08 || decide (0x14 ≤ offset) || offset % 4 != 0

/-- Operands that fit the command's row. -/
def Instr.wellFormed : Instr → Bool
  | .runctlInvalidCode code => code == 0#3 || code == 6#3 || code == 7#3
  | .registerWriteIgnored offset _ strobes => writeIgnored offset strobes
  | .loadPolicy order => order.isPerm windowNos
  | .loadCarriers n => 0 < n && n ≤ 256
  | .holdOn n => 0 < n && n ≤ 256
  | .releaseHold n => 0 < n && n ≤ 256
  | .sleepNow n => 0 < n && n ≤ 256
  | .probe n => 0 < n && n ≤ 256
  | .minuteEvent order => order.isPerm allMinuteParts
  | .powerOnReset => true
  | .xbaseWrite _ => true
  | .run => true
  | .hold => true
  | .release => true
  | .halt => true
  | .sweepNow => true
  | .noteWrite _ => true
  | .noteenWrite _ => true
  | .memoryAccessComplete _ _ => true
  | .memoryAccessError _ => true
  | .memoryAccessTimeout => true
  | .sweepTimerExpiry => true
  | .sweepBegin => true
  | .setClock => true
  | .clearTally => true
  | .directiveUnknownKind => true
  | .decisionVisit => true
  | .hundredMsTick => true
  | .wantWaitExpiry _ => true
  | .commandTimeout _ => true
  | .laneGrant _ => true
  | .radioReply _ _ => true
  | .linkUp _ => true
  | .linkDown _ => true
  | .civilClockSecond => true

end Sys2Proof
end

