-- ==== Sys2Proof/Certificates/Slice0/Obligations.lean ====
section
/-! DEFINITION. The statements for the provers: what the rules of spec/ say that the commands and the block do. -/

open Sys2Proof Sys2Proof.Machine

/-! ## The machine -/

/-- One step takes the command at the front of the queue and runs it with the rest of the queue. On an empty queue it
runs the internal event that is due, if any, and counts it; with none due a cycle of the reference passes, which
Obligations.ExpiryTable states. The queue (log 1), and what a step does when it is empty (log 2), are the model's
choices. -/
def Obligations.StepRunsFrontCommand : Prop :=
  (∀ (c : Instr) (rest : List Instr) (s : State), s.pending = c :: rest →
    step s = exec c { s with pending := rest }) ∧
  ∀ (c : Instr) (s : State), s.pending = [] → s.dueEvent = some c → step s = exec c { s with choices := s.choices + 1 }

/-- Every command, in every state, answers a next state and leaves the queue as it is. The queue is the model's choice
(log 1). -/
def Obligations.EveryCommandAnswers : Prop :=
  ∀ (c : Instr) (s : State), ∃ t, exec c s = .next t ∧ t.pending = s.pending

/-- Each of these pieces of state is changed by its own commands alone: XBASE (section 1.1), NOTEEN (section 1.7), the
clock (sections 9.1 and 9.2), the fleet tally (section 11.5), the sweep count (section 4.3), the late-reply count
(section 8.1), the policy settings (chapter 3, sections 4.1, 5.4 and 8.1), the windows (sections 9.3 and 9.4), link
states and next tags (section 8.1). -/
def Obligations.RegistersHaveWriters : Prop :=
  ∀ (c : Instr) (s t : State), exec c s = .next t → c ≠ .powerOnReset →
    (t.xbase ≠ s.xbase → ∃ v, c = .xbaseWrite v) ∧
    (t.noteEn ≠ s.noteEn → ∃ v, c = .noteenWrite v) ∧
    (t.clock ≠ s.clock → c = .civilClockSecond ∨ c = .setClock) ∧
    (t.fleetTally ≠ s.fleetTally → c = .clearTally ∨ ∃ order, c = .minuteEvent order) ∧
    (t.sweepCount ≠ s.sweepCount → c = .sweepBegin ∨ c = .halt) ∧
    (t.late ≠ s.late → c = .halt ∨ ∃ i frame, c = .radioReply i frame) ∧
    (t.policy ≠ s.policy → (∃ order, c = .loadPolicy order) ∨ ∃ n data, c = .memoryAccessComplete n data) ∧
    (t.windows ≠ s.windows →
      (∃ order, c = .loadPolicy order) ∨ (∃ order, c = .minuteEvent order) ∨ ∃ n data, c = .memoryAccessComplete n data) ∧
    ∀ i : Site,
      ((t.channel i).up ≠ (s.channel i).up → c = .linkUp i ∨ c = .linkDown i) ∧
        ((t.channel i).nextTag ≠ (s.channel i).nextTag → c = .laneGrant i ∨ ∃ k, siteOf k = i ∧ c = .wantWaitExpiry k)

/-- The changes of the run state are those of section 11.1 and 11.3: start-up's end, HOLD, RELEASE (to HOLDING at once
where the part is quiet), RUN in HOLDING, HALT, and the end of RELEASING. That any event which leaves the part quiet
ends RELEASING is the model's reading (log 26). -/
def Obligations.RunStateEdges : Prop :=
  ∀ (c : Instr) (s t : State), s.HaltedSound → exec c s = .next t → c ≠ .powerOnReset → t.runState ≠ s.runState →
    (s.runState = .halted ∧ t.runState = .running ∧ ∃ n data, c = .memoryAccessComplete n data) ∨
    (s.runState = .running ∧ t.runState = .holding ∧ (c = .hold ∨ c = .release)) ∨
    (s.runState = .running ∧ t.runState = .releasing ∧ c = .release) ∨
    (s.runState = .holding ∧ t.runState = .running ∧ c = .run) ∨
    (s.runState = .holding ∧ t.runState = .releasing ∧ c = .release) ∨
    (s.runState = .holding ∧ t.runState = .halted ∧ c = .halt) ∨
    (s.runState = .releasing ∧ t.runState = .holding)

/-! ## Invariants -/

/-- Carriers, cover stacks, wants, outstanding commands, run state and pass stay in agreement (sections 2.2, 2.3, 5.2,
7.1, 7.5 and 11.4). -/
def Obligations.CoherentStep : Prop := ∀ s t : State, s.Coherent → step s = .next t → t.Coherent

/-- The live tag of a channel and the record in its lane's outstanding slot stay in agreement (section 8.1). -/
def Obligations.TagsAgreeStep : Prop :=
  ∀ s t : State, s.cluster.TagsAgree → step s = .next t → t.cluster.TagsAgree

/-- No stack comes to hold more than 8 entries (section 5.2), the counters stay in their ranges, and, in a coherent
state, XBASE and the bases of the pass and of the start-up stay at most 0xFFFFA and the access that is outstanding lies
in the 24 KiB area at the base in use (that of the pass in progress, else of the start-up), clear of the gap at 0x0600
(section 1.1). In a coherent state the outcome queue stays in strictly ascending slot number, so that no slot has two
outcomes (section 1.5), and the PROBE records stay of distinct slots with disjoint members, each UNKNOWN with a probe
origin, and none stays once its selection is done and its last member gone (section 10.5). An outcome that joins the
queue stands there in place of any other of its slot. -/
def Obligations.BoundsStep : Prop :=
  (∀ s t : State, step s = .next t →
    (s.cluster.StacksFit → t.cluster.StacksFit) ∧ (s.CountersInRange → t.CountersInRange) ∧
      (s.Coherent → s.PortInArea → t.PortInArea) ∧ (s.Coherent → s.cluster.ProbesFit → t.cluster.ProbesFit)) ∧
  ∀ (o : DirectiveOutcome) (q : List DirectiveOutcome), q.Pairwise (fun x y => x.slot < y.slot) →
    (joinOutcome o q).Pairwise (fun x y => x.slot < y.slot) ∧
      ∀ x : DirectiveOutcome, x ∈ joinOutcome o q ↔ x = o ∨ (x ∈ q ∧ x.slot ≠ o.slot)

/-! ## Power-on reset and the register port -/

/-- The block at power-on reset: registers, contexts, stacks, lanes, channels, timer, clock, windows and counters
(sections 1.7, 2.2, 4.1, 5.2, 7.1, 8.1, 9.1, 9.3 and 9.4). The queue and the model's own counters are not spoken of (log
17). -/
def Obligations.ResetState : Prop :=
  (∀ offset : Nat, State.reset.readRegister offset = 0#32) ∧ State.reset.interruptLine = false ∧
  State.reset.runState = .halted ∧ State.reset.startup = none ∧ State.reset.pass = none ∧ State.reset.port = none ∧
  State.reset.retake = none ∧ State.reset.cluster.outcomes = [] ∧ State.reset.cluster.probes = [] ∧
  (∀ c : Carrier, State.reset.stack c = [] ∧ State.reset.ctx c =
    { cfg :=
        { present := false, cover := none, window := none, capacity := 0, shift := 0, sleepLimit := 0, wakeLimit := 0,
          absorbLimit := 0, sleepDwell := 0, wakeDwell := 0, userCeiling := 0, budget := 0, resleepHold := 0,
          deepenDelay := 0, lightSaving := 0, darkSaving := 0 }
      state := .unmanaged, cls := .absent, load := 0, age := 0, lastStamp := none, lastUsers := 0, sleepCount := 0,
      wakeCount := 0, sleepsTonight := 0, lightMinutes := 0, darkMinutes := 0, lightRun := 0, holdLeft := 0,
      resleepLeft := 0, cause := none, reserved := false, strayStep := none, probeOrigin := none, deepenDeclined := false,
      unorderedNow := false, overflowSeen := false, lastReason := none, lastRefusal := none, dirty := false, edition := 0 }) ∧
  (∀ i : Site, State.reset.lane i = { queue := [], outstanding := none, joinCounter := 0 } ∧
    (State.reset.channel i).up = false ∧ (State.reset.channel i).nextTag = 0#4 ∧
    (State.reset.channel i).liveTag = none ∧ (State.reset.channel i).timeLeft = 0) ∧
  (∀ n : WindowNo,
    (let never : WindowMatch := { mask := 0#7, hour := some 0, minute := some 0 }
     State.reset.window n =
       { entry := { enabled := false, openAt := never, deepStopAt := never, closeAt := never }, phase := .closed })) ∧
  State.reset.timer = { tick := 0, prescaler := 0, downCount := 0, hundred := 0, sweepPending := false } ∧
  State.reset.clock = { seconds := 0, minutes := 0, hours := 0, weekday := 0, day := 0, sub := 0, valid := false } ∧
  State.reset.policy.reload = 1 ∧ State.reset.policy.prescale = 0 ∧ State.reset.policy.failsafeLimit = 1 ∧
  State.reset.policy.freshness = 1 ∧ State.reset.policy.strictData = false ∧ State.reset.policy.settle = 0 ∧
  State.reset.policy.shedAttempts = 1 ∧ State.reset.policy.shedInterval = 1 ∧ State.reset.policy.residual = 0 ∧
  State.reset.policy.wakeAttempts = 1 ∧ State.reset.policy.busyBackoff = 1 ∧
  (∀ command, State.reset.policy.timeouts.of command = 1) ∧
  State.reset.sweepCount = 0 ∧ State.reset.overruns = 0 ∧ State.reset.starvation = 0 ∧ State.reset.failsafe = false ∧
  State.reset.torn = 0 ∧ State.reset.late = 0 ∧ State.reset.memErrors = 0 ∧ State.reset.editionWord = 0 ∧
  State.reset.fleetTally = 0

/-- The reset state meets every invariant of the statements above. -/
def Obligations.ResetMeetsInvariants : Prop :=
  State.reset.Coherent ∧ State.reset.cluster.TagsAgree ∧ State.reset.cluster.StacksFit ∧ State.reset.CountersInRange ∧
    State.reset.PortInArea ∧ State.reset.cluster.ProbesFit

/-- POWER_ON_RESET leaves the reset state; the queue and the model's own two counters go on (log 17). -/
def Obligations.PowerOnResetResult : Prop :=
  ∀ s : State, exec .powerOnReset s =
    .next { State.reset with pending := s.pending, accessSeq := s.accessSeq, choices := s.choices }

/-- An XBASE write is taken in HALTED and HOLDING with a base not above 0xFFFFA, and otherwise refused (section 1.1). A
taken one marks every record dirty; a pass in progress keeps its base and remembers the write, for the marks that its
end sets again (Obligations.WriteBackEnds; the model's choice: log 31). -/
def Obligations.XbaseWriteResult : Prop :=
  ∀ (v : Word) (s : State),
    if (s.runState = .halted ∨ s.runState = .holding) ∧ v.extractLsb' 12 20 ≤ 0xFFFFA#20 then
      ∃ t, exec (.xbaseWrite v) s = .next t ∧ t.readRegister 0x00 = v &&& 0xFFFFF000#32 ∧
        (∀ c : Carrier, t.ctx c = { s.ctx c with dirty := true }) ∧
        t = { s with
          xbase := v.extractLsb' 12 20
          refused := false
          pass := s.pass.map fun p => { p with moved := true }
          cluster := { s.cluster with contexts := t.cluster.contexts } }
    else exec (.xbaseWrite v) s = .next { s with refused := true }

/-- Which command an APB write is (section 1.7), what an ignored write and a code that names no command do, and what a
read of each offset returns: XBASE, the run state, the bits of STAT, the flags of NOTE and the enables of NOTEEN at
their positions, and 0 everywhere else. That an offset that is no multiple of 4 is ignored, and reads 0, is the model's
choice (log 16). -/
def Obligations.PortWrites : Prop :=
  (∀ (offset : Nat) (v : Word) (strobes : BitVec 4), writeIgnored offset strobes = true →
    commandOfWrite offset v strobes = .registerWriteIgnored offset v strobes) ∧
  (∀ v : Word,
    commandOfWrite 0x00 v 0xF#4 = .xbaseWrite v ∧ commandOfWrite 0x0C v 0xF#4 = .noteWrite v ∧
    commandOfWrite 0x10 v 0xF#4 = .noteenWrite v ∧
    commandOfWrite 0x04 v 0xF#4 = commandOfWrite 0x04 (v &&& 7#32) 0xF#4 ∧
    (v &&& 7#32 = 1#32 → commandOfWrite 0x04 v 0xF#4 = .run) ∧
    (v &&& 7#32 = 2#32 → commandOfWrite 0x04 v 0xF#4 = .hold) ∧
    (v &&& 7#32 = 3#32 → commandOfWrite 0x04 v 0xF#4 = .release) ∧
    (v &&& 7#32 = 4#32 → commandOfWrite 0x04 v 0xF#4 = .halt) ∧
    (v &&& 7#32 = 5#32 → commandOfWrite 0x04 v 0xF#4 = .sweepNow) ∧
    (v &&& 7#32 = 0#32 ∨ v &&& 7#32 = 6#32 ∨ v &&& 7#32 = 7#32 →
      commandOfWrite 0x04 v 0xF#4 = .runctlInvalidCode (v.extractLsb' 0 3))) ∧
  (∀ (offset : Nat) (v : Word) (strobes : BitVec 4) (s : State),
    exec (.registerWriteIgnored offset v strobes) s = .next s) ∧
  (∀ (code : BitVec 3) (s : State), exec (.runctlInvalidCode code) s = .next { s with refused := true }) ∧
  [Notice.change, .directive, .fault, .failsafe, .minute, .data].map Notice.bit = [0, 1, 2, 3, 4, 5] ∧
  ∀ s : State,
    (let stat := s.readRegister 0x08
     let note := s.readRegister 0x0C
     let noteen := s.readRegister 0x10
     s.readRegister 0x00 = s.xbase ++ 0#12 ∧
     s.readRegister 0x04 =
       (match s.runState with | .halted => 0#32 | .running => 1#32 | .holding => 2#32 | .releasing => 3#32) ∧
     stat &&& 3#32 = s.readRegister 0x04 ∧ stat.getLsbD 2 = s.clock.valid ∧ stat.getLsbD 3 = s.failsafe ∧
     stat.getLsbD 4 = s.pass.isSome ∧ stat.getLsbD 5 = s.refused ∧
     (∀ n : Notice, note.getLsbD n.bit = n.isIn s.cluster.note ∧ noteen.getLsbD n.bit = s.noteEn.getLsbD n.bit) ∧
     (∀ i : Nat, 6 ≤ i → stat.getLsbD i = false ∧ note.getLsbD i = false ∧ noteen.getLsbD i = false) ∧
     ∀ offset : Nat, offset ∉ [0x00, 0x04, 0x08, 0x0C, 0x10] → s.readRegister offset = 0#32)

/-- A NOTE write clears the flags written 0 and leaves the others; a NOTEEN write replaces all six enables (section
1.7). -/
def Obligations.NoteWrites : Prop :=
  ∀ (v : Word) (s : State),
    (∃ t, exec (.noteWrite v) s = .next t ∧
      (∀ n : Notice, n.isIn t.cluster.note = (n.isIn s.cluster.note && v.getLsbD n.bit)) ∧
      t = { s with cluster := { s.cluster with note := t.cluster.note } }) ∧
    ∃ t, exec (.noteenWrite v) s = .next t ∧ (∀ n : Notice, t.noteEn.getLsbD n.bit = v.getLsbD n.bit) ∧
      t = { s with noteEn := t.noteEn }

/-- R19: the line is asserted exactly when some flag and its enable are both 1. It follows the setting of a flag and the
write of the enables at once. -/
def Obligations.InterruptLineLevel : Prop :=
  ∀ s : State,
    (s.interruptLine = true ↔ ∃ n : Notice, n.isIn s.cluster.note = true ∧ s.noteEn.getLsbD n.bit = true) ∧
    (∀ n : Notice, (s.notify n).interruptLine = true ↔ s.interruptLine = true ∨ s.noteEn.getLsbD n.bit = true) ∧
    (∀ (n : Notice) (m : Notice), m.isIn (s.notify n).cluster.note = (m == n || m.isIn s.cluster.note)) ∧
    (∀ (v : Word) (t : State), exec (.noteenWrite v) s = .next t →
      (t.interruptLine = true ↔ ∃ n : Notice, n.isIn s.cluster.note = true ∧ v.getLsbD n.bit = true)) ∧
    ∀ (v : Word) (t : State), exec (.noteWrite v) s = .next t →
      (t.interruptLine = true ↔
        ∃ n : Notice, n.isIn s.cluster.note = true ∧ v.getLsbD n.bit = true ∧ s.noteEn.getLsbD n.bit = true)

/-! ## Run control -/

/-- The table of run states and RUNCTL commands (section 11.1): which command is taken, and what a taken RUN, HOLD
outside a pass, and SWEEP_NOW leave. A RUN that finds an access outstanding waits with its first read: the model's
choice (log 14). The size of the first read is the model's choice (log 9). That the begin of a sweep is a command of its
own, and no part of RUN or SWEEP_NOW, is the model's choice (log 37). -/
def Obligations.RunctlTable : Prop :=
  ∀ s : State,
    (s.runState = .halted → s.startup = none →
      ∃ t, exec .run s = .next t ∧
        t = { s with
          refused := false
          startup := some { base := s.xbase, rows := [] }
          port := t.port
          accessSeq := t.accessSeq } ∧
        (s.port = none →
          t.port = some
            { number := s.accessSeq, write := false, address := s.xbase ++ 0#12 + 0x40#32, length := 192, data := [],
              purpose := .startupPolicy, waited := 0 }) ∧
        (s.port ≠ none → t.port = s.port)) ∧
    (s.runState = .holding → exec .run s = .next { s with runState := .running, refused := false }) ∧
    ((s.runState = .halted ∧ s.startup ≠ none) ∨ s.runState = .running ∨ s.runState = .releasing →
      exec .run s = .next { s with refused := true }) ∧
    (s.runState = .running → s.pass = none →
      exec .hold s =
        .next { s with runState := .holding, refused := false, timer := { s.timer with sweepPending := false } }) ∧
    (s.runState ≠ .running → exec .hold s = .next { s with refused := true }) ∧
    (s.runState = .halted ∨ s.runState = .releasing → exec .release s = .next { s with refused := true }) ∧
    (¬(s.runState = .holding ∧ s.cluster.QuietForHalt) → exec .halt s = .next { s with refused := true }) ∧
    (s.runState = .running →
      exec .sweepNow s = .next { s with refused := false, timer := { s.timer with sweepPending := true } }) ∧
    (s.runState ≠ .running → exec .sweepNow s = .next { s with refused := true })

/-- A taken HOLD (sections 4.5 and 10.4): HOLDING, sweep-pending cleared, and what it does to the sweep in progress. A
decision pass ends and its write-back begins at the sweep's base; a directive whose execution has begun learns of it;
the other phases, and a pass that is no sweep, go on. -/
def Obligations.HoldCarriesSweep : Prop :=
  ∀ s : State, s.runState = .running →
    (let held : State :=
      { s with runState := .holding, refused := false, timer := { s.timer with sweepPending := false } }
     ∃ t, exec .hold s = .next t ∧ held.LeavesRunning t)

/-- A taken RELEASE in a coherent state (section 11.3): every stack is unwound with reason RELEASE, the run state is
HOLDING where the part is then quiet, else RELEASING, and the sweep in progress learns of it as at a HOLD (section 4.5).
That the stacks are unwound, of which section 5.2 says that run-state changes leave them as they are, is the model's
choice (log 38). -/
def Obligations.ReleaseTurnsAllBack : Prop :=
  ∀ s : State, s.Coherent → s.runState = .running ∨ s.runState = .holding →
    ∃ t u : State, exec .release s = .next t ∧ s.cluster.UnwoundAll u.cluster .release ∧
      u = { s with
        runState := if u.cluster.Quiet then .holding else .releasing
        refused := false
        timer := { s.timer with sweepPending := false }
        cluster :=
          { s.cluster with
            contexts := u.cluster.contexts, coverStacks := u.cluster.coverStacks, lanes := u.cluster.lanes } } ∧
      u.LeavesRunning t

/-- A taken HALT (section 11.4): HALT values of every context with its mirror edition kept, the counts cleared, the join
counters 0, no PROBE record, everything else kept, the retake slot too. A pass whose access is in progress is cut, and
ends with that access (section 4.5): a record or an outcome takes the effect of its access, the mirror edition word
rises and CHANGE is set where a mirror record has been written. That the record in progress at the cut counts as written
when its write succeeds, and that the word does not rise again at a header write, is the model's reading (log 27). A
start-up that waits for the port then issues its first read (log 14). That a pass other than a write-back is cut too,
and ends at once without an access, is the model's choice (log 13). -/
def Obligations.HaltResult : Prop :=
  (∀ s : State, s.runState = .holding → s.cluster.QuietForHalt →
    ∃ t, exec .halt s = .next t ∧
      t = { s with
        runState := .halted
        refused := false
        sweepCount := 0
        overruns := 0
        starvation := 0
        failsafe := false
        torn := 0
        late := 0
        memErrors := 0
        timer := { s.timer with sweepPending := false }
        cluster := { s.cluster with contexts := t.cluster.contexts, lanes := t.cluster.lanes, probes := [] }
        pass := if s.port = none then none else s.pass.map fun p => { p with cut := true } } ∧
      (∀ c : Carrier, t.ctx c = { State.reset.ctx c with edition := (s.ctx c).edition }) ∧
      ∀ i : Site, t.lane i = { queue := [], outstanding := none, joinCounter := 0 }) ∧
  ∀ (s : State) (p : Pass) (a : Access), s.pass = some p → p.cut = true → s.port = some a →
    (let ended (x : State) : State :=
       match s.startup with
       | none => { x with pass := none, port := none }
       | some u =>
         { x with
           pass := none
           port := some
             { number := s.accessSeq, write := false, address := u.base ++ 0#12 + 0x40#32, length := 192, data := [],
               purpose := .startupPolicy, waited := 0 }
           accessSeq := s.accessSeq + 1 }
     let closed (x : State) (wrote : Bool) : State :=
       if wrote = true then
         { x with
           editionWord := (x.editionWord + 1) % 65536
           cluster := { x.cluster with note := Notice.change.raiseIn x.cluster.note } }
       else x
     (∀ (c : Carrier) (e : Nat) (wrote : Bool) (todo : List Slot), p.phase = .writeBack wrote todo →
       a.purpose = .mirrorRecord c e → a.write = true →
       (∃ t u : State, exec (.memoryAccessComplete a.number []) s = .next t ∧ u.ctx c = { s.ctx c with edition := e } ∧
         s.OtherContexts u c ∧ u = { s with cluster := { s.cluster with contexts := u.cluster.contexts } } ∧
         t = ended (closed u true)) ∧
       ∃ t u : State, exec (.memoryAccessError a.number) s = .next t ∧ u.ctx c = { s.ctx c with dirty := true } ∧
         s.OtherContexts u c ∧
         u = { s.failed with cluster := { s.failed.cluster with contexts := u.cluster.contexts } } ∧
         t = ended (closed u wrote)) ∧
     (∀ (o : DirectiveOutcome) (wrote : Bool) (todo : List Slot), p.phase = .writeBack wrote todo →
       s.cluster.outcomes.find? (fun q => q.slot == o.slot) = some o →
       (let left (set : Bool) : State :=
          { s with
            cluster :=
              { s.cluster with
                outcomes := s.cluster.outcomes.filter fun q => q.slot != o.slot
                note := if set = true then Notice.directive.raiseIn s.cluster.note else s.cluster.note } }
        (a.purpose = .outcomeCheck o.slot → a.write = false → a.length = 1 → ∀ b : Byte,
          exec (.memoryAccessComplete a.number [b]) s =
            .next (ended (closed
              (if b = 2#8 then s else left (decide (b = if o.code = .ok then 3#8 else 4#8))) wrote))) ∧
        (a.purpose = .outcomeFields o.slot → a.write = true →
          exec (.memoryAccessComplete a.number []) s = .next (ended (closed s wrote))) ∧
        (a.purpose = .outcomeState o.slot → a.write = true →
          exec (.memoryAccessComplete a.number []) s = .next (ended (closed (left true) wrote))) ∧
        (a.purpose = .outcomeCheck o.slot ∨ a.purpose = .outcomeFields o.slot ∨ a.purpose = .outcomeState o.slot →
          exec (.memoryAccessError a.number) s = .next (ended (closed s.failed wrote))))) ∧
     (∀ (wrote : Bool) (todo : List Slot), p.phase = .writeBack wrote todo → a.purpose = .header → a.write = true →
       (let noted (x : State) : State :=
          if wrote = true then { x with cluster := { x.cluster with note := Notice.change.raiseIn x.cluster.note } }
          else x
        exec (.memoryAccessComplete a.number []) s = .next (ended (noted s)) ∧
          exec (.memoryAccessError a.number) s = .next (ended (noted s.failed)))) ∧
     ((∃ taken visited, p.phase = .gather taken visited) ∨ (∃ d, p.phase = .intake d) →
       (∀ data : List Byte, a.write = true ∨ data.length = a.length →
         exec (.memoryAccessComplete a.number data) s = .next (ended s)) ∧
       exec (.memoryAccessError a.number) s =
         .next (ended { s.failed with retake := a.purpose.takenSlot.or s.retake })))

/-! ## Shared-memory accesses -/

/-- A failed access, by error response or by timeout alike, is counted and sets FAULT, and its operation ends as section
1.3 says: a slot-state read ends the intake; a failure after TAKEN was to be written ends it too and makes the slot the
retake slot (section 1.5); a start-up read stops start-up. Answers that are not the outstanding access's own change
nothing. That the later of two such slots is the retake slot is the model's reading (log 21), and so is that a read's
answer with missing data is no completion (log 10). So are the numbers of the accesses (log 8), and that a timeout may
be sent at any moment (log 4). -/
def Obligations.AccessEnds : Prop :=
  ∀ s : State,
    (∀ a : Access, s.port = some a →
      (∃ t, exec (.memoryAccessError a.number) s = .next t ∧ exec .memoryAccessTimeout s = .next t ∧
        t.memErrors = min 65535 (s.memErrors + 1) ∧ Notice.fault.isIn t.cluster.note = true ∧
        t.clock = s.clock ∧ t.timer = s.timer ∧ t.xbase = s.xbase ∧ t.policy = s.policy ∧ t.windows = s.windows) ∧
      (∀ n : Nat, n ≠ a.number →
        exec (.memoryAccessError n) s = .next s ∧ ∀ data, exec (.memoryAccessComplete n data) s = .next s) ∧
      (∀ data : List Byte, a.write = false → data.length ≠ a.length →
        exec (.memoryAccessComplete a.number data) s = .next s) ∧
      (∀ (p : Pass) (n : Slot), p.cut = false → s.pass = some p → (∃ d, p.phase = .intake d) →
        (a.purpose = .slotState n →
          ∃ t, exec (.memoryAccessError a.number) s = .next t ∧ s.failed.BeginsWriteBack t p) ∧
        (a.purpose = .slotTaken n ∨ a.purpose = .slotFields n ∨ a.purpose = .directivePolicy n ∨
            (∃ q, a.purpose = .directiveWindows n q) ∨ (∃ c, a.purpose = .directiveRow n c) →
          ∃ t, exec (.memoryAccessError a.number) s = .next t ∧
            ({ s.failed with retake := some n }).BeginsWriteBack t p)) ∧
      (s.pass = none → s.startup ≠ none →
        exec (.memoryAccessError a.number) s = .next { s.failed with port := none, startup := none })) ∧
    (s.port = none →
      exec .memoryAccessTimeout s = .next s ∧
        ∀ n : Nat, exec (.memoryAccessError n) s = .next s ∧ ∀ data, exec (.memoryAccessComplete n data) s = .next s)

/-- The directive board (section 1.5). At slot n: one that a PROBE holds is passed over; a POSTED slot gets TAKEN
written and loses a queued outcome; the retake slot that reads TAKEN has its fields read; any other is passed over. A
failed TAKEN write makes the slot the retake slot, in place of any other (log 21: the model's reading), and ends the
intake. When the fields have come the directive waits to be executed, but LOAD_POLICY first reads the policy block and
the window table (section 10.2). The size of each access is the model's choice (log 9), that a directive waits is too
(log 3), and so is the moment at which a queued outcome leaves (log 22). That a window table or carrier row that has
been read is held by the directive, and applied by its next command, is the model's reading (log 12). -/
def Obligations.IntakeSlots : Prop :=
  ∀ (s : State) (p : Pass) (a : Access) (n : Slot),
    (let idle : State := { s with port := none }
     let quiet : State :=
       { s with cluster := { s.cluster with outcomes := s.cluster.outcomes.filter fun o => o.slot != n } }
     let held : Prop := ∃ r ∈ s.cluster.probes, r.slot = n
     (p.phase = .intake none → s.Awaiting p a (.slotState n) → a.write = false → a.length = 1 →
       (held → ∀ b : Byte, ∃ t, exec (.memoryAccessComplete a.number [b]) s = .next t ∧ idle.NextSlot t p n) ∧
       (¬held →
         exec (.memoryAccessComplete a.number [1#8]) s =
           .next (quiet.issued p p.phase true (0x0200 + 32 * n.val) 1 [2#8] (.slotTaken n)) ∧
         (s.retake = some n → exec (.memoryAccessComplete a.number [2#8]) s =
           .next (quiet.issued p p.phase false (0x0200 + 32 * n.val + 1) 15 [] (.slotFields n))) ∧
         ∀ b : Byte, b ≠ 1#8 → (b ≠ 2#8 ∨ s.retake ≠ some n) →
           ∃ t, exec (.memoryAccessComplete a.number [b]) s = .next t ∧
             ({ idle with retake := if s.retake = some n then none else s.retake }).NextSlot t p n)) ∧
     (p.phase = .intake none → s.Awaiting p a (.slotTaken n) → a.write = true →
       exec (.memoryAccessComplete a.number []) s =
         .next (quiet.issued p p.phase false (0x0200 + 32 * n.val + 1) 15 [] (.slotFields n)) ∧
       ∃ t, exec (.memoryAccessError a.number) s = .next t ∧
         ({ s.failed with retake := some n }).BeginsWriteBack t p) ∧
     (p.phase = .intake none → s.Awaiting p a (.slotFields n) → a.write = false → a.length = 15 →
       ∀ data : List Byte, data.length = 15 →
         ((parseSlot n data).kind ≠ some .loadPolicy →
           exec (.memoryAccessComplete a.number data) s = .next (idle.goingOn p (parseSlot n data))) ∧
         ((parseSlot n data).kind = some .loadPolicy →
           exec (.memoryAccessComplete a.number data) s =
             .next (s.issued p (.intake (some (parseSlot n data))) false 0x0040 192 [] (.directivePolicy n)))) ∧
     ∀ (d : DirectiveRun) (data : List Byte), p.phase = .intake (some d) → a.write = false → data.length = a.length →
       (s.Awaiting p a (.directivePolicy n) →
         exec (.memoryAccessComplete a.number data) s =
           .next (s.issued p p.phase false 0x0100 128 [] (.directiveWindows n (parsePolicy data)))) ∧
       (∀ q : Policy, s.Awaiting p a (.directiveWindows n q) →
         exec (.memoryAccessComplete a.number data) s =
           .next (idle.goingOn p { d with policy := some (q, parseWindows data) })) ∧
       ∀ c : Carrier, s.Awaiting p a (.directiveRow n c) →
         exec (.memoryAccessComplete a.number data) s = .next (idle.goingOn p { d with row := some (parseRow c data) }))

/-- The three reads of carrier c's observation slot (sections 1.4, 3.1, 3.2): the first stamp, the body and the second
stamp, which decides the slot: torn and not-new slots raise the age, a taken observation sets stamp and age, and is
applied in SERVING; class ageing follows. Then the first stamp of the next present carrier d is read. The dirty mark
follows the model's reading of a change (log 15); the size of each read is its choice (log 9), and so is that the age of
a not-new slot rises and shows in the mirror, of which the table of section 1.4 says no change (log 39). -/
def Obligations.SlotDecided : Prop :=
  ∀ (s : State) (p : Pass) (a : Access) (c : Carrier) (tk visited : Bool) (stamp b : Byte),
    p.phase = .gather tk visited → a.write = false →
    (s.Awaiting p a (.firstStamp c) → a.length = 1 → exec (.memoryAccessComplete a.number [b]) s =
      .next (s.issued p p.phase false (0x2800 + 16 * c.val + 4) 4 [] (.body c b))) ∧
    (∀ data : List Byte, s.Awaiting p a (.body c stamp) → a.length = 4 → data.length = 4 →
      exec (.memoryAccessComplete a.number data) s =
        .next (s.issued p p.phase false (0x2800 + 16 * c.val) 1 []
          (.secondStamp c stamp (byteAt data 0 + 256 * byteAt data 1) (byteAt data 2 + 256 * byteAt data 3)))) ∧
    ∀ (used users : Nat) (d : Carrier), s.Awaiting p a (.secondStamp c stamp used users) → a.length = 1 →
      c < d → (s.ctx d).cfg.present = true → (∀ e : Carrier, c < e → e < d → (s.ctx e).cfg.present = false) →
      ∃ t u : State, exec (.memoryAccessComplete a.number [b]) s = .next t ∧ s.SlotVisited u c stamp b used users ∧
        t = u.issued p (.gather (tk || decide (stamp = b ∧ (s.ctx c).lastStamp ≠ some stamp)) true) false
          (0x2800 + 16 * d.val) 1 [] (.firstStamp d)

/-! ## Load arithmetic -/

/-- R47. The step of the smoothing, its rounding, and that L never passes its target nor leaves 0..16000. -/
def Obligations.SmoothingStep : Prop :=
  ∀ k load target : Nat, k ≤ 7 → load ≤ 16000 → target ≤ 16000 →
    (let m := if load ≤ target then target - load else load - target
     let step := if k = 0 then m else (m + 2 ^ (k - 1)) / 2 ^ k
     smooth k load target = (if load ≤ target then load + step else load - step) ∧
     step ≤ m ∧ (1 ≤ k → (step = 0 ↔ m < 2 ^ (k - 1))) ∧
     (1 ≤ k → 2 ^ k * step ≤ m + 2 ^ (k - 1) ∧ m + 2 ^ (k - 1) < 2 ^ k * (step + 1)) ∧
     min load target ≤ smooth k load target ∧ smooth k load target ≤ max load target ∧ smooth k load target ≤ 16000)

/-- L settles within the rest band around a steady target (section 3.3): from some step on it lies within 2^(k−1) − 1
counts of the target (0 counts for k = 0) and no longer moves. -/
def Obligations.SmoothingRests : Prop :=
  ∀ k load target : Nat, k ≤ 7 → load ≤ 16000 → target ≤ 16000 →
    ∃ rest : Nat, (∃ n, ∀ j, n ≤ j → Nat.repeat (fun x => smooth k x target) j load = rest) ∧
      (k = 0 → rest = target) ∧
      (1 ≤ k → rest ≤ target + (2 ^ (k - 1) - 1) ∧ target ≤ rest + (2 ^ (k - 1) - 1))

/-- The instantaneous utilisation is rounded to the nearest per-mille, an exact half up, and a sample above capacity is
clipped at 1000 (section 3.2). It reaches 1000 at u = C, but below C too: the words "exactly when u = C" of section 3.2
do not agree with its formula, as C = 4000 and u = 3999 show (log 30). -/
def Obligations.UtilisationRounds : Prop :=
  (∀ u capacity : Nat, 10 ≤ capacity → capacity ≤ 4000 →
    (u ≤ capacity →
      (utilisation u capacity).2 = false ∧ (utilisation u capacity).1 ≤ 1000 ∧
      2 * capacity * (utilisation u capacity).1 ≤ 2000 * u + capacity ∧
      2000 * u + capacity < 2 * capacity * ((utilisation u capacity).1 + 1)) ∧
    (u = capacity → (utilisation u capacity).1 = 1000) ∧
    (capacity < u → utilisation u capacity = (1000, true))) ∧
  utilisation 3999 4000 = (1000, false)

/-- Section 3.6. The absorbed load is the least whole number of the cover's counts that holds the candidate's load,
saturated. The projection sums the cover's load, the recorded A of its RESERVED and SETTLING entries and the candidate's
A, saturated; saturating each addition gives the same. -/
def Obligations.AbsorbedLoadAndProjection : Prop :=
  (∀ cand cover : Context, cand.load ≤ 16000 → cand.cfg.capacity ≤ 4000 → 10 ≤ cover.cfg.capacity →
    (let a := absorbedLoad cand cover
     let moved := cand.load * cand.cfg.capacity
     a ≤ 65535 ∧
     (moved ≤ 65535 * cover.cfg.capacity →
       moved ≤ a * cover.cfg.capacity ∧ ∀ n : Nat, moved ≤ n * cover.cfg.capacity → a ≤ n) ∧
     (65535 * cover.cfg.capacity < moved → a = 65535) ∧
     (cand.load = 0 → a = 0))) ∧
  ∀ (cover : Context) (es : List Entry) (a : Nat),
    (let counted := es.filter fun e => e.phase == .reserved || e.phase == .settling
     projection cover es a = min 65535 (cover.load + (counted.map Entry.absorbed).sum + a) ∧
     projection cover es a =
       min 65535 (counted.foldl (fun acc e => min 65535 (acc + e.absorbed)) (min 65535 cover.load) + a) ∧
     ∀ e : Entry, e.phase = .settled ∨ e.phase = .returning → projection cover (es ++ [e]) a = projection cover es a)

/-! ## Records and write-back -/

/-- The mirror record of a carrier and the header, byte by byte, and the codes of section 12.6 in their order (sections
12.2 and 12.6). -/
def Obligations.RecordLayouts : Prop :=
  ([CarrierState.unmanaged, .unknown, .stray, .serving, .draining, .lowering, .light, .deepening, .dark, .warming, .raising,
      .faulted].map CarrierState.code = List.range 12 ∧
   [LoadClass.absent, .fresh, .clipped, .aged].map LoadClass.code = List.range 4 ∧
   [none, some .dwell, some .directed, some .abandon, some .abandonBusy, some .abandonUsers, some .deepStop, some .coverLoad,
      some .coverLost, some .windowClose, some .operator, some .failsafe, some .release].map reasonCode = List.range 13 ∧
   [none, some .window, some .failsafe, some .resleep, some .budget, some .noCover, some .users, some .load,
      some .unordered, some .dwellPending, some .coverIneligible, some .ceiling, some .stackFull].map refusalCode =
     List.range 13 ∧
   [none, some .timeout, some .refused, some .radio, some .link, some .probe].map causeCode = List.range 6 ∧
   [none, some .warm, some .raise].map strayCode = List.range 3 ∧
   [Depth.none, .light, .dark].map Depth.code = List.range 3) ∧
  (∀ (w : Cluster) (c : Carrier) (edition : Nat), (w.stack c).length ≤ 8 →
    (let r := mirrorRecord w c edition
     let x := w.ctx c
     let flags := le16 r 0x10
     r.length = 32 ∧
     byteAt r 0x00 = edition % 256 ∧ byteAt r 0x01 = x.state.code ∧ byteAt r 0x02 = x.cls.code ∧
     byteAt r 0x03 = (w.stack c).length ∧ le16 r 0x04 = x.load % 65536 ∧
     le16 r 0x06 = (match x.cfg.cover with | some k => k.val | none => 0xFFFF) ∧
     (∀ q : Nat, q < (w.stack c).length → ∀ e ∈ (w.stack c)[q]?, byteAt r (0x08 + q) = e.carrier.val) ∧
     (∀ q : Nat, (w.stack c).length ≤ q → q < 8 → byteAt r (0x08 + q) = 0) ∧
     flags.testBit 0 = x.reserved ∧ flags.testBit 1 = x.deepenDeclined ∧ flags.testBit 2 = x.unorderedNow ∧
     flags.testBit 3 = x.overflowSeen ∧ flags / 16 % 4 = strayCode x.strayStep ∧
     flags.testBit 6 = decide (x.holdLeft ≠ 0) ∧
     flags / 128 = (match w.entryOf c with | some e => e.depth.code | none => 0) ∧
     byteAt r 0x12 = x.sleepsTonight % 256 ∧ byteAt r 0x13 = reasonCode x.lastReason ∧
     byteAt r 0x14 = refusalCode x.lastRefusal ∧ byteAt r 0x15 = causeCode x.cause ∧
     le16 r 0x16 = x.lightMinutes % 65536 ∧ le16 r 0x18 = x.darkMinutes % 65536 ∧ byteAt r 0x1A = x.holdLeft % 256 ∧
     byteAt r 0x1B = x.resleepLeft % 256 ∧ byteAt r 0x1C = x.age % 256 ∧
     byteAt r 0x1D = 0 ∧ byteAt r 0x1E = 0 ∧ byteAt r 0x1F = 0)) ∧
  ∀ s : State,
    (let r := headerBytes s
     r.length = 64 ∧
     byteAt r 0x00 = 0x01 ∧ byteAt r 0x01 = 0x0C ∧ byteAt r 0x02 = 0 ∧ byteAt r 0x03 = 0 ∧
     byteAt r 0x04 = (match s.runState with | .halted => 0 | .running => 1 | .holding => 2 | .releasing => 3) ∧
     byteAt r 0x05 = s.failsafe.toNat ∧ byteAt r 0x06 = s.starvation % 256 ∧ byteAt r 0x07 = s.clock.valid.toNat ∧
     le16 r 0x08 + 65536 * le16 r 0x0A = s.sweepCount % 4294967296 ∧ le16 r 0x0C = s.editionWord % 65536 ∧
     le16 r 0x0E = 0 ∧ le16 r 0x10 + 65536 * le16 r 0x12 = s.fleetTally % 4294967296 ∧ le16 r 0x14 = s.torn % 65536 ∧
     le16 r 0x16 = s.late % 65536 ∧ le16 r 0x18 = s.overruns % 65536 ∧ le16 r 0x1A = s.memErrors % 65536 ∧
     byteAt r 0x1C = s.clock.seconds % 256 ∧ byteAt r 0x1D = s.clock.minutes % 256 ∧ byteAt r 0x1E = s.clock.hours % 256 ∧
     byteAt r 0x1F = s.clock.weekday % 256 ∧ le16 r 0x20 = s.clock.day % 65536 ∧
     ∀ q : Nat, 0x22 ≤ q → byteAt r q = 0)

/-- The end of a mirror record's write (section 1.6): on success the carrier's edition takes the value written, on
failure it is kept and the dirty mark set again; then the record of the next dirty carrier is issued, with an edition
one above that carrier's; after the last one the queued outcomes follow, and then the header, before which the mirror
edition word rises by 1 exactly when a mirror record has been written. The end of the header's write ends the pass, and
CHANGE is set exactly when a mirror record has been written. A pass that an XBASE write has found in progress goes on at
its own base, and its end sets every dirty mark, so that the next write-back fills the whole mirror in the new area
(section 1.1): that its records use up marks, and that these are set again at that moment, is the model's choice (log
31), and so is that a carrier which turns dirty behind the scan waits for the next write-back (log 35). -/
def Obligations.WriteBackEnds : Prop :=
  (∀ (s : State) (p : Pass) (a : Access) (c : Carrier) (e : Nat) (wrote : Bool) (todo : List Slot),
    p.phase = .writeBack wrote todo → s.Awaiting p a (.mirrorRecord c e) → a.write = true →
    (∃ t u : State, exec (.memoryAccessComplete a.number []) s = .next t ∧ u.ctx c = { s.ctx c with edition := e } ∧
      s.OtherContexts u c ∧ u = { s with cluster := { s.cluster with contexts := u.cluster.contexts } } ∧
      u.WritesRecords t p true (c.val + 1)) ∧
    ∃ t u : State, exec (.memoryAccessError a.number) s = .next t ∧ u.ctx c = { s.ctx c with dirty := true } ∧
      s.OtherContexts u c ∧ u = { s.failed with cluster := { s.failed.cluster with contexts := u.cluster.contexts } } ∧
      u.WritesRecords t p wrote (c.val + 1)) ∧
  ∀ (s : State) (p : Pass) (a : Access) (wrote : Bool) (todo : List Slot),
    p.phase = .writeBack wrote todo → s.Awaiting p a .header → a.write = true → s.startup = none →
    (let ends (command : Instr) (x : State) : Prop :=
       ∃ t, exec command s = .next t ∧
         (∀ c : Carrier, t.ctx c = { s.ctx c with dirty := (s.ctx c).dirty || p.moved }) ∧
         t = { x with
           pass := none
           port := none
           cluster :=
             { x.cluster with
               contexts := t.cluster.contexts
               note := if wrote = true then Notice.change.raiseIn x.cluster.note else x.cluster.note } }
     ends (.memoryAccessComplete a.number []) s ∧ ends (.memoryAccessError a.number) s.failed)

/-- The check of an outcome (section 1.5): the slot's state read back decides whether the outcome is written, is found
written, or is dropped; a final state written removes it and sets DIRECTIVE; a failure leaves it. After each of these
ends the next outcome follows, or the header (sections 1.6 and 12.4). The size of each access is the model's choice (log
9). -/
def Obligations.OutcomeHandled : Prop :=
  (∀ o : DirectiveOutcome,
    (let b := outcomeBytes o
     b.length = 5 ∧ le16 b 0 = o.affected % 65536 ∧ le16 b 2 = o.skipped % 65536 ∧
     byteAt b 4 = (match o.code with | .ok => 0 | .rejKind => 1 | .rejParam => 2 | .rejRun => 3))) ∧
  ∀ (s : State) (p : Pass) (a : Access) (o : DirectiveOutcome) (wrote : Bool) (todo : List Slot),
    p.phase = .writeBack wrote todo → s.cluster.outcomes.find? (fun q => q.slot == o.slot) = some o →
    (let final : Byte := if o.code = .ok then 3#8 else 4#8
     let left (set : Bool) : State :=
       { s with
         cluster :=
           { s.cluster with
             outcomes := s.cluster.outcomes.filter fun q => q.slot != o.slot
             note := if set = true then Notice.directive.raiseIn s.cluster.note else s.cluster.note } }
     let fails : Prop :=
       ∃ t, exec (.memoryAccessError a.number) s = .next t ∧ s.failed.GoesOnWith t p wrote todo.tail
     (s.Awaiting p a (.outcomeCheck o.slot) → a.write = false → a.length = 1 →
       exec (.memoryAccessComplete a.number [2#8]) s =
         .next (s.issued p p.phase true (0x0200 + 32 * o.slot.val + 0x10) 5 (outcomeBytes o) (.outcomeFields o.slot)) ∧
       (∀ b : Byte, b ≠ 2#8 → ∃ t, exec (.memoryAccessComplete a.number [b]) s = .next t ∧
         (left (decide (b = final))).GoesOnWith t p wrote todo.tail) ∧ fails) ∧
     (s.Awaiting p a (.outcomeFields o.slot) → a.write = true →
       exec (.memoryAccessComplete a.number []) s =
         .next (s.issued p p.phase true (0x0200 + 32 * o.slot.val) 1 [final] (.outcomeState o.slot)) ∧ fails) ∧
     (s.Awaiting p a (.outcomeState o.slot) → a.write = true →
       (∃ t, exec (.memoryAccessComplete a.number []) s = .next t ∧ (left true).GoesOnWith t p wrote todo.tail) ∧ fails))

/-! ## Start-up and configuration -/

/-- Start-up (section 11.2): the policy block, the window table and the rows are read in turn; the completed window
table has policy and windows applied as one event; the last row's event configures every context, queues the QUERY
wants, sets the timer up and enters RUNNING. That each read is one access is the model's choice (log 9), and that the
policy applied does not reload the timer, which the last event sets up, is its reading (log 25). The sweep that is then
pending begins by a command of its own (log 37). -/
def Obligations.StartupConfigures : Prop :=
  ∀ (s : State) (u : Startup) (a : Access) (data : List Byte),
    s.pass = none → s.startup = some u → s.port = some a → a.write = false → data.length = a.length →
    (let reads (x : State) (offset length : Nat) (purpose : Purpose) : State :=
       { x with
         port := some
           { number := s.accessSeq, write := false, address := u.base ++ 0#12 + BitVec.ofNat 32 offset, length, data := [],
             purpose, waited := 0 }
         accessSeq := s.accessSeq + 1 }
     (a.purpose = .startupPolicy → exec (.memoryAccessComplete a.number data) s =
       .next (reads s 0x0100 128 (.startupWindows (parsePolicy data)))) ∧
     (∀ q : Policy, a.purpose = .startupWindows q → (∀ k : Carrier, s.stack k = []) →
       ∃ v : State, exec (.memoryAccessComplete a.number data) s = .next (reads v 0x0800 32 (.startupRow 0)) ∧
         (∀ n : WindowNo, v.window n =
           { entry := (parseWindows data)[n]
             phase :=
               if (s.window n).entry.enabled = true ∧ (parseWindows data)[n].enabled = true then (s.window n).phase
               else .closed }) ∧
         v = { s with policy := q, windows := v.windows }) ∧
     (∀ c d : Carrier, a.purpose = .startupRow c → c.val + 1 = d.val →
       exec (.memoryAccessComplete a.number data) s =
         .next (reads { s with startup := some { u with rows := parseRow c data :: u.rows } } (0x0800 + 32 * d.val) 32
           (.startupRow d))) ∧
     (a.purpose = .startupRow 255 → u.rows.length = 255 →
       (∀ i : Site, (s.lane i).outstanding = none ∧ (s.lane i).queue = []) →
       ∃ t, exec (.memoryAccessComplete a.number data) s = .next t ∧
         t = { s with
           runState := .running
           startup := none
           port := none
           timer := { tick := 0, prescaler := 0, hundred := 0, downCount := s.policy.reload, sweepPending := true }
           cluster := { s.cluster with contexts := t.cluster.contexts, lanes := t.cluster.lanes } } ∧
         (∀ i : Site, (t.lane i).outstanding = none) ∧
         ∀ (c : Carrier) (row : CarrierRow), (parseRow 255 data :: u.rows).reverse[c.val]? = some row →
           (row.present = true ∧ row.capacityOk = true →
             t.ctx c = { State.reset.ctx c with
               cfg := row.cfg, state := .unknown, dirty := true, edition := (s.ctx c).edition } ∧
             ∃ x, t.cluster.wantOf c = some x ∧ x.command = .query ∧ x.wait = 0 ∧ x.attempt = 1) ∧
           (¬(row.present = true ∧ row.capacityOk = true) →
             t.ctx c = { State.reset.ctx c with dirty := true, edition := (s.ctx c).edition } ∧
             t.cluster.wantOf c = none)))

/-- How the fields of a carrier table row, of the policy block, of a window entry and of a directive slot are held, and
which carriers a slot selects (sections 2.1, 3.1, 4.1, 5.4, 8.1, 9.3, 10.1, 12.3, 12.4 and 12.5). -/
def Obligations.FieldsHeld : Prop :=
  (∀ (c : Carrier) (b : List Byte),
    (let r := parseRow c b
     (r.present = true ↔ byteAt b 0x00 ≠ 0) ∧ r.cfg.present = r.present ∧
     (r.capacityOk = true ↔ 10 ≤ le16 b 0x04 ∧ le16 b 0x04 ≤ 4000) ∧ r.cfg.capacity = le16 b 0x04 ∧
     (∀ n : WindowNo, r.cfg.window = some n ↔ byteAt b 0x01 = n.val) ∧
     (∀ k : Carrier, r.cfg.cover = some k ↔ le16 b 0x02 = k.val ∧ k ≠ c) ∧
     r.cfg.sleepLimit = min 1000 (le16 b 0x06) ∧ r.cfg.wakeLimit = min 1000 (le16 b 0x08) ∧
     r.cfg.absorbLimit = min 1000 (le16 b 0x0A) ∧ r.cfg.shift = min 7 (byteAt b 0x0C) ∧
     r.cfg.sleepDwell = (if byteAt b 0x0D = 0 then 1 else byteAt b 0x0D) ∧
     r.cfg.wakeDwell = (if byteAt b 0x0E = 0 then 1 else byteAt b 0x0E) ∧ r.cfg.userCeiling = byteAt b 0x0F ∧
     r.cfg.budget = min 15 (byteAt b 0x10) ∧ r.cfg.resleepHold = byteAt b 0x11 ∧ r.cfg.deepenDelay = byteAt b 0x12 ∧
     r.cfg.lightSaving = min 4095 (le16 b 0x14) ∧ r.cfg.darkSaving = min 4095 (le16 b 0x16))) ∧
  (∀ b : List Byte,
    (let q := parsePolicy b
     let atLeastOne (v : Nat) : Nat := if v = 0 then 1 else v
     q.reload = atLeastOne (byteAt b 0x00) ∧ q.prescale = min 7 (byteAt b 0x01) ∧
     q.freshness = min 15 (atLeastOne (byteAt b 0x02)) ∧ q.failsafeLimit = atLeastOne (byteAt b 0x03) ∧
     q.settle = min 15 (byteAt b 0x04) ∧ (q.strictData = true ↔ byteAt b 0x05 ≠ 0) ∧
     q.shedAttempts = min 15 (atLeastOne (byteAt b 0x06)) ∧ q.shedInterval = atLeastOne (byteAt b 0x07) ∧
     q.residual = byteAt b 0x08 ∧ q.wakeAttempts = min 8 (atLeastOne (byteAt b 0x09)) ∧
     q.busyBackoff = atLeastOne (byteAt b 0x0A) ∧
     q.timeouts.of .gate = atLeastOne (byteAt b 0x0C) ∧ q.timeouts.of .shed = atLeastOne (byteAt b 0x0D) ∧
     q.timeouts.of .lower = atLeastOne (byteAt b 0x0E) ∧ q.timeouts.of .darken = atLeastOne (byteAt b 0x0F) ∧
     q.timeouts.of .warm = atLeastOne (byteAt b 0x10) ∧ q.timeouts.of .raise = atLeastOne (byteAt b 0x11) ∧
     q.timeouts.of .reopen = atLeastOne (byteAt b 0x12) ∧ q.timeouts.of .query = atLeastOne (byteAt b 0x13))) ∧
  (∀ (b : List Byte) (n : WindowNo),
    (let e := (parseWindows b)[n]
     let field (top v : Nat) : Option Nat := if v = 0xFF then none else some (min top v)
     let held (m : WindowMatch) (i : Nat) : Prop :=
       (∀ d : Nat, d < 7 → m.mask.getLsbD d = (byteAt b i).testBit d) ∧ m.hour = field 23 (byteAt b (i + 1)) ∧
         m.minute = field 59 (byteAt b (i + 2))
     (e.enabled = true ↔ byteAt b (16 * n.val) ≠ 0) ∧ held e.openAt (16 * n.val + 4) ∧
     held e.deepStopAt (16 * n.val + 8) ∧ held e.closeAt (16 * n.val + 12))) ∧
  ∀ (n : Slot) (b : List Byte),
    (let d := parseSlot n b
     d.slot = n ∧
     d.kind =
       (match byteAt b 0 with
        | 1 => some .loadPolicy | 2 => some .loadCarriers | 3 => some .setClock | 4 => some .holdOn
        | 5 => some .releaseHold | 6 => some .sleepNow | 7 => some .probe | 8 => some .clearTally | _ => none) ∧
     (∀ i : Nat, d.base.getLsbD i = (byteAt b 1).testBit i ∧ d.mask.getLsbD i = (byteAt b 2).testBit i) ∧
     (∀ i : Nat, i < 16 → d.stateMask.getLsbD i = (byteAt b 3 + 256 * byteAt b 4).testBit i) ∧
     (∀ i : Nat, d.param i = byteAt b (5 + i)) ∧
     (∀ (c : Carrier) (st : CarrierState), d.selects c st = true ↔
       (∀ i : Nat, i < 8 → (byteAt b 2).testBit i = false → c.val.testBit i = (byteAt b 1).testBit i) ∧
         (byteAt b 3 + 256 * byteAt b 4).testBit st.code = true) ∧
     d.position = 0 ∧ d.begun = false ∧ d.stopped = false ∧ d.affected = 0 ∧ d.skipped = 0 ∧ d.policy = none ∧
     d.row = none)

/-! ## The sweep -/

/-- A sweep begins exactly when it is pending, no pass is in progress and the run state is RUNNING (section 4.3):
pending clears, the sweep count rises, the base is XBASE, and the first present carrier c's stamp is read. That a begin
sent while the conditions do not hold does nothing is the model's choice (log 3), and so is that the begin is a command
of its own, before which another command may be taken (log 37). -/
def Obligations.SweepBegins : Prop :=
  ∀ s : State,
    (∀ c : Carrier, s.timer.sweepPending = true → s.pass = none → s.runState = .running →
      (s.ctx c).cfg.present = true → (∀ d : Carrier, d < c → (s.ctx d).cfg.present = false) →
      exec .sweepBegin s =
        .next (({ s with
            timer := { s.timer with sweepPending := false }
            sweepCount := (s.sweepCount + 1) % 4294967296 }).issued
          { sweep := true, base := s.xbase, leftRunning := false, cut := false, phase := .gather false true }
          (.gather false true) false (0x2800 + 16 * c.val) 1 [] (.firstStamp c))) ∧
    (¬(s.timer.sweepPending = true ∧ s.pass = none ∧ s.runState = .running) → exec .sweepBegin s = .next s)

/-- An expiry by run state and sweep-pending (sections 4.2, 4.5); a write-back-only pass begins at XBASE, with the first
dirty carrier's record, else the queued outcomes, else the header. And how the counters come there: with nothing due,
one cycle of the reference passes over the outstanding access (section 1.3), then the clock's sub-second divider
(section 9.1), then the tick divider, the prescaler, the down-count (section 4.1) and the 100 ms divider (section 7.2).
That an expiry may be sent at any moment is the model's choice (log 4), and so are what a step does on an empty queue
(log 2), the order within a cycle (log 24) and that the begin of the sweep is a command of its own (log 37). -/
def Obligations.ExpiryTable : Prop :=
  (∀ s : State, s.pending = [] → s.NothingDue →
    ∃ s1 s2 t : State, step s = .next t ∧ s.AccessCycled s1 ∧ s1.ClockCycled s2 ∧ s2.TimerCycled t) ∧
  ∀ s : State,
    (let reloaded : Timer := { s.timer with downCount := s.policy.reload }
     (s.runState = .halted → exec .sweepTimerExpiry s = .next s) ∧
     (s.runState = .running → s.timer.sweepPending = false →
       exec .sweepTimerExpiry s = .next { s with timer := { reloaded with sweepPending := true } }) ∧
     ((s.runState = .running ∧ s.timer.sweepPending = true) ∨
         ((s.runState = .holding ∨ s.runState = .releasing) ∧ s.pass ≠ none) →
       exec .sweepTimerExpiry s = .next { s with timer := reloaded, overruns := min 65535 (s.overruns + 1) }) ∧
     ((s.runState = .holding ∨ s.runState = .releasing) → s.pass = none →
       ∃ t, exec .sweepTimerExpiry s = .next t ∧
         ({ s with timer := reloaded }).BeginsWriteBack t
           { sweep := false, base := s.xbase, leftRunning := false, cut := false, phase := .writeBack false [] }))

/-- The end of a gather (sections 4.3, 4.4 and 1.3), at the third read of its last present carrier, at a failed read,
and at a sweep that finds no carrier present: an observation taken sets the starvation count to 0 and ends failsafe; a
whole gather that took none raises the count, and at the failsafe limit failsafe is entered, its notice set and every
stack unwound with reason FAILSAFE; a gather cut by a failed read, or without a present carrier, leaves the count. The
directive board is read next, or write-back begins after a failed read or when the run state has left RUNNING (section
4.5). That a begin sent while no sweep may begin does nothing is the model's choice (log 3). That the entry into
failsafe also tests for the end of RELEASING is the model's reading (log 26). That the age of a not-new slot rises and
shows in the mirror is the model's choice (log 39). -/
def Obligations.StarvedGatherEntersFailsafe : Prop :=
  (∀ (s : State) (p : Pass) (a : Access) (c : Carrier) (taken visited : Bool) (stamp b : Byte) (used users : Nat),
    p.phase = .gather taken visited → s.Awaiting p a (.secondStamp c stamp used users) → a.write = false →
    a.length = 1 → (∀ d : Carrier, c < d → (s.ctx d).cfg.present = false) →
    ∃ t u : State, exec (.memoryAccessComplete a.number [b]) s = .next t ∧ s.SlotVisited u c stamp b used users ∧
      u.GatherEnds t p (taken || decide (stamp = b ∧ (s.ctx c).lastStamp ≠ some stamp)) visited false) ∧
  (∀ (s : State) (p : Pass) (a : Access) (taken visited : Bool), p.phase = .gather taken visited → p.cut = false →
    s.pass = some p → s.port = some a →
    ∃ t, exec (.memoryAccessError a.number) s = .next t ∧ s.failed.GatherEnds t p taken visited true) ∧
  ∀ s : State, s.timer.sweepPending = true → s.pass = none → s.runState = .running →
    (∀ c : Carrier, (s.ctx c).cfg.present = false) →
    ∃ t, exec .sweepBegin s = .next t ∧
      ({ s with
          timer := { s.timer with sweepPending := false }
          sweepCount := (s.sweepCount + 1) % 4294967296 }).GatherEnds t
        { sweep := true, base := s.xbase, leftRunning := false, cut := false, phase := .gather false false }
        false false false

/-! ## The decision pass and the cover stacks -/

/-- A candidate that meets every condition of the sleep test is reserved: by a decision visit with reason DWELL, by
SLEEP_NOW with reason DIRECTED and deepen at once for depth DARK (sections 5.3, 6.3, 6.4, 6.6, 10.4); then the pass or
the directive goes on, past carrier 255 too. After a HOLD or RELEASE taken since its execution began, a SLEEP_NOW counts
each selected carrier as skipped; that a carrier not yet reached is selected as it stands when the walk comes to it is
the model's choice (log 33). That a SLEEP_NOW command takes one carrier number is the model's choice (log 11). That each
visit and command also tests for the end of RELEASING is the model's reading (log 26). That the run state is judged as
the execution begins and by nothing else (log 28), that a cover whose stack holds entries is eligible (log 32), and that
the push sets the cover's sleep-dwell count to 0 (section 6.3; section 6.4 has the rest of its context unchanged: log
40), are the model's choices. -/
def Obligations.SleepReserved : Prop :=
  (∀ (s : State) (p : Pass) (c k : Carrier), s.cluster.Testable c → s.cluster.Unasked c →
    (s.Visits p c → s.cluster.Admits s.setting .pass c k →
      ∃ (t : State) (v : Cluster), exec .decisionVisit s = .next t ∧ s.cluster.Reserved v c k .dwell false ∧
        s.AfterVisit t p c v) ∧
    ∀ d : DirectiveRun, s.Executing p d (some .sleepNow) → d.stopped = false → d.begun = true ∨ s.runState = .running →
      d.position = c.val → d.selects c .serving = true →
      s.cluster.Admits s.setting (.directed (d.param 0 == 2)) c k →
      ∃ (t : State) (v : Cluster), exec (.sleepNow 1) s = .next t ∧
        s.cluster.Reserved v c k .directed (d.param 0 == 2) ∧
        s.Stepped t p { d with begun := true, position := c.val + 1, affected := d.affected + 1 } v) ∧
  ∀ (s : State) (p : Pass) (c : Carrier) (d : DirectiveRun), s.Executing p d (some .sleepNow) →
    d.begun = true ∨ s.runState = .running → d.position = c.val →
    (let passed : DirectiveRun := { d with begun := true, position := c.val + 1 }
     (d.selects c (s.ctx c).state = true → d.stopped = true →
       ∃ t, exec (.sleepNow 1) s = .next t ∧ s.Stepped t p { passed with skipped := d.skipped + 1 } s.cluster) ∧
     (¬d.selects c (s.ctx c).state = true → ∃ t, exec (.sleepNow 1) s = .next t ∧ s.Stepped t p passed s.cluster))

/-- A decision visit reserves no carrier but the one visited, and that one only when it meets every condition of the
sleep test (section 6.3). A candidate that does not is refused (sections 6.3, 3.7, 5.3 and 6.6): the first condition in
the order of section 6.3 that fails gives the code and the sleep-dwell count, a comparison that is UNORDERED sets the
mark of the carrier whose class made it so, and DATA under the strict-data flag, and a full stack sets the cover's
overflow mark; a SLEEP_NOW counts it as skipped, like a selected carrier that may not be tested. A held carrier's count
falls to 0 (section 6.3). That a SLEEP_NOW command takes one carrier number is the model's choice (log 11). That each
visit and command also tests for the end of RELEASING is the model's reading (log 26). That the run state is judged for
SLEEP_NOW as its execution begins and by nothing else (log 28), and that a cover whose stack holds entries is eligible
(log 32), are the model's choices. -/
def Obligations.ReservationNeedsEveryCondition : Prop :=
  (∀ (s t : State) (p : Pass) (c d : Carrier), s.Visits p c → exec .decisionVisit s = .next t →
    (s.ctx d).reserved = false → (t.ctx d).reserved = true →
    d = c ∧ s.cluster.Testable c ∧ ∃ k : Carrier, s.cluster.Admits s.setting .pass c k) ∧
  (∀ (s : State) (p : Pass) (c : Carrier), s.Visits p c →
    (s.cluster.Testable c → (¬∃ k : Carrier, s.cluster.Admits s.setting .pass c k) →
      ∃ (t : State) (v : Cluster), exec .decisionVisit s = .next t ∧ s.cluster.RefusesTest v s.setting .pass c ∧
        s.AfterVisit t p c v) ∧
    ((s.ctx c).cfg.present = true → (s.ctx c).state = .serving → (s.ctx c).reserved = false → s.stack c = [] →
      (s.ctx c).holdLeft ≠ 0 →
      ∃ (t : State) (v : Cluster), exec .decisionVisit s = .next t ∧ v.ctx c = { s.ctx c with sleepCount := 0 } ∧
        (∀ d : Carrier, d ≠ c → v.ctx d = s.ctx d) ∧ v = { s.cluster with contexts := v.contexts } ∧
        s.AfterVisit t p c v) ∧
    ((s.ctx c).cfg.present = false ∨
        (s.stack c = [] ∧ (s.ctx c).state ≠ .light ∧ ((s.ctx c).state = .serving → (s.ctx c).reserved = true)) →
      ∃ t, exec .decisionVisit s = .next t ∧ s.AfterVisit t p c s.cluster)) ∧
  ∀ (s : State) (p : Pass) (c : Carrier) (d : DirectiveRun), s.Executing p d (some .sleepNow) → d.stopped = false →
    d.begun = true ∨ s.runState = .running → d.position = c.val → d.selects c (s.ctx c).state = true →
    (let m : SleepMode := .directed (d.param 0 == 2)
     let passed : DirectiveRun := { d with begun := true, position := c.val + 1, skipped := d.skipped + 1 }
     (s.cluster.Testable c → (¬∃ k : Carrier, s.cluster.Admits s.setting m c k) →
       ∃ (t : State) (v : Cluster), exec (.sleepNow 1) s = .next t ∧ s.cluster.RefusesTest v s.setting m c ∧
         s.Stepped t p passed v) ∧
     (¬s.cluster.Testable c → ∃ t, exec (.sleepNow 1) s = .next t ∧ s.Stepped t p passed s.cluster))

/-- The cover wake test (sections 5.5, 6.2, 3.7): at the visit of a SERVING owner its SETTLING entries age, and its
wake-dwell count rises where its load is above its wake limit or its class makes the comparison UNORDERED, which is
marked, with DATA under the strict-data flag; else the count falls to 0. Below the wake dwell, or with every entry
RETURNING, nothing else happens; else the wake-pop makes a COVER_LOAD wake request, as section 2.4 states it
(Obligations.WakeRequestTable), to the carrier of the topmost entry not RETURNING, and the owner's count is 0 after it;
for a carrier in LIGHT it is spelled out: RAISE wanted. At the visit of an owner in another state, FAULTED, its SETTLING
entries age and nothing else happens (sections 5.4, 6.1). That each visit also tests for the end of RELEASING is the
model's reading (log 26). -/
def Obligations.WakePopTopmost : Prop :=
  ∀ (s : State) (p : Pass) (k : Carrier), s.Visits p k → (s.ctx k).cfg.present = true → s.stack k ≠ [] →
    (let age (x : Entry) : Entry :=
       if x.phase = .settling then
         { x with settle := x.settle + 1, phase := if s.policy.settle ≤ x.settle + 1 then .settled else .settling }
       else x
     let unordered : Bool := decide ((s.ctx k).cls = .absent ∨ (s.ctx k).cls = .aged)
     let above : Prop :=
       ((s.ctx k).cls = .fresh ∨ (s.ctx k).cls = .clipped) ∧ 16 * (s.ctx k).cfg.wakeLimit < (s.ctx k).load
     let count : Nat := if unordered = true ∨ above then min 255 ((s.ctx k).wakeCount + 1) else 0
     let counted (n : Nat) : Context :=
       { s.ctx k with
         wakeCount := n
         unorderedNow := (s.ctx k).unorderedNow || unordered
         dirty := (s.ctx k).dirty || (unordered && !(s.ctx k).unorderedNow) }
     let noted : BitVec 6 :=
       if unordered = true ∧ s.policy.strictData = true then Notice.data.raiseIn s.cluster.note else s.cluster.note
     let tested (u : Cluster) : Prop :=
       u.stack k = (s.stack k).map age ∧ u.ctx k = counted count ∧ (∀ d : Carrier, d ≠ k → u.ctx d = s.ctx d) ∧
         (∀ d : Carrier, d ≠ k → u.stack d = s.stack d) ∧
         u = { s.cluster with contexts := u.contexts, coverStacks := u.coverStacks, note := noted }
     ((s.ctx k).state ≠ .serving → (s.ctx k).state ≠ .light →
       ∃ (t : State) (v : Cluster), exec .decisionVisit s = .next t ∧ s.AfterVisit t p k v ∧
         v.stack k = (s.stack k).map age ∧ (∀ d : Carrier, d ≠ k → v.stack d = s.stack d) ∧
         v = { s.cluster with coverStacks := v.coverStacks }) ∧
     ((s.ctx k).state = .serving → count < (s.ctx k).cfg.wakeDwell ∨ (∀ x ∈ s.stack k, x.phase = .returning) →
       ∃ (t : State) (v : Cluster), exec .decisionVisit s = .next t ∧ s.AfterVisit t p k v ∧ tested v) ∧
     ∀ (lo hi : List Entry) (e : Entry), (s.ctx k).state = .serving → (s.ctx k).cfg.wakeDwell ≤ count →
       s.stack k = lo ++ e :: hi → e.phase ≠ .returning → (∀ x ∈ hi, x.phase = .returning) →
       (∃ (t : State) (u v : Cluster), exec .decisionVisit s = .next t ∧ s.AfterVisit t p k v ∧ tested u ∧
         (let woken := u.wakeRequest e.carrier .coverLoad
          v.ctx k = { woken.ctx k with wakeCount := 0 } ∧ (∀ d : Carrier, d ≠ k → v.ctx d = woken.ctx d) ∧
            v = { woken with contexts := v.contexts })) ∧
       ((∀ x ∈ lo ++ hi, x.carrier ≠ e.carrier) → s.cluster.hostOf e.carrier = some k → e.carrier ≠ k →
         (s.ctx e.carrier).state = .light → s.cluster.Unasked e.carrier →
         ∃ (t : State) (v : Cluster), exec .decisionVisit s = .next t ∧ s.AfterVisit t p k v ∧
           v.stack k = lo.map age ++ { age e with phase := .returning, reason := .coverLoad } :: hi ∧
           v.ctx k = counted 0 ∧
           v.ctx e.carrier = { s.ctx e.carrier with lastReason := some .coverLoad, dirty := true } ∧
           v.lane (siteOf e.carrier) = (s.lane (siteOf e.carrier)).joined e.carrier .raise 0 1 ∧
           (∀ d : Carrier, d ≠ k → d ≠ e.carrier → v.ctx d = s.ctx d) ∧
           (∀ d : Carrier, d ≠ k → v.stack d = s.stack d) ∧
           (∀ j : Site, j ≠ siteOf e.carrier → v.lane j = s.lane j) ∧
           v = { s.cluster with
             contexts := v.contexts, coverStacks := v.coverStacks, lanes := v.lanes, note := noted }))

/-- The deepen test (section 6.5) at the visit of a LIGHT carrier with an empty stack: DARKEN is wanted when its
conditions hold, and a DARKEN want is withdrawn when the window is not OPEN, the carrier has declined or its entry is
RETURNING; nothing else changes. That each visit also tests for the end of RELEASING is the model's reading (log 26). -/
def Obligations.DeepenTest : Prop :=
  ∀ (s : State) (p : Pass) (c : Carrier), s.Visits p c → (s.ctx c).cfg.present = true → (s.ctx c).state = .light →
    s.stack c = [] →
    (let x := s.ctx c
     let holds : Prop :=
       s.cluster.isReturning c = false ∧ s.setting.phaseOf x = some .opened ∧ x.deepenDeclined = false
     let lane (l : Lane) : Prop :=
       ∃ (t : State) (v : Cluster), exec .decisionVisit s = .next t ∧ s.AfterVisit t p c v ∧ v.lane (siteOf c) = l ∧
         (∀ j : Site, j ≠ siteOf c → v.lane j = s.lane j) ∧ v = { s.cluster with lanes := v.lanes }
     (holds → 1 ≤ x.cfg.deepenDelay → x.cfg.deepenDelay ≤ x.lightRun → s.cluster.Unasked c →
       lane ((s.lane (siteOf c)).joined c .darken 0 1)) ∧
     ((holds → x.cfg.deepenDelay = 0 ∨ x.lightRun < x.cfg.deepenDelay ∨ s.cluster.wants c .darken = true ∨
         s.cluster.isOutstanding c = true) →
       (¬holds → s.cluster.wants c .darken = false) →
       ∃ t, exec .decisionVisit s = .next t ∧ s.AfterVisit t p c s.cluster) ∧
     (¬holds → s.cluster.wants c .darken = true →
       lane { s.lane (siteOf c) with queue := (s.lane (siteOf c)).queue.filter fun y => y.carrier != c }))

/-- A wake request (section 2.4) by the state of its carrier: without effect where section 2.4 says so; else the reason
is recorded, a reservation is cancelled, or the entry goes RETURNING with RAISE, WARM or OPEN wanted, in place of a
DARKEN, SHED or LOWER that is still a want; a WARM already wanted is kept. No other context, stack or lane changes, but
the SERVING owner of a cancelled reservation is dirty, and its wake-dwell count is 0 where its stack is then empty
(section 5.6; at a CLOSE too, which is the model's choice: log 34). The dirty mark follows the model's reading of a
change (log 15). -/
def Obligations.WakeRequestTable : Prop :=
  ∀ (w : Cluster) (c k : Carrier) (r : Reason) (e : Entry),
    (let v := w.wakeRequest c r
     let st := (w.ctx c).state
     let l := w.lane (siteOf c)
     let noted : Context := { w.ctx c with lastReason := some r, dirty := true }
     let turned : List Entry :=
       (w.stack k).map fun x => if x.carrier = c then { x with phase := .returning, reason := r } else x
     let without : Lane := { l with queue := l.queue.filter fun y => y.carrier != c }
     let rest : List Entry := (w.stack k).eraseP fun x => x.carrier == c
     (st = .raising ∨ st = .stray ∨ st = .unmanaged ∨ st = .unknown ∨ st = .faulted ∨
         (st = .serving ∧ (w.ctx c).reserved = false) ∨ (st ≠ .serving ∧ w.isReturning c = true) → v = w) ∧
     (w.hostOf c = some k → k ≠ c → (w.stack k).find? (fun x => x.carrier == c) = some e → e.phase ≠ .returning →
       (st = .light ∨ st = .dark ∨ st = .draining ∨ st = .lowering ∨ st = .deepening ∨ st = .warming →
         v.ctx c = noted ∧ v.stack k = turned ∧ (∀ d : Carrier, d ≠ c → v.ctx d = w.ctx d)) ∧
       (st = .light → w.Unasked c → v.lane (siteOf c) = l.joined c .raise 0 1) ∧
       (st = .dark → w.Unasked c → v.lane (siteOf c) = l.joined c .warm 0 1) ∧
       (st = .dark → w.isOutstanding c = false → w.wants c .warm = true → v.lane (siteOf c) = l) ∧
       (st = .light → w.isOutstanding c = false → w.wants c .darken = true →
         v.lane (siteOf c) = without.joined c .raise 0 1) ∧
       (st = .draining → w.isOutstanding c = false → w.wants c .shed = true ∨ w.wants c .lower = true →
         v.lane (siteOf c) = without.joined c .reopen 0 1) ∧
       (st = .lowering ∨ st = .deepening ∨ st = .warming ∨ (st = .draining ∧ w.isOutstanding c = true ∧ w.wantOf c = none) →
         v.lane (siteOf c) = l) ∧
       (st = .serving → (w.ctx c).reserved = true → (w.ctx k).state = .serving →
         v.ctx c = { noted with reserved := false, resleepLeft := (w.ctx c).cfg.resleepHold } ∧ v.stack k = rest ∧
         v.ctx k = { w.ctx k with wakeCount := if rest = [] then 0 else (w.ctx k).wakeCount, dirty := true } ∧
         (∀ d : Carrier, d ≠ c → d ≠ k → v.ctx d = w.ctx d) ∧ v.lane (siteOf c) = without) ∧
       (st ≠ .serving ∨ (w.ctx k).state = .serving →
         (∀ d : Carrier, d ≠ k → v.stack d = w.stack d) ∧ (∀ j : Site, j ≠ siteOf c → v.lane j = w.lane j) ∧
           v = { w with contexts := v.contexts, coverStacks := v.coverStacks, lanes := v.lanes })))

/-! ## Site lanes and radio channels -/

/-- The class of each command (section 7.1), and the want that a lane chooses (section 7.4) among those that are
eligible and of a class the run state allows. -/
def Obligations.LaneChoice : Prop :=
  [RadioCommand.gate, .shed, .lower, .darken, .warm, .raise, .reopen, .query].map RadioCommand.wantClass =
    [.sleep, .sleep, .sleep, .sleep, .wake, .wake, .wake, .probe] ∧
  ∀ (l : Lane) (rs : RunState),
    (∀ k : WantClass, rs.allows k = true ↔ rs = .running ∨ (k ≠ .sleep ∧ (rs = .holding ∨ rs = .releasing))) ∧
    (l.choose rs = none → ∀ x ∈ l.queue, x.wait = 0 → rs.allows x.command.wantClass = false) ∧
    ∀ x : Want, l.choose rs = some x →
      x.wait = 0 ∧ rs.allows x.command.wantClass = true ∧
      (∃ pre post, l.queue = pre ++ x :: post ∧
        ∀ y ∈ pre, y.wait = 0 → y.command.wantClass ≠ x.command.wantClass) ∧
      (x.command.wantClass ≠ .wake → ∀ y ∈ l.queue, y.wait = 0 → y.command.wantClass ≠ .wake) ∧
      (x.command.wantClass = .sleep → ∀ y ∈ l.queue, y.wait = 0 → y.command.wantClass ≠ .probe)

/-- A grant (sections 7.5, 8.2, 12.7, with the command codes of 12.7): the chosen want becomes the outstanding command,
is sent under the next tag with its timeout, and moves its carrier to the state of the send. A want whose wait has run
out has its lane tested for the same grant (section 7.2). No grant is made while a command is outstanding, the channel
is DOWN, or no want may be chosen. That the expiry of a wait is a command of its own is the model's choice (log 29), and
so is the record of the frame last sent (log 19). -/
def Obligations.GrantSends : Prop :=
  [RadioCommand.gate, .shed, .lower, .darken, .warm, .raise, .reopen, .query].map RadioCommand.code =
    [1, 2, 3, 4, 5, 6, 7, 8] ∧
  ∀ (s : State) (i : Site),
    ((s.lane i).outstanding ≠ none ∨ (s.channel i).up = false ∨ (s.lane i).choose s.runState = none →
      exec (.laneGrant i) s = .next s ∧ ∀ k : Carrier, siteOf k = i → exec (.wantWaitExpiry k) s = .next s) ∧
    ∀ x : Want, (s.lane i).outstanding = none → (s.channel i).up = true → (s.lane i).choose s.runState = some x →
    (let c := x.carrier
     let h := s.channel i
     ∃ t, exec (.laneGrant i) s = .next t ∧
      (∀ (k : Carrier) (y : Want), siteOf k = i → s.cluster.wantOf k = some y → y.wait = 0 →
        exec (.wantWaitExpiry k) s = .next t) ∧
      t.lane i = { s.lane i with
        queue := (s.lane i).queue.filter fun y => y.carrier != c
        outstanding := some { carrier := c, command := x.command, attempt := x.attempt, tag := h.nextTag } } ∧
      t.channel i = { h with
        liveTag := some h.nextTag
        nextTag := h.nextTag + 1#4
        timeLeft := s.policy.timeouts.of x.command
        sent := (t.channel i).sent } ∧
      (let f := (t.channel i).sent
       f.length = 6 ∧ byteSum f % 256 = 0 ∧ byteAt f 0 = h.nextTag.toNat ∧ byteAt f 1 = sectorOf c ∧ byteAt f 2 = slotOf c ∧
       byteAt f 3 = x.command.code ∧
       (∀ k : Carrier, x.command = .shed → (s.ctx c).cfg.cover = some k → byteAt f 4 = k.val) ∧
       (x.command ≠ .shed → byteAt f 4 = 0)) ∧
      (let moves (st : CarrierState) : Prop :=
         t.ctx c = { s.ctx c with
           state := st
           sleepCount := 0
           wakeCount := 0
           lightRun := if (s.ctx c).state = .light then 0 else (s.ctx c).lightRun
           reserved := if x.command = .gate then false else (s.ctx c).reserved
           dirty := true }
       let st := (s.ctx c).state
       (x.command = .gate → st = .serving → moves .draining) ∧
       (x.command = .lower → st = .draining → moves .lowering) ∧
       (x.command = .darken → st = .light → moves .deepening) ∧
       (x.command = .warm → st = .dark → moves .warming) ∧
       (x.command = .raise → st = .light → moves .raising) ∧
       (x.command = .shed ∨ x.command = .reopen ∨ x.command = .query ∨ st = .stray ∧ x.command ≠ .gate → t.ctx c = s.ctx c)) ∧
      s.OtherContexts t c ∧ (∀ j : Site, j ≠ i → t.lane j = s.lane j ∧ t.channel j = s.channel j) ∧
      t = { s with
        cluster :=
          { s.cluster with contexts := t.cluster.contexts, lanes := t.cluster.lanes, channels := t.cluster.channels } })

/-- The 100 ms tick (sections 7.2, 8.2): every positive wait and the time left of every live command fall by 1; it
stands still in HALTED. That the grants and timeouts which a count of 0 calls for are commands of their own, and that
the tick may be sent at any moment, is the model's choice (logs 4 and 29). -/
def Obligations.HundredMsTickLowers : Prop :=
  ∀ s : State,
    (s.runState = .halted → exec .hundredMsTick s = .next s) ∧
    (s.runState ≠ .halted →
      ∃ t, exec .hundredMsTick s = .next t ∧
        (∀ i : Site,
          t.lane i = { s.lane i with
            queue := (s.lane i).queue.map fun x => { x with wait := if x.wait = 0 then 0 else x.wait - 1 } } ∧
          t.channel i =
            (if (s.channel i).liveTag = none then s.channel i
             else { s.channel i with timeLeft := (s.channel i).timeLeft - 1 })) ∧
        t = { s with
          timer := { s.timer with hundred := 0 }
          cluster := { s.cluster with lanes := t.cluster.lanes, channels := t.cluster.channels } })

/-- R138 and the late case of section 8.3: a frame that fails its check, or whose tag is not live, raises the late-reply
count and does nothing else. -/
def Obligations.ReplyDiscarded : Prop :=
  ∀ (s : State) (i : Site) (frame : List Byte),
    (frame.length ≠ 6 ∨ byteSum frame % 256 ≠ 0 ∨ 3 < byteAt frame 1 ∨ 3 < byteAt frame 2 ∨
        (s.channel i).liveTag ≠ some ((frame.getD 0 0#8).setWidth 4) →
      exec (.radioReply i frame) s = .next { s with late := min 65535 (s.late + 1) }) ∧
    (frame.length = 6 → byteSum frame % 256 = 0 → byteAt frame 1 ≤ 3 → byteAt frame 2 ≤ 3 →
      ∃ r, parseReply frame = some r ∧ r.tag = (frame.getD 0 0#8).setWidth 4 ∧
        r.users = byteAt frame 3 + 256 * byteAt frame 4 ∧
        (r.outcome = .ack ↔ byteAt frame 1 = 0) ∧ (r.outcome = .busy ↔ byteAt frame 1 = 1) ∧
        (r.outcome = .nak ↔ byteAt frame 1 = 2) ∧ (r.radio = .on ↔ byteAt frame 2 = 0) ∧
        (r.radio = .light ↔ byteAt frame 2 = 1) ∧ (r.radio = .dark ↔ byteAt frame 2 = 2))

/-! ## Replies -/

/-- The steps of a drain (section 8.4): after a GATE ACK the SHED, after a SHED with few users left the LOWER, after one
with too many the SHED again within the attempts; OPEN in their place for an entry that is RETURNING. SHED attempts used
up with users left, and LOWER BUSY, turn the drain back: the entry goes RETURNING with its reason, the carrier is
DRAINING and OPEN is wanted; at a LOWER BUSY an entry already RETURNING keeps its reason. That such an event also tests
for the end of RELEASING is the model's reading (log 26). -/
def Obligations.DrainSteps : Prop :=
  (∀ (s : State) (i : Site) (frame : List Byte) (o : Outstanding) (r : Reply),
    s.Answered i frame o r → s.cluster.wantOf o.carrier = none →
    (let c := o.carrier
     let wanted (command : RadioCommand) (wait attempt : Nat) : Prop :=
       ∃ t, exec (.radioReply i frame) s = .next t ∧
         s.LaneAfterReply t i ((s.lane i).ended.joined c command wait attempt) ∧
         t = { s with
           runState := s.runAfter t.cluster
           cluster := { s.cluster with lanes := t.cluster.lanes, channels := t.cluster.channels } }
     let full : Prop := r.outcome = .busy ∨ (r.outcome = .ack ∧ s.policy.residual < r.users)
     (o.command = .gate → r.outcome = .ack → s.cluster.isReturning c = false → wanted .shed 0 1) ∧
     (o.command = .gate → r.outcome = .ack → s.cluster.isReturning c = true → wanted .reopen 0 1) ∧
     (o.command = .shed → r.outcome = .ack ∨ r.outcome = .busy → s.cluster.isReturning c = true → wanted .reopen 0 1) ∧
     (o.command = .shed → s.cluster.isReturning c = false → r.outcome = .ack → r.users ≤ s.policy.residual →
       wanted .lower 0 1) ∧
     (o.command = .shed → s.cluster.isReturning c = false → full → o.attempt < s.policy.shedAttempts →
       wanted .shed s.policy.shedInterval (o.attempt + 1)) ∧
     (o.command = .lower → r.outcome = .busy → (s.ctx c).state = .lowering → s.cluster.isReturning c = true →
       ∃ t, exec (.radioReply i frame) s = .next t ∧
         t.ctx c = { s.ctx c with state := .draining, sleepCount := 0, wakeCount := 0, dirty := true } ∧
         t.cluster.coverStacks = s.cluster.coverStacks ∧
         s.LaneAfterReply t i ((s.lane i).ended.joined c .reopen 0 1) ∧ s.OtherContexts t c ∧ s.OnlyTables t))) ∧
  ∀ (s : State) (i : Site) (frame : List Byte) (o : Outstanding) (r : Reply) (k : Carrier),
    s.Answered i frame o r → s.cluster.wantOf o.carrier = none →
    s.cluster.hostOf o.carrier = some k → s.cluster.isReturning o.carrier = false →
    (let c := o.carrier
     let turned (t : State) (reason : Reason) (x : Context) : Prop :=
       exec (.radioReply i frame) s = .next t ∧ t.ctx c = { x with lastReason := some reason, dirty := true } ∧
         t.stack k =
           (s.stack k).map (fun e => if e.carrier = c then { e with phase := .returning, reason := reason } else e) ∧
         (∀ d : Carrier, d ≠ k → t.stack d = s.stack d) ∧
         s.LaneAfterReply t i ((s.lane i).ended.joined c .reopen 0 1) ∧ s.OtherContexts t c ∧ s.OnlyTables t
     (o.command = .shed → r.outcome = .busy ∨ (r.outcome = .ack ∧ s.policy.residual < r.users) →
       s.policy.shedAttempts ≤ o.attempt → ∃ t, turned t .abandonUsers (s.ctx c)) ∧
     (o.command = .lower → r.outcome = .busy → (s.ctx c).state = .lowering →
       ∃ t, turned t .abandonBusy { s.ctx c with state := .draining, sleepCount := 0, wakeCount := 0 }))

/-- A LOWER ACK (sections 5.4, 8.4): LIGHT, one more sleep tonight, depth LIGHT, deepen at once read and cleared, a
RESERVED entry SETTLING (SETTLED with 0 settle sweeps); then RAISE for a RETURNING entry, DARKEN for deepen at once,
else no want. That such an event also tests for the end of RELEASING is the model's reading (log 26). -/
def Obligations.LowerAck : Prop :=
  ∀ (s : State) (i : Site) (frame : List Byte) (o : Outstanding) (r : Reply) (k : Carrier) (e : Entry),
    s.Answered i frame o r → o.command = .lower → r.outcome = .ack → s.cluster.wantOf o.carrier = none →
    (s.ctx o.carrier).state = .lowering → s.cluster.hostOf o.carrier = some k →
    (s.stack k).find? (fun x => x.carrier == o.carrier) = some e →
    ∃ t, exec (.radioReply i frame) s = .next t ∧
      t.ctx o.carrier = { s.ctx o.carrier with
        state := .light
        sleepsTonight := (s.ctx o.carrier).sleepsTonight + 1
        sleepCount := 0
        wakeCount := 0
        lightRun := 0
        dirty := true } ∧
      t.stack k = (s.stack k).map (fun x =>
        if x.carrier = o.carrier then
          if x.phase = .reserved then
            { x with
              depth := .light
              deepenAtOnce := false
              settle := 0
              phase := if s.policy.settle = 0 then .settled else .settling }
          else { x with depth := .light, deepenAtOnce := false }
        else x) ∧
      s.LaneAfterReply t i
        (if e.phase = .returning then (s.lane i).ended.joined o.carrier .raise 0 1
         else if e.deepenAtOnce then (s.lane i).ended.joined o.carrier .darken 0 1
         else (s.lane i).ended) ∧
      (∀ d : Carrier, d ≠ k → t.stack d = s.stack d) ∧ s.OtherContexts t o.carrier ∧ s.OnlyTables t

/-- DARKEN ACK, BUSY and NAK, and WARM ACK for a carrier with an entry (section 8.4). That such an event also tests for
the end of RELEASING is the model's reading (log 26). -/
def Obligations.DarkenWarmReplies : Prop :=
  ∀ (s : State) (i : Site) (frame : List Byte) (o : Outstanding) (r : Reply) (k : Carrier),
    s.Answered i frame o r → s.cluster.wantOf o.carrier = none →
    s.cluster.hostOf o.carrier = some k →
    (let c := o.carrier
     let rests (x : Context) (st : CarrierState) : Context :=
       { x with state := st, sleepCount := 0, wakeCount := 0, dirty := true }
     let lane (command : RadioCommand) : Lane :=
       if s.cluster.isReturning c = true then (s.lane i).ended.joined c command 0 1 else (s.lane i).ended
     let onlyThis (t : State) : Prop := s.OtherContexts t c ∧ s.OnlyTables t
     (o.command = .darken → r.outcome = .ack → (s.ctx c).state = .deepening →
       ∃ t, exec (.radioReply i frame) s = .next t ∧ t.ctx c = rests (s.ctx c) .dark ∧
         t.stack k = (s.stack k).map (fun e => if e.carrier = c then { e with depth := .dark } else e) ∧
         (∀ d : Carrier, d ≠ k → t.stack d = s.stack d) ∧ s.LaneAfterReply t i (lane .warm) ∧ onlyThis t) ∧
     (o.command = .darken → r.outcome = .busy ∨ r.outcome = .nak → (s.ctx c).state = .deepening →
       ∃ t, exec (.radioReply i frame) s = .next t ∧
         t.ctx c = { rests (s.ctx c) .light with lightRun := 0, deepenDeclined := true } ∧
         t.cluster.coverStacks = s.cluster.coverStacks ∧ s.LaneAfterReply t i (lane .raise) ∧ onlyThis t) ∧
     (o.command = .warm → r.outcome = .ack → (s.ctx c).state = .warming →
       ∃ t, exec (.radioReply i frame) s = .next t ∧ t.ctx c = { rests (s.ctx c) .light with lightRun := 0 } ∧
         t.cluster.coverStacks = s.cluster.coverStacks ∧ s.LaneAfterReply t i (lane .raise) ∧ onlyThis t))

/-- The replies that bring a carrier with an entry back to SERVING (sections 5.6, 8.4): RAISE ACK, OPEN ACK, GATE BUSY
and NAK. The entry leaves the stack of its owner k and the entries above close up; the re-sleep hold starts. An owner in
SERVING whose stack is then empty has its wake-dwell count cleared; one in FAULTED with cause LINK whose link is UP
enters UNKNOWN with a QUERY wanted (section 2.5), and any other stays FAULTED. RELEASING ends where the part is then
quiet (section 11.3). -/
def Obligations.BackToServing : Prop :=
  ∀ (s : State) (i : Site) (frame : List Byte) (o : Outstanding) (r : Reply) (k : Carrier),
    s.Answered i frame o r → s.cluster.hostOf o.carrier = some k → k ≠ o.carrier →
    (s.ctx k).state = .serving ∨ ((s.ctx k).state = .faulted ∧ s.cluster.Unasked k) →
    (let c := o.carrier
     let back (x : Context) : Context :=
       { x with state := .serving, sleepCount := 0, wakeCount := 0, resleepLeft := x.cfg.resleepHold, dirty := true }
     let closed : List Entry := (s.stack k).eraseP fun e => e.carrier == c
     let queried : Bool := decide
       (closed = [] ∧ (s.ctx k).state = .faulted ∧ (s.ctx k).cause = some .link ∧ (s.channel (siteOf k)).up = true)
     let owner : Context :=
       if queried = true then
         { s.ctx k with
           state := .unknown, cls := .absent, probeOrigin := none, sleepCount := 0, wakeCount := 0, dirty := true }
       else
         { s.ctx k with
           dirty := true
           wakeCount := if closed = [] ∧ (s.ctx k).state = .serving then 0 else (s.ctx k).wakeCount }
     let lane (j : Site) : Lane :=
       let l := if j = i then (s.lane i).ended else s.lane j
       if queried = true ∧ j = siteOf k then l.joined k .query 0 1 else l
     let returns (x : Context) : Prop :=
       ∃ t, exec (.radioReply i frame) s = .next t ∧ t.ctx c = back x ∧ t.stack k = closed ∧ t.ctx k = owner ∧
         (∀ d : Carrier, d ≠ c → d ≠ k → t.ctx d = s.ctx d) ∧ (∀ d : Carrier, d ≠ k → t.stack d = s.stack d) ∧
         (∀ j : Site, t.lane j = lane j ∧ t.channel j = if j = i then (s.channel i).retired else s.channel j) ∧
         s.OnlyTables t
     (o.command = .raise → r.outcome = .ack → (s.ctx c).state = .raising →
       returns { s.ctx c with cls := .absent, deepenDeclined := false }) ∧
     (o.command = .reopen → r.outcome = .ack → (s.ctx c).state = .draining → returns (s.ctx c)) ∧
     (o.command = .gate → r.outcome = .busy ∨ r.outcome = .nak → (s.ctx c).state = .draining →
       returns { s.ctx c with
         lastReason :=
           if s.cluster.isReturning c = true then (s.ctx c).lastReason
           else if r.outcome = .busy then some .abandonBusy else some .abandon }))

/-- The replies to a carrier without an entry (sections 2.3, 8.4): QUERY ACK of an UNKNOWN carrier that no PROBE holds
or that comes from a PROBE, WARM ACK and RAISE ACK of a STRAY carrier. The query of a probed carrier ends in its record,
and a record whose selection is done with its last member (section 10.5). RELEASING ends where the part is then quiet
(section 11.3); that every reply makes that test is the model's reading (log 26). -/
def Obligations.QueryAndStrayReplies : Prop :=
  ∀ (s : State) (i : Site) (frame : List Byte) (o : Outstanding) (r : Reply),
    s.Answered i frame o r → s.cluster.wantOf o.carrier = none → r.outcome = .ack →
    s.cluster.hostOf o.carrier = none →
    (let c := o.carrier
     let rests (x : Context) (st : CarrierState) : Context :=
       { x with state := st, sleepCount := 0, wakeCount := 0, dirty := true }
     let becomes (x : Context) (lane : Lane) : Prop :=
       ∃ t, exec (.radioReply i frame) s = .next t ∧ t.ctx c = x ∧ s.LaneAfterReply t i lane ∧ s.OtherContexts t c ∧
         t = { s with
           runState := s.runAfter t.cluster
           cluster :=
             { s.cluster with
               contexts := t.cluster.contexts
               lanes := t.cluster.lanes
               channels := t.cluster.channels
               probes := t.cluster.probes
               outcomes := t.cluster.outcomes } } ∧
         s.cluster.QueryEnded t.cluster c true
     (o.command = .query → (s.ctx c).state = .unknown →
       (r.radio = .on →
         becomes { rests (s.ctx c) .serving with
           probeOrigin := none
           cls := if (s.ctx c).probeOrigin = some .serving then (s.ctx c).cls else .absent } (s.lane i).ended) ∧
       (r.radio = .light →
         becomes { rests (s.ctx c) .stray with probeOrigin := none, strayStep := some .raise }
           ((s.lane i).ended.joined c .raise 0 1)) ∧
       (r.radio = .dark →
         becomes { rests (s.ctx c) .stray with probeOrigin := none, strayStep := some .warm }
           ((s.lane i).ended.joined c .warm 0 1))) ∧
     (o.command = .warm → (s.ctx c).state = .stray →
       becomes { s.ctx c with
         strayStep := some .raise, dirty := (s.ctx c).dirty || decide ((s.ctx c).strayStep ≠ some .raise) }
         ((s.lane i).ended.joined c .raise 0 1)) ∧
     (o.command = .raise → (s.ctx c).state = .stray →
       becomes { rests (s.ctx c) .serving with
         strayStep := none, cls := .absent, deepenDeclined := false, resleepLeft := (s.ctx c).cfg.resleepHold }
         (s.lane i).ended))

/-- BUSY to WARM, RAISE, OPEN or QUERY below the wake attempts (section 8.4): the carrier is back in its resting state,
and the command is wanted again after the busy back-off with one attempt more. That such an event also tests for the end
of RELEASING is the model's reading (log 26). -/
def Obligations.BusyWantedAgain : Prop :=
  ∀ (s : State) (i : Site) (frame : List Byte) (o : Outstanding) (r : Reply),
    s.Answered i frame o r → r.outcome = .busy → s.cluster.wantOf o.carrier = none →
    o.attempt < s.policy.wakeAttempts →
    (let c := o.carrier
     let again (x : Context) : Prop :=
       ∃ t, exec (.radioReply i frame) s = .next t ∧ t.ctx c = x ∧
         s.LaneAfterReply t i ((s.lane i).ended.joined c o.command s.policy.busyBackoff (o.attempt + 1)) ∧
         s.OtherContexts t c ∧
         t = { s with
           runState := s.runAfter t.cluster
           cluster :=
             { s.cluster with
               contexts := t.cluster.contexts, lanes := t.cluster.lanes, channels := t.cluster.channels } }
     (o.command = .warm → (s.ctx c).state = .warming →
       again { s.ctx c with state := .dark, sleepCount := 0, wakeCount := 0, dirty := true }) ∧
     (o.command = .raise → (s.ctx c).state = .raising →
       again { s.ctx c with state := .light, sleepCount := 0, wakeCount := 0, dirty := true }) ∧
     (o.command = .warm ∨ o.command = .raise → (s.ctx c).state = .stray → again (s.ctx c)) ∧
     (o.command = .reopen → (s.ctx c).state = .draining → again (s.ctx c)) ∧
     (o.command = .query → (s.ctx c).state = .unknown → again (s.ctx c)))

/-- The ends of a command that put its carrier, whose own stack is empty, in FAULTED (sections 2.5, 8.2, 8.4): its
timeout, a FAULT reply, a NAK but to GATE and DARKEN, BUSY at the wake attempts, a QUERY ACK with radio state FAULT;
with their causes, and PROBE for a query of a carrier that a PROBE took out of FAULTED; a probed query ends as skipped
in its record (section 10.5), and RELEASING ends where the part is then quiet (section 11.3). That a timeout may be
taken once the time left is 0, as a command of its own, is the model's choice (log 29). -/
def Obligations.FailuresFault : Prop :=
  ∀ (s : State) (i : Site) (o : Outstanding), (s.lane i).outstanding = some o → siteOf o.carrier = i →
    s.stack o.carrier = [] → s.cluster.hostOf o.carrier ≠ some o.carrier →
    (let c := o.carrier
     let cause (f : FaultCause) : FaultCause :=
       if o.command = .query ∧ (s.ctx c).probeOrigin = some .faulted then .probe else f
     let faults (command : Instr) (f : FaultCause) : Prop :=
       ∃ t, exec command s = .next t ∧ (t.ctx c).state = .faulted ∧ (t.ctx c).cause = some (cause f) ∧
         (t.ctx c).dirty = true ∧ (t.ctx c).reserved = false ∧ (t.ctx c).sleepCount = 0 ∧ (t.ctx c).wakeCount = 0 ∧
         (t.ctx c).lightRun = 0 ∧ (t.ctx c).cls = (s.ctx c).cls ∧ (t.ctx c).load = (s.ctx c).load ∧
         (t.ctx c).age = (s.ctx c).age ∧ (t.ctx c).holdLeft = (s.ctx c).holdLeft ∧
         (t.ctx c).resleepLeft = (s.ctx c).resleepLeft ∧ (t.ctx c).sleepsTonight = (s.ctx c).sleepsTonight ∧
         t.stack c = [] ∧ (∀ k : Carrier, s.cluster.hostOf c = some k → t.stack k = (s.stack k).eraseP fun e => e.carrier == c) ∧
         (t.lane i).outstanding = none ∧ (t.channel i).liveTag = none ∧ (t.channel i).timeLeft = 0 ∧
         t.cluster.wantOf c = none ∧ Notice.fault.isIn t.cluster.note = true ∧
         s.cluster.QueryEnded t.cluster c false ∧ t.runState = s.runAfter t.cluster
     ((s.channel i).liveTag ≠ none → (s.channel i).timeLeft = 0 → faults (.commandTimeout i) .timeout) ∧
     ∀ (frame : List Byte) (r : Reply), s.Answered i frame o r →
       (r.outcome = .fault → faults (.radioReply i frame) .radio) ∧
       (r.outcome = .nak → o.command ≠ .gate → o.command ≠ .darken → faults (.radioReply i frame) .refused) ∧
       (r.outcome = .busy → o.command = .warm ∨ o.command = .raise ∨ o.command = .reopen ∨ o.command = .query →
         s.policy.wakeAttempts ≤ o.attempt → faults (.radioReply i frame) .refused) ∧
       (r.outcome = .ack → o.command = .query → r.radio = .fault → faults (.radioReply i frame) .radio))

/-- A change of a carrier's state, whatever command makes it (section 2.3): both dwell counts are 0, the light run is 0
on leaving LIGHT, the probe origin none on leaving UNKNOWN, the stray step none on leaving STRAY. The dirty mark is set,
but where the same command goes on to issue the carrier's record, and at HALT and power-on reset, which clear it
(sections 2.2 and 1.6). -/
def Obligations.StateChangeClearsDwell : Prop :=
  ∀ (command : Instr) (s t : State) (c : Carrier),
    exec command s = .next t → (t.ctx c).state ≠ (s.ctx c).state →
    (t.ctx c).sleepCount = 0 ∧ (t.ctx c).wakeCount = 0 ∧
      ((s.ctx c).state = .light → (t.ctx c).lightRun = 0) ∧ ((s.ctx c).state = .unknown → (t.ctx c).probeOrigin = none) ∧
      ((s.ctx c).state = .stray → (t.ctx c).strayStep = none) ∧
      (command ≠ .powerOnReset → command ≠ .halt →
        (t.ctx c).dirty = true ∨ ∃ (a : Access) (e : Nat), t.port = some a ∧ a.purpose = .mirrorRecord c e) ∧
      ((∃ i, command = .laneGrant i ∨ command = .commandTimeout i ∨ command = .linkUp i ∨ command = .linkDown i ∨
          ∃ frame, command = .radioReply i frame) ∨ (∃ k, command = .wantWaitExpiry k) →
        (t.ctx c).dirty = true)

/-! ## Link events -/

/-- A link DOWN in a coherent state (section 8.5): the channel is DOWN with no live tag, the outstanding slot empty,
every managed carrier of the site is FAULTED with cause LINK, holds no entry and has no want; no other carrier becomes
FAULTED, no probed carrier of the site is left a member of a record (section 10.5), and RELEASING ends where the part is
then quiet (section 11.3). The stacks of the site keep the entries of other sites, but the reserved ones, each RETURNING
with COVER_LOST unless it already was RETURNING, and the other stacks lose the entries of the site (section 5.8). Each
sleeper of another site on a stack of the site has COVER_LOST as its last reason and the want of section 2.4, or has its
reservation cancelled and its re-sleep hold started; one already RETURNING is left, and so is a carrier of another site
without an entry on those stacks and without a stack of its own (sections 2.5, 5.7). That a report that stays as it was
does nothing is the model's reading (log 18). -/
def Obligations.LinkDownFaults : Prop :=
  ∀ (s : State) (i : Site), s.Coherent → s.cluster.TagsAgree →
    ((s.channel i).up = true →
      ∃ t, exec (.linkDown i) s = .next t ∧ (t.channel i).up = false ∧ (t.channel i).liveTag = none ∧
        (t.lane i).outstanding = none ∧ (t.channel i).nextTag = (s.channel i).nextTag ∧
        (∀ c : Carrier, siteOf c = i → (s.ctx c).state ≠ .unmanaged →
          (t.ctx c).state = .faulted ∧ (t.ctx c).cause = some .link ∧ t.cluster.holdsEntry c = false ∧
            t.cluster.wantOf c = none ∧ Notice.fault.isIn t.cluster.note = true) ∧
        (∀ k : Carrier, t.stack k =
          if siteOf k = i then
            ((s.stack k).filter fun e => siteOf e.carrier != i && !(s.ctx e.carrier).reserved).map fun e =>
              if e.phase = .returning then e else { e with phase := .returning, reason := .coverLost }
          else (s.stack k).filter fun e => siteOf e.carrier != i) ∧
        (∀ c : Carrier, siteOf c = i → (s.ctx c).state = .unmanaged → t.ctx c = s.ctx c) ∧
        (∀ c : Carrier, siteOf c ≠ i → (t.ctx c).state = .faulted → (s.ctx c).state = .faulted) ∧
        (∀ c : Carrier, siteOf c = i → (s.ctx c).state = .unknown → (s.ctx c).probeOrigin ≠ none →
          ∀ r ∈ t.cluster.probes, c ∉ r.members) ∧
        (∀ k c : Carrier, siteOf k = i → siteOf c ≠ i → ∀ e ∈ s.stack k, e.carrier = c →
          (let x := s.ctx c
           let noted : Context := { x with lastReason := some .coverLost, dirty := true }
           (e.phase = .returning → t.ctx c = x ∧ t.cluster.wantOf c = s.cluster.wantOf c) ∧
           (x.reserved = true →
             t.ctx c = { noted with reserved := false, resleepLeft := x.cfg.resleepHold } ∧
               t.cluster.holdsEntry c = false ∧ t.cluster.wantOf c = none) ∧
           (e.phase ≠ .returning → x.reserved = false →
             t.ctx c = noted ∧
             (x.state = .light → t.cluster.wants c .raise = true) ∧
             (x.state = .dark → t.cluster.wants c .warm = true) ∧
             (x.state = .draining → s.cluster.wants c .shed = true ∨ s.cluster.wants c .lower = true →
               t.cluster.wants c .reopen = true)))) ∧
        (∀ c : Carrier, siteOf c ≠ i → s.stack c = [] →
          (∀ k : Carrier, siteOf k = i → s.cluster.standsOn c k = false) →
            t.ctx c = s.ctx c ∧ t.cluster.wantOf c = s.cluster.wantOf c) ∧
        t.runState = s.runAfter t.cluster) ∧
    ((s.channel i).up = false → exec (.linkDown i) s = .next s)

/-- A link UP (section 8.5): the carriers of the site that are FAULTED with cause LINK and own an empty stack become
UNKNOWN with class ABSENT, no probe origin and a QUERY wanted; every other carrier is left. That a report that stays as
it was does nothing is the model's reading (log 18). -/
def Obligations.LinkUpQueries : Prop :=
  ∀ (s : State) (i : Site),
    ((s.channel i).up = false →
      ∃ t, exec (.linkUp i) s = .next t ∧ t.channel i = { s.channel i with up := true } ∧
        (∀ c : Carrier,
          (siteOf c = i ∧ (s.ctx c).state = .faulted ∧ (s.ctx c).cause = some .link ∧ s.stack c = [] →
            t.ctx c = { s.ctx c with
              state := .unknown, cls := .absent, probeOrigin := none, sleepCount := 0, wakeCount := 0, dirty := true } ∧
            (s.cluster.isOutstanding c = false → t.cluster.wants c .query = true)) ∧
          (¬(siteOf c = i ∧ (s.ctx c).state = .faulted ∧ (s.ctx c).cause = some .link ∧ s.stack c = []) →
            t.ctx c = s.ctx c)) ∧
        (∀ j : Site, j ≠ i → t.lane j = s.lane j ∧ t.channel j = s.channel j) ∧
        t = { s with
          cluster :=
            { s.cluster with contexts := t.cluster.contexts, lanes := t.cluster.lanes, channels := t.cluster.channels } }) ∧
    ((s.channel i).up = true → exec (.linkUp i) s = .next s)

/-! ## The civil clock and the night windows -/

/-- One second of the civil clock (section 9.1): the second of the week goes up by one, a day's end carries into the day
number, and a carry from second 59 raises a minute event with the clock after it: seconds 0 and the new minute, hour,
weekday and day number. An invalid clock stands still. That a second may be sent at any moment, and that the minute
event waits in a queue, is the model's choice (logs 4 and 5). -/
def Obligations.CivilSecond : Prop :=
  ∀ s : State,
    (s.clock.valid = false → exec .civilClockSecond s = .next s) ∧
    (s.clock.valid = true → s.clock.seconds ≤ 59 → s.clock.minutes ≤ 59 → s.clock.hours ≤ 23 → s.clock.weekday ≤ 6 →
      ∃ t, exec .civilClockSecond s = .next t ∧
        (let k := s.clock
         let n := t.clock
         let daySecond (x : Clock) : Nat := x.seconds + 60 * x.minutes + 3600 * x.hours
         n.valid = true ∧ n.sub = 0 ∧ n.seconds ≤ 59 ∧ n.minutes ≤ 59 ∧ n.hours ≤ 23 ∧ n.weekday ≤ 6 ∧
         daySecond n + 86400 * n.weekday = (daySecond k + 86400 * k.weekday + 1) % 604800 ∧
         n.day = (if daySecond k = 86399 then (k.day + 1) % 65536 else k.day) ∧
         t = { s with
           clock := n
           minutesDue :=
             if k.seconds = 59 then
               s.minutesDue ++
                 [{ seconds := 0, minutes := n.minutes, hours := n.hours, weekday := n.weekday, day := n.day }]
             else s.minutesDue }))

/-- The phase of every window after a minute event (sections 9.3 and 9.4), by the phase before and the matches that
fire, whatever the order of the event's parts; MINUTE is set. That minute events wait in a queue is the model's choice
(log 5). -/
def Obligations.MinuteWindows : Prop :=
  ∀ (s : State) (order : List MinutePart),
    (s.minutesDue = [] → exec (.minuteEvent order) s = .next s) ∧
    ∀ (m : MinuteStamp) (ts : List MinuteStamp), s.minutesDue = m :: ts →
      ∃ t, exec (.minuteEvent order) s = .next t ∧ t.minutesDue = ts ∧ t.clock = s.clock ∧
        Notice.minute.isIn t.cluster.note = true ∧
        ∀ n : WindowNo, (t.window n).entry = (s.window n).entry ∧
          (let fires (x : WindowMatch) : Bool := decide ((s.window n).Fires x m)
           (t.window n).phase =
            match (s.window n).phase, fires (s.window n).entry.closeAt, fires (s.window n).entry.openAt,
                fires (s.window n).entry.deepStopAt with
            | .closed, _, false, _ => .closed
            | .closed, _, true, false => .opened
            | .closed, _, true, true => .shallow
            | .opened, true, false, _ => .closed
            | .opened, true, true, false => .opened
            | .opened, true, true, true => .shallow
            | .opened, false, _, false => .opened
            | .opened, false, _, true => .shallow
            | .shallow, true, false, _ => .closed
            | .shallow, true, true, false => .opened
            | .shallow, true, true, true => .shallow
            | .shallow, false, _, _ => .shallow)

/-- What the windows do to the carriers at a minute event, in a coherent state (section 9.4). A CLOSE turns back every
bound entry that is not RETURNING with reason WINDOW_CLOSE, in the entry and as the last reason, with the want of
section 2.4, or cancels the reservation and starts the re-sleep hold; an OPEN gives the bound carriers a new night; a
window may do both at one minute. A DEEP_STOP, and the follow-up in a window that is SHALLOW, want WARM for the bound
DARK carriers whose entry is not RETURNING (the follow-up for those without a WARM want) with reason DEEP_STOP, and
leave the phase of the entry. Nothing else of a bound carrier changes, and an unbound one keeps its entry and, without a
stack of its own, its reason and its want. The queue of minutes and the order of the parts are the model's reading (logs
5 and 6). -/
def Obligations.WindowActions : Prop :=
  ∀ (s t : State) (order : List MinutePart) (m : MinuteStamp) (ts : List MinuteStamp) (c : Carrier), s.Coherent →
    s.minutesDue = m :: ts → exec (.minuteEvent order) s = .next t →
    (let x := s.ctx c
     let y := t.ctx c
     let kept : Prop :=
       (∀ (k : Carrier) (e : Entry), e.carrier = c → (e ∈ t.stack k ↔ e ∈ s.stack k)) ∧
         (s.stack c = [] → y.lastReason = x.lastReason ∧ t.cluster.wantOf c = s.cluster.wantOf c)
     let stopped (k : Carrier) (e : Entry) : Prop :=
       { e with reason := .deepStop } ∈ t.stack k ∧ y.lastReason = some .deepStop ∧ y.dirty = true ∧
         t.cluster.wants c .warm = true
     (s.stack c = [] →
       y = { x with
         lastReason := y.lastReason, reserved := y.reserved, sleepsTonight := y.sleepsTonight
         deepenDeclined := y.deepenDeclined, lightMinutes := y.lightMinutes, darkMinutes := y.darkMinutes
         holdLeft := y.holdLeft, resleepLeft := y.resleepLeft, lightRun := y.lightRun, dirty := y.dirty }) ∧
     (∀ n : WindowNo, x.cfg.present = true → x.cfg.window = some n →
       (let w := s.window n
        (w.Closes m →
          y.reserved = false ∧ (∀ k : Carrier, ∀ e ∈ t.stack k, e.carrier = c → e.phase = .returning) ∧
          ∀ k : Carrier, ∀ e ∈ s.stack k, e.carrier = c →
            (e.phase = .returning → e ∈ t.stack k ∧ y.lastReason = x.lastReason) ∧
            (x.reserved = true →
              t.cluster.holdsEntry c = false ∧ t.cluster.wantOf c = none ∧ y.lastReason = some .windowClose ∧
              y.dirty = true ∧ (y.resleepLeft = x.cfg.resleepHold ∨ y.resleepLeft = x.cfg.resleepHold - 1)) ∧
            (e.phase ≠ .returning → x.reserved = false →
              { e with phase := .returning, reason := .windowClose } ∈ t.stack k ∧
              y.lastReason = some .windowClose ∧ y.dirty = true ∧
              (x.state = .light → t.cluster.wants c .raise = true) ∧
              (x.state = .dark → t.cluster.wants c .warm = true) ∧
              (x.state = .draining → s.cluster.wants c .shed = true ∨ s.cluster.wants c .lower = true →
                t.cluster.wants c .reopen = true))) ∧
        (w.Opens m →
          y.sleepsTonight = 0 ∧ y.deepenDeclined = false ∧ y.lightMinutes ≤ 1 ∧ y.darkMinutes ≤ 1) ∧
        (¬w.Opens m → y.sleepsTonight = x.sleepsTonight ∧ y.deepenDeclined = x.deepenDeclined) ∧
        (¬w.Closes m → y.reserved = x.reserved) ∧
        (¬w.Closes m → x.state = .dark → ∀ k : Carrier, ∀ e ∈ s.stack k, e.carrier = c → e.phase ≠ .returning →
          (w.Stops m → stopped k e) ∧
          (w.FollowsUp m → s.cluster.wants c .warm = false → stopped k e)) ∧
        (¬w.Closes m →
          ¬((w.Stops m ∨ (w.FollowsUp m ∧ s.cluster.wants c .warm = false)) ∧ x.state = .dark ∧
            s.cluster.isReturning c = false) → kept))) ∧
     ((x.cfg.present = true → ∀ n : WindowNo, x.cfg.window = some n → ¬(s.window n).Acts m) →
       kept ∧ y.reserved = x.reserved ∧ y.sleepsTonight = x.sleepsTonight ∧ y.deepenDeclined = x.deepenDeclined))

/-- The countdowns and the night accounting of a minute at which no window acts (sections 2.6 and 11.5), in whatever
order they are taken: none goes OPEN, SHUT or SHALLOW, and none is SHALLOW. In HALTED neither is made. The queue of
minutes and the order of the parts are the model's reading (logs 5 and 6), and so is the test for the end of RELEASING
that ends every minute event (log 26). -/
def Obligations.QuietMinute : Prop :=
  ∀ (s : State) (order : List MinutePart) (m : MinuteStamp) (ts : List MinuteStamp), s.minutesDue = m :: ts →
    (∀ n : WindowNo, ¬(s.window n).Acts m) →
    (let noted : BitVec 6 := Notice.minute.raiseIn s.cluster.note
     (s.runState = .halted →
       exec (.minuteEvent order) s =
         .next { s with minutesDue := ts, cluster := { s.cluster with note := noted } }) ∧
     (s.runState ≠ .halted →
       ∃ t, exec (.minuteEvent order) s = .next t ∧
         (∀ c : Carrier,
           (let x := s.ctx c
            let y := t.ctx c
            let light : Prop := x.state = .light ∨ x.state = .deepening
            let dark : Prop := x.state = .dark ∨ x.state = .warming
            (x.cfg.present = false → y = x) ∧
            (x.cfg.present = true →
              y = { x with
                holdLeft := if 1 ≤ x.holdLeft ∧ x.holdLeft ≤ 254 then x.holdLeft - 1 else x.holdLeft
                resleepLeft := if x.resleepLeft = 0 then 0 else x.resleepLeft - 1
                lightRun := if x.state = .light then min 255 (x.lightRun + 1) else x.lightRun
                lightMinutes := if light then min 65535 (x.lightMinutes + 1) else x.lightMinutes
                darkMinutes := if dark then min 65535 (x.darkMinutes + 1) else x.darkMinutes
                dirty := y.dirty } ∧
              (y.dirty = true ↔ x.dirty = true ∨ y.holdLeft ≠ x.holdLeft ∨ y.resleepLeft ≠ x.resleepLeft ∨
                y.lightMinutes ≠ x.lightMinutes ∨ y.darkMinutes ≠ x.darkMinutes)))) ∧
         t.fleetTally = min 4294967295 (s.fleetTally + ((List.finRange 256).map fun c =>
           let x := s.ctx c
           if x.cfg.present = false then 0
           else if x.state = .light ∨ x.state = .deepening then x.cfg.lightSaving
           else if x.state = .dark ∨ x.state = .warming then x.cfg.darkSaving
           else 0).sum) ∧
         t = { s with
           minutesDue := ts
           fleetTally := t.fleetTally
           runState := s.runAfter s.cluster
           cluster := { s.cluster with contexts := t.cluster.contexts, note := noted } }))

/-! ## Directives -/

/-- The directives that read no selector, and the rejected ones (sections 10.1 to 10.6): SET_CLOCK in range and out of
range, CLEAR_TALLY, a kind that names none of the eight, SLEEP_NOW outside RUNNING, and LOAD_POLICY with the windows it
leaves and, in a coherent state, the CLOSE effects on the carriers bound to an OPEN or SHALLOW window that it disables
(section 9.5): the entry RETURNING with reason WINDOW_CLOSE and the want of section 2.4, or the reservation cancelled.
That they act on the stacks, of which section 5.2 says that LOAD_POLICY leaves them as they are, is the model's choice
(log 38), and so is that the reload leaves the tick divider running (log 36). Each leaves its outcome in the queue, and
the next slot follows, or the end of the intake after slot 31 (section 1.5). That a command acts when such a directive
waits, and that the tables read are held until then, is the model's choice (logs 3, 7 and 12); that the run state is
judged for SLEEP_NOW as its execution begins is too (log 28), and so is the test for the end of RELEASING at LOAD_POLICY
(log 26). -/
def Obligations.DirectivesWithoutSelector : Prop :=
  ∀ (s : State) (p : Pass) (d : DirectiveRun), d.affected = 0 → d.skipped = 0 →
    (let b (i : Nat) : Nat := byteAt d.params i
     let inRange : Prop := b 0 ≤ 59 ∧ b 1 ≤ 59 ∧ b 2 ≤ 23 ∧ b 3 ≤ 6
     let ends (command : Instr) (u : State) (code : OutcomeCode) : Prop :=
       ∃ t, exec command s = .next t ∧ u.Concluded t p d 0 0 code
     (s.Executing p d (some .setClock) →
       (inRange → ends .setClock
         { s with
           clock := { seconds := b 0, minutes := b 1, hours := b 2, weekday := b 3, day := b 4 + 256 * b 5, sub := 0,
                      valid := true } } .ok) ∧
       (¬inRange → ends .setClock s .rejParam)) ∧
     (s.Executing p d (some .clearTally) →
       ∃ u : State, (∀ c : Carrier, u.ctx c = { s.ctx c with
           lightMinutes := 0
           darkMinutes := 0
           dirty := (s.ctx c).dirty || decide ((s.ctx c).lightMinutes ≠ 0 ∨ (s.ctx c).darkMinutes ≠ 0) }) ∧
         u = { s with fleetTally := 0, cluster := { s.cluster with contexts := u.cluster.contexts } } ∧
         ends .clearTally u .ok) ∧
     (s.Executing p d none → ends .directiveUnknownKind s .rejKind) ∧
     (s.Executing p d (some .sleepNow) → d.begun = false → s.runState ≠ .running →
       ∀ n : Nat, ends (.sleepNow n) s .rejRun) ∧
     ∀ (q : Policy) (ws : Vector WindowEntry 8), s.Executing p d (some .loadPolicy) → d.policy = some (q, ws) →
       ∀ order : List WindowNo, ∃ u : State, ends (.loadPolicy order) u .ok ∧
         (∀ n : WindowNo, u.window n =
           { entry := ws[n]
             phase :=
               if (s.window n).entry.enabled = true ∧ ws[n].enabled = true then (s.window n).phase else .closed }) ∧
         u = { s with
           policy := q
           timer := { s.timer with prescaler := 0, downCount := q.reload }
           windows := u.windows
           runState := s.runAfter u.cluster
           cluster :=
             { s.cluster with
               contexts := u.cluster.contexts, coverStacks := u.cluster.coverStacks, lanes := u.cluster.lanes } } ∧
         (let noted (c : Carrier) : Context := { s.ctx c with lastReason := some .windowClose, dirty := true }
          let closing (c : Carrier) : Prop :=
            (s.ctx c).cfg.present = true ∧ ∃ n : WindowNo, (s.ctx c).cfg.window = some n ∧
              (s.window n).entry.enabled = true ∧ (s.window n).phase ≠ .closed ∧ ws[n].enabled = false
          ((∀ c : Carrier, ¬closing c) → u.cluster = s.cluster) ∧
          (s.Coherent → ∀ c : Carrier,
            (closing c →
              (u.ctx c).reserved = false ∧ (∀ k : Carrier, ∀ e ∈ u.stack k, e.carrier = c → e.phase = .returning) ∧
              ∀ k : Carrier, ∀ e ∈ s.stack k, e.carrier = c →
                (e.phase = .returning → e ∈ u.stack k ∧ u.ctx c = s.ctx c ∧ u.cluster.wantOf c = s.cluster.wantOf c) ∧
                ((s.ctx c).reserved = true →
                  u.ctx c = { noted c with reserved := false, resleepLeft := (s.ctx c).cfg.resleepHold } ∧
                    u.cluster.holdsEntry c = false ∧ u.cluster.wantOf c = none) ∧
                (e.phase ≠ .returning → (s.ctx c).reserved = false →
                  { e with phase := .returning, reason := .windowClose } ∈ u.stack k ∧ u.ctx c = noted c ∧
                  ((s.ctx c).state = .light → u.cluster.wants c .raise = true) ∧
                  ((s.ctx c).state = .dark → u.cluster.wants c .warm = true) ∧
                  ((s.ctx c).state = .draining → s.cluster.wants c .shed = true ∨ s.cluster.wants c .lower = true →
                    u.cluster.wants c .reopen = true))) ∧
            (¬closing c →
              (∀ (k : Carrier) (e : Entry), e.carrier = c → (e ∈ u.stack k ↔ e ∈ s.stack k)) ∧
                (s.stack c = [] → u.ctx c = s.ctx c ∧ u.cluster.wantOf c = s.cluster.wantOf c)))))

/-- LOAD_CARRIERS at one carrier c (sections 2.1, 2.2 and 10.2): a carrier that may take no row is skipped without a
read, or its row discarded; otherwise the row is read, and then applied; a row not present ends the carrier's query in
its PROBE record (section 10.5). That a command goes over as many carrier numbers as it says is the model's choice (log
11). That a row is one read, held until the directive's next command, is the model's choice too (logs 9 and 12), and so
is the test for the end of RELEASING after each command (log 26). -/
def Obligations.LoadCarriersRow : Prop :=
  ∀ (s : State) (p : Pass) (d : DirectiveRun) (c : Carrier), s.Executing p d (some .loadCarriers) → d.position = c.val →
    (let x := s.ctx c
     let may : Prop := s.stack c = [] ∧
       (x.state = .unmanaged ∨ x.state = .unknown ∨ x.state = .faulted ∨ (x.state = .serving ∧ x.reserved = false))
     let done (a k : Nat) : DirectiveRun :=
       { d with begun := true, position := c.val + 1, affected := d.affected + a, skipped := d.skipped + k, row := none }
     let fresh : Context := { State.reset.ctx c with dirty := true, edition := x.edition }
     let steps (a k : Nat) (v : Cluster) : Prop := ∃ t, exec (.loadCarriers 1) s = .next t ∧ s.Stepped t p (done a k) v
     let becomes (v : Cluster) (y : Context) : Prop := v.ctx c = y ∧ ∀ e : Carrier, e ≠ c → v.ctx e = s.ctx e
     (d.row = none →
       (¬d.selects c x.state = true → steps 0 0 s.cluster) ∧
       (d.selects c x.state = true → ¬may → steps 0 1 s.cluster) ∧
       (d.selects c x.state = true → may →
         exec (.loadCarriers 1) s = .next (({ s with runState := s.runAfter s.cluster }).issued p
           (.intake (some { d with begun := true })) false (0x0800 + 32 * c.val) 32 [] (.directiveRow d.slot c)))) ∧
     ∀ row : CarrierRow, d.row = some row →
       (¬may ∨ (row.present = true ∧ row.capacityOk = false) → steps 0 1 s.cluster) ∧
       (may → row.present = true → row.capacityOk = true → x.state ≠ .unmanaged →
         ∃ v : Cluster, becomes v { x with cfg := row.cfg, dirty := x.dirty || decide (row.cfg.cover ≠ x.cfg.cover) } ∧
           v = { s.cluster with contexts := v.contexts } ∧ steps 1 0 v) ∧
       (may → row.present = true → row.capacityOk = true → x.state = .unmanaged → s.cluster.Unasked c →
         ∃ v : Cluster, becomes v { fresh with cfg := row.cfg, state := .unknown } ∧
           v.lane (siteOf c) = (s.lane (siteOf c)).joined c .query 0 1 ∧
           (∀ j : Site, j ≠ siteOf c → v.lane j = s.lane j) ∧
           v = { s.cluster with contexts := v.contexts, lanes := v.lanes } ∧ steps 1 0 v) ∧
       (may → row.present = false → x.state = .unmanaged → steps 1 0 s.cluster) ∧
       (may → row.present = false → x.state ≠ .unmanaged →
         ∃ v : Cluster, steps 1 0 v ∧
           becomes v { fresh with cfg := { x.cfg with present := false, cover := none, window := none } } ∧
           s.cluster.QueryEnded v c false ∧
           v.lane (siteOf c) = { s.lane (siteOf c) with
             queue := (s.lane (siteOf c)).queue.filter fun y => y.carrier != c
             outstanding := if s.cluster.isOutstanding c = true then none else (s.lane (siteOf c)).outstanding } ∧
           v.channel (siteOf c) =
             (if s.cluster.isOutstanding c = true then (s.channel (siteOf c)).retired else s.channel (siteOf c)) ∧
           (∀ j : Site, j ≠ siteOf c → v.lane j = s.lane j ∧ v.channel j = s.channel j) ∧
           v = { s.cluster with
             contexts := v.contexts, lanes := v.lanes, channels := v.channels, probes := v.probes, outcomes := v.outcomes }))

/-- HOLD_ON at one carrier c: its hold is set, and a wake request with reason OPERATOR follows; and RELEASE_HOLD as a
whole, with its outcome and its two counts (section 10.3). That a command takes as many carrier numbers as it says is
the model's choice (log 11), and so is the test for the end of RELEASING after each command (log 26). -/
def Obligations.HoldDirectives : Prop :=
  ∀ (s : State) (p : Pass) (d : DirectiveRun),
    (∀ c : Carrier, s.Executing p d (some .holdOn) → d.position = c.val →
      (let x := s.ctx c
       let m := if d.param 0 = 0 then 1 else d.param 0
       let done (a k : Nat) : DirectiveRun :=
         { d with begun := true, position := c.val + 1, affected := d.affected + a, skipped := d.skipped + k }
       let steps (a k : Nat) (v : Cluster) : Prop := ∃ t, exec (.holdOn 1) s = .next t ∧ s.Stepped t p (done a k) v
       (¬d.selects c x.state = true → steps 0 0 s.cluster) ∧
       (d.selects c x.state = true → x.state = .unmanaged → steps 0 1 s.cluster) ∧
       (d.selects c x.state = true → x.state ≠ .unmanaged →
         ∃ held : Cluster, held.ctx c = { x with holdLeft := m, dirty := x.dirty || decide (x.holdLeft ≠ m) } ∧
           (∀ e : Carrier, e ≠ c → held.ctx e = s.ctx e) ∧ held = { s.cluster with contexts := held.contexts } ∧
           steps 1 0 (held.wakeRequest c .operator)))) ∧
    (s.Executing p d (some .releaseHold) → d.position = 0 → d.affected = 0 → d.skipped = 0 →
      ∃ t u : State, exec (.releaseHold 256) s = .next t ∧
        (let taken (c : Carrier) : Bool := d.selects c (s.ctx c).state && decide ((s.ctx c).state ≠ .unmanaged)
         let passed (c : Carrier) : Bool := d.selects c (s.ctx c).state && decide ((s.ctx c).state = .unmanaged)
         (∀ c : Carrier, u.ctx c =
           if taken c = true then
             { s.ctx c with holdLeft := 0, dirty := (s.ctx c).dirty || decide ((s.ctx c).holdLeft ≠ 0) }
           else s.ctx c) ∧
         u = { s with
           runState := s.runAfter s.cluster, cluster := { s.cluster with contexts := u.cluster.contexts } } ∧
         u.Concluded t p d ((List.finRange 256).countP taken) ((List.finRange 256).countP passed) .ok))

/-- PROBE (sections 2.3 and 10.5): its record is placed at the beginning; each selected carrier c is taken up or
skipped; when all have been taken the record's selection is done, and a record without members ends at once with an
outcome. That a command takes as many carrier numbers as it says is the model's choice (log 11). -/
def Obligations.ProbeCarrier : Prop :=
  ∀ (s : State) (p : Pass) (d : DirectiveRun), s.Executing p d (some .probe) →
    (let record : ProbeRecord := { slot := d.slot, members := [], selectionDone := false, affected := 0, skipped := 0 }
     let probes (f : ProbeRecord → ProbeRecord) : List ProbeRecord :=
       s.cluster.probes.map fun r => if r.slot = d.slot then f r else r
     (d.begun = false → ∀ n : Nat, exec (.probe n) s = exec (.probe n)
       { s.goingOn p { d with begun := true } with
         cluster := { s.cluster with probes := (s.cluster.probes.filter fun r => r.slot != d.slot) ++ [record] } }) ∧
     ∀ c : Carrier, d.begun = true → d.position = c.val →
       (let x := s.ctx c
        let steps (a k : Nat) (v : Cluster) : Prop := ∃ t, exec (.probe 1) s = .next t ∧
          s.ProbeStepped t p { d with position := c.val + 1, affected := d.affected + a, skipped := d.skipped + k } v
        let taken (y : Context) (lane : Lane) : Prop :=
          ∃ v : Cluster, steps 1 0 v ∧ v.ctx c = y ∧ (∀ e : Carrier, e ≠ c → v.ctx e = s.ctx e) ∧
            v.lane (siteOf c) = lane ∧ (∀ j : Site, j ≠ siteOf c → v.lane j = s.lane j) ∧
            v = { s.cluster with
              contexts := v.contexts
              lanes := v.lanes
              probes := probes fun r => { r with members := r.members ++ [c] } }
        let asked : Lane := (s.lane (siteOf c)).joined c .query 0 1
        let unknown (o : ProbeOrigin) (cls : LoadClass) : Context :=
          { x with state := .unknown, cls, probeOrigin := some o, sleepCount := 0, wakeCount := 0, dirty := true }
        let serves : Prop := x.state = .serving ∧ x.reserved = false ∧ s.stack c = [] ∧ s.cluster.Unasked c
        let waits : Prop := x.state = .unknown ∧ x.probeOrigin = none
        let faulted : Prop := x.state = .faulted ∧ s.stack c = []
        (¬d.selects c x.state = true → steps 0 0 s.cluster) ∧
        (d.selects c x.state = true →
          (serves → taken (unknown .serving x.cls) asked) ∧
          (waits → taken { x with probeOrigin := some .unknown } (s.lane (siteOf c))) ∧
          (faulted → s.cluster.Unasked c → taken (unknown .faulted .absent) asked) ∧
          (¬serves → ¬waits → ¬faulted →
            steps 0 1 { s.cluster with probes := probes fun r => { r with skipped := r.skipped + 1 } }))))
end

