-- ==== Sys2Proof/Laws/State.lean ====
section
/-! SUPPORT. One lemma per field per update, so that no later proof unfolds a record update: the writes of the cluster against its
reads, and the writes of the state against its fields. -/

namespace Sys2Proof.Machine

/-! ## Writes of the cluster against its reads -/

theorem Cluster.ctx_setCtx (w : Cluster) (c d : Carrier) (x : Context) :
    (w.setCtx c x).ctx d = if c = d then x else w.ctx d := by
  simp [Cluster.setCtx, Cluster.ctx, Vector.getElem_set, Fin.ext_iff]

@[simp] theorem Cluster.ctx_setCtx_self (w : Cluster) (c : Carrier) (x : Context) : (w.setCtx c x).ctx c = x := by
  simp [Cluster.ctx_setCtx]

theorem Cluster.ctx_setCtx_ne (w : Cluster) {c d : Carrier} (h : c ≠ d) (x : Context) :
    (w.setCtx c x).ctx d = w.ctx d := by simp [Cluster.ctx_setCtx, h]

theorem Cluster.stack_setStack (w : Cluster) (c d : Carrier) (es : List Entry) :
    (w.setStack c es).stack d = if c = d then es else w.stack d := by
  simp [Cluster.setStack, Cluster.stack, Vector.getElem_set, Fin.ext_iff]

@[simp] theorem Cluster.stack_setStack_self (w : Cluster) (c : Carrier) (es : List Entry) :
    (w.setStack c es).stack c = es := by simp [Cluster.stack_setStack]

theorem Cluster.stack_setStack_ne (w : Cluster) {c d : Carrier} (h : c ≠ d) (es : List Entry) :
    (w.setStack c es).stack d = w.stack d := by simp [Cluster.stack_setStack, h]

theorem Cluster.lane_setLane (w : Cluster) (i j : Site) (l : Lane) :
    (w.setLane i l).lane j = if i = j then l else w.lane j := by
  simp [Cluster.setLane, Cluster.lane, Vector.getElem_set, Fin.ext_iff]

@[simp] theorem Cluster.lane_setLane_self (w : Cluster) (i : Site) (l : Lane) : (w.setLane i l).lane i = l := by
  simp [Cluster.lane_setLane]

theorem Cluster.lane_setLane_ne (w : Cluster) {i j : Site} (h : i ≠ j) (l : Lane) :
    (w.setLane i l).lane j = w.lane j := by simp [Cluster.lane_setLane, h]

theorem Cluster.channel_setChannel (w : Cluster) (i j : Site) (h : Channel) :
    (w.setChannel i h).channel j = if i = j then h else w.channel j := by
  simp [Cluster.setChannel, Cluster.channel, Vector.getElem_set, Fin.ext_iff]

@[simp] theorem Cluster.channel_setChannel_self (w : Cluster) (i : Site) (h : Channel) :
    (w.setChannel i h).channel i = h := by simp [Cluster.channel_setChannel]

theorem Cluster.channel_setChannel_ne (w : Cluster) {i j : Site} (hij : i ≠ j) (h : Channel) :
    (w.setChannel i h).channel j = w.channel j := by simp [Cluster.channel_setChannel, hij]

@[simp] theorem Cluster.stack_setCtx (w : Cluster) (c : Carrier) (x : Context) (d : Carrier) :
    (w.setCtx c x).stack d = w.stack d := rfl

@[simp] theorem Cluster.lane_setCtx (w : Cluster) (c : Carrier) (x : Context) (j : Site) :
    (w.setCtx c x).lane j = w.lane j := rfl

@[simp] theorem Cluster.channel_setCtx (w : Cluster) (c : Carrier) (x : Context) (j : Site) :
    (w.setCtx c x).channel j = w.channel j := rfl

@[simp] theorem Cluster.note_setCtx (w : Cluster) (c : Carrier) (x : Context) :
    (w.setCtx c x).note = w.note := rfl

@[simp] theorem Cluster.probes_setCtx (w : Cluster) (c : Carrier) (x : Context) :
    (w.setCtx c x).probes = w.probes := rfl

@[simp] theorem Cluster.outcomes_setCtx (w : Cluster) (c : Carrier) (x : Context) :
    (w.setCtx c x).outcomes = w.outcomes := rfl

@[simp] theorem Cluster.stack_editCtx (w : Cluster) (c : Carrier) (f : Context → Context) (d : Carrier) :
    (w.editCtx c f).stack d = w.stack d := rfl

@[simp] theorem Cluster.lane_editCtx (w : Cluster) (c : Carrier) (f : Context → Context) (j : Site) :
    (w.editCtx c f).lane j = w.lane j := rfl

@[simp] theorem Cluster.channel_editCtx (w : Cluster) (c : Carrier) (f : Context → Context) (j : Site) :
    (w.editCtx c f).channel j = w.channel j := rfl

@[simp] theorem Cluster.note_editCtx (w : Cluster) (c : Carrier) (f : Context → Context) :
    (w.editCtx c f).note = w.note := rfl

@[simp] theorem Cluster.probes_editCtx (w : Cluster) (c : Carrier) (f : Context → Context) :
    (w.editCtx c f).probes = w.probes := rfl

@[simp] theorem Cluster.outcomes_editCtx (w : Cluster) (c : Carrier) (f : Context → Context) :
    (w.editCtx c f).outcomes = w.outcomes := rfl

@[simp] theorem Cluster.stack_markDirty (w : Cluster) (c : Carrier) (d : Carrier) :
    (w.markDirty c).stack d = w.stack d := rfl

@[simp] theorem Cluster.lane_markDirty (w : Cluster) (c : Carrier) (j : Site) :
    (w.markDirty c).lane j = w.lane j := rfl

@[simp] theorem Cluster.channel_markDirty (w : Cluster) (c : Carrier) (j : Site) :
    (w.markDirty c).channel j = w.channel j := rfl

@[simp] theorem Cluster.note_markDirty (w : Cluster) (c : Carrier) :
    (w.markDirty c).note = w.note := rfl

@[simp] theorem Cluster.probes_markDirty (w : Cluster) (c : Carrier) :
    (w.markDirty c).probes = w.probes := rfl

@[simp] theorem Cluster.outcomes_markDirty (w : Cluster) (c : Carrier) :
    (w.markDirty c).outcomes = w.outcomes := rfl

@[simp] theorem Cluster.stack_editAll (w : Cluster) (f : Context → Context) (d : Carrier) :
    (w.editAll f).stack d = w.stack d := rfl

@[simp] theorem Cluster.lane_editAll (w : Cluster) (f : Context → Context) (j : Site) :
    (w.editAll f).lane j = w.lane j := rfl

@[simp] theorem Cluster.channel_editAll (w : Cluster) (f : Context → Context) (j : Site) :
    (w.editAll f).channel j = w.channel j := rfl

@[simp] theorem Cluster.note_editAll (w : Cluster) (f : Context → Context) :
    (w.editAll f).note = w.note := rfl

@[simp] theorem Cluster.probes_editAll (w : Cluster) (f : Context → Context) :
    (w.editAll f).probes = w.probes := rfl

@[simp] theorem Cluster.outcomes_editAll (w : Cluster) (f : Context → Context) :
    (w.editAll f).outcomes = w.outcomes := rfl

@[simp] theorem Cluster.stack_markAllDirty (w : Cluster) (d : Carrier) :
    (w.markAllDirty).stack d = w.stack d := rfl

@[simp] theorem Cluster.lane_markAllDirty (w : Cluster) (j : Site) :
    (w.markAllDirty).lane j = w.lane j := rfl

@[simp] theorem Cluster.channel_markAllDirty (w : Cluster) (j : Site) :
    (w.markAllDirty).channel j = w.channel j := rfl

@[simp] theorem Cluster.note_markAllDirty (w : Cluster) :
    (w.markAllDirty).note = w.note := rfl

@[simp] theorem Cluster.probes_markAllDirty (w : Cluster) :
    (w.markAllDirty).probes = w.probes := rfl

@[simp] theorem Cluster.outcomes_markAllDirty (w : Cluster) :
    (w.markAllDirty).outcomes = w.outcomes := rfl

@[simp] theorem Cluster.ctx_setStack (w : Cluster) (c : Carrier) (es : List Entry) (d : Carrier) :
    (w.setStack c es).ctx d = w.ctx d := rfl

@[simp] theorem Cluster.lane_setStack (w : Cluster) (c : Carrier) (es : List Entry) (j : Site) :
    (w.setStack c es).lane j = w.lane j := rfl

@[simp] theorem Cluster.channel_setStack (w : Cluster) (c : Carrier) (es : List Entry) (j : Site) :
    (w.setStack c es).channel j = w.channel j := rfl

@[simp] theorem Cluster.note_setStack (w : Cluster) (c : Carrier) (es : List Entry) :
    (w.setStack c es).note = w.note := rfl

@[simp] theorem Cluster.probes_setStack (w : Cluster) (c : Carrier) (es : List Entry) :
    (w.setStack c es).probes = w.probes := rfl

@[simp] theorem Cluster.outcomes_setStack (w : Cluster) (c : Carrier) (es : List Entry) :
    (w.setStack c es).outcomes = w.outcomes := rfl

@[simp] theorem Cluster.ctx_setLane (w : Cluster) (i : Site) (l : Lane) (d : Carrier) :
    (w.setLane i l).ctx d = w.ctx d := rfl

@[simp] theorem Cluster.stack_setLane (w : Cluster) (i : Site) (l : Lane) (d : Carrier) :
    (w.setLane i l).stack d = w.stack d := rfl

@[simp] theorem Cluster.channel_setLane (w : Cluster) (i : Site) (l : Lane) (j : Site) :
    (w.setLane i l).channel j = w.channel j := rfl

@[simp] theorem Cluster.note_setLane (w : Cluster) (i : Site) (l : Lane) :
    (w.setLane i l).note = w.note := rfl

@[simp] theorem Cluster.probes_setLane (w : Cluster) (i : Site) (l : Lane) :
    (w.setLane i l).probes = w.probes := rfl

@[simp] theorem Cluster.outcomes_setLane (w : Cluster) (i : Site) (l : Lane) :
    (w.setLane i l).outcomes = w.outcomes := rfl

@[simp] theorem Cluster.ctx_setChannel (w : Cluster) (i : Site) (h : Channel) (d : Carrier) :
    (w.setChannel i h).ctx d = w.ctx d := rfl

@[simp] theorem Cluster.stack_setChannel (w : Cluster) (i : Site) (h : Channel) (d : Carrier) :
    (w.setChannel i h).stack d = w.stack d := rfl

@[simp] theorem Cluster.lane_setChannel (w : Cluster) (i : Site) (h : Channel) (j : Site) :
    (w.setChannel i h).lane j = w.lane j := rfl

@[simp] theorem Cluster.note_setChannel (w : Cluster) (i : Site) (h : Channel) :
    (w.setChannel i h).note = w.note := rfl

@[simp] theorem Cluster.probes_setChannel (w : Cluster) (i : Site) (h : Channel) :
    (w.setChannel i h).probes = w.probes := rfl

@[simp] theorem Cluster.outcomes_setChannel (w : Cluster) (i : Site) (h : Channel) :
    (w.setChannel i h).outcomes = w.outcomes := rfl

@[simp] theorem Cluster.ctx_notify (w : Cluster) (n : Notice) (d : Carrier) :
    (w.notify n).ctx d = w.ctx d := rfl

@[simp] theorem Cluster.stack_notify (w : Cluster) (n : Notice) (d : Carrier) :
    (w.notify n).stack d = w.stack d := rfl

@[simp] theorem Cluster.lane_notify (w : Cluster) (n : Notice) (j : Site) :
    (w.notify n).lane j = w.lane j := rfl

@[simp] theorem Cluster.channel_notify (w : Cluster) (n : Notice) (j : Site) :
    (w.notify n).channel j = w.channel j := rfl

@[simp] theorem Cluster.probes_notify (w : Cluster) (n : Notice) :
    (w.notify n).probes = w.probes := rfl

@[simp] theorem Cluster.outcomes_notify (w : Cluster) (n : Notice) :
    (w.notify n).outcomes = w.outcomes := rfl

@[simp] theorem Cluster.ctx_outcomeJoins (w : Cluster) (o : DirectiveOutcome) (d : Carrier) :
    (w.outcomeJoins o).ctx d = w.ctx d := rfl

@[simp] theorem Cluster.stack_outcomeJoins (w : Cluster) (o : DirectiveOutcome) (d : Carrier) :
    (w.outcomeJoins o).stack d = w.stack d := rfl

@[simp] theorem Cluster.lane_outcomeJoins (w : Cluster) (o : DirectiveOutcome) (j : Site) :
    (w.outcomeJoins o).lane j = w.lane j := rfl

@[simp] theorem Cluster.channel_outcomeJoins (w : Cluster) (o : DirectiveOutcome) (j : Site) :
    (w.outcomeJoins o).channel j = w.channel j := rfl

@[simp] theorem Cluster.note_outcomeJoins (w : Cluster) (o : DirectiveOutcome) :
    (w.outcomeJoins o).note = w.note := rfl

@[simp] theorem Cluster.probes_outcomeJoins (w : Cluster) (o : DirectiveOutcome) :
    (w.outcomeJoins o).probes = w.probes := rfl

@[simp] theorem Cluster.ctx_outcomeLeaves (w : Cluster) (n : Slot) (d : Carrier) :
    (w.outcomeLeaves n).ctx d = w.ctx d := rfl

@[simp] theorem Cluster.stack_outcomeLeaves (w : Cluster) (n : Slot) (d : Carrier) :
    (w.outcomeLeaves n).stack d = w.stack d := rfl

@[simp] theorem Cluster.lane_outcomeLeaves (w : Cluster) (n : Slot) (j : Site) :
    (w.outcomeLeaves n).lane j = w.lane j := rfl

@[simp] theorem Cluster.channel_outcomeLeaves (w : Cluster) (n : Slot) (j : Site) :
    (w.outcomeLeaves n).channel j = w.channel j := rfl

@[simp] theorem Cluster.note_outcomeLeaves (w : Cluster) (n : Slot) :
    (w.outcomeLeaves n).note = w.note := rfl

@[simp] theorem Cluster.probes_outcomeLeaves (w : Cluster) (n : Slot) :
    (w.outcomeLeaves n).probes = w.probes := rfl

/-! ## Edits of contexts -/

theorem Cluster.ctx_editCtx (w : Cluster) (c d : Carrier) (f : Context → Context) :
    (w.editCtx c f).ctx d = if c = d then (w.ctx c).edit f else w.ctx d := by
  simp [Cluster.editCtx, Cluster.ctx_setCtx]

@[simp] theorem Cluster.ctx_editCtx_self (w : Cluster) (c : Carrier) (f : Context → Context) :
    (w.editCtx c f).ctx c = (w.ctx c).edit f := by simp [Cluster.ctx_editCtx]

theorem Cluster.ctx_editCtx_ne (w : Cluster) {c d : Carrier} (h : c ≠ d) (f : Context → Context) :
    (w.editCtx c f).ctx d = w.ctx d := by simp [Cluster.ctx_editCtx, h]

theorem Cluster.ctx_markDirty (w : Cluster) (c d : Carrier) :
    (w.markDirty c).ctx d = if c = d then { w.ctx c with dirty := true } else w.ctx d := by
  simp [Cluster.markDirty, Cluster.ctx_setCtx]

@[simp] theorem Cluster.ctx_editAll (w : Cluster) (f : Context → Context) (c : Carrier) :
    (w.editAll f).ctx c = (w.ctx c).edit f := by simp [Cluster.editAll, Cluster.ctx]

@[simp] theorem Cluster.ctx_markAllDirty (w : Cluster) (c : Carrier) :
    w.markAllDirty.ctx c = { w.ctx c with dirty := true } := by simp [Cluster.markAllDirty, Cluster.ctx]

@[simp] theorem Cluster.note_notify (w : Cluster) (n : Notice) : (w.notify n).note = n.raiseIn w.note := rfl

@[simp] theorem Cluster.outcomes_outcomeJoins (w : Cluster) (o : DirectiveOutcome) :
    (w.outcomeJoins o).outcomes = joinOutcome o w.outcomes := rfl

@[simp] theorem Cluster.outcomes_outcomeLeaves (w : Cluster) (n : Slot) :
    (w.outcomeLeaves n).outcomes = dropOutcome n w.outcomes := rfl

@[simp] theorem Context.cfg_edit (g : Context → Context) (x : Context) : (x.edit g).cfg = (g x).cfg := rfl

@[simp] theorem Context.state_edit (g : Context → Context) (x : Context) : (x.edit g).state = (g x).state := rfl

@[simp] theorem Context.cls_edit (g : Context → Context) (x : Context) : (x.edit g).cls = (g x).cls := rfl

@[simp] theorem Context.load_edit (g : Context → Context) (x : Context) : (x.edit g).load = (g x).load := rfl

@[simp] theorem Context.age_edit (g : Context → Context) (x : Context) : (x.edit g).age = (g x).age := rfl

@[simp] theorem Context.lastStamp_edit (g : Context → Context) (x : Context) : (x.edit g).lastStamp = (g x).lastStamp := rfl

@[simp] theorem Context.lastUsers_edit (g : Context → Context) (x : Context) : (x.edit g).lastUsers = (g x).lastUsers := rfl

@[simp] theorem Context.sleepCount_edit (g : Context → Context) (x : Context) : (x.edit g).sleepCount = (g x).sleepCount := rfl

@[simp] theorem Context.wakeCount_edit (g : Context → Context) (x : Context) : (x.edit g).wakeCount = (g x).wakeCount := rfl

@[simp] theorem Context.sleepsTonight_edit (g : Context → Context) (x : Context) : (x.edit g).sleepsTonight = (g x).sleepsTonight := rfl

@[simp] theorem Context.lightMinutes_edit (g : Context → Context) (x : Context) : (x.edit g).lightMinutes = (g x).lightMinutes := rfl

@[simp] theorem Context.darkMinutes_edit (g : Context → Context) (x : Context) : (x.edit g).darkMinutes = (g x).darkMinutes := rfl

@[simp] theorem Context.lightRun_edit (g : Context → Context) (x : Context) : (x.edit g).lightRun = (g x).lightRun := rfl

@[simp] theorem Context.holdLeft_edit (g : Context → Context) (x : Context) : (x.edit g).holdLeft = (g x).holdLeft := rfl

@[simp] theorem Context.resleepLeft_edit (g : Context → Context) (x : Context) : (x.edit g).resleepLeft = (g x).resleepLeft := rfl

@[simp] theorem Context.cause_edit (g : Context → Context) (x : Context) : (x.edit g).cause = (g x).cause := rfl

@[simp] theorem Context.reserved_edit (g : Context → Context) (x : Context) : (x.edit g).reserved = (g x).reserved := rfl

@[simp] theorem Context.strayStep_edit (g : Context → Context) (x : Context) : (x.edit g).strayStep = (g x).strayStep := rfl

@[simp] theorem Context.probeOrigin_edit (g : Context → Context) (x : Context) : (x.edit g).probeOrigin = (g x).probeOrigin := rfl

@[simp] theorem Context.deepenDeclined_edit (g : Context → Context) (x : Context) : (x.edit g).deepenDeclined = (g x).deepenDeclined := rfl

@[simp] theorem Context.unorderedNow_edit (g : Context → Context) (x : Context) : (x.edit g).unorderedNow = (g x).unorderedNow := rfl

@[simp] theorem Context.overflowSeen_edit (g : Context → Context) (x : Context) : (x.edit g).overflowSeen = (g x).overflowSeen := rfl

@[simp] theorem Context.lastReason_edit (g : Context → Context) (x : Context) : (x.edit g).lastReason = (g x).lastReason := rfl

@[simp] theorem Context.lastRefusal_edit (g : Context → Context) (x : Context) : (x.edit g).lastRefusal = (g x).lastRefusal := rfl

@[simp] theorem Context.edition_edit (g : Context → Context) (x : Context) : (x.edit g).edition = (g x).edition := rfl

theorem Context.dirty_edit (g : Context → Context) (x : Context) :
    (x.edit g).dirty = ((g x).dirty || decide ((g x).view ≠ x.view)) := rfl

/-- Entering a state touches only the state, the dwell counts, the light run, the probe origin and the stray step (R26). -/
@[simp] theorem Context.state_enter (st : CarrierState) (x : Context) : (x.enter st).state = st := rfl

@[simp] theorem Context.sleepCount_enter (st : CarrierState) (x : Context) : (x.enter st).sleepCount = 0 := rfl

@[simp] theorem Context.wakeCount_enter (st : CarrierState) (x : Context) : (x.enter st).wakeCount = 0 := rfl

@[simp] theorem Context.cfg_enter (st : CarrierState) (x : Context) : (x.enter st).cfg = x.cfg := rfl

@[simp] theorem Context.cls_enter (st : CarrierState) (x : Context) : (x.enter st).cls = x.cls := rfl

@[simp] theorem Context.load_enter (st : CarrierState) (x : Context) : (x.enter st).load = x.load := rfl

@[simp] theorem Context.age_enter (st : CarrierState) (x : Context) : (x.enter st).age = x.age := rfl

@[simp] theorem Context.lastStamp_enter (st : CarrierState) (x : Context) : (x.enter st).lastStamp = x.lastStamp := rfl

@[simp] theorem Context.lastUsers_enter (st : CarrierState) (x : Context) : (x.enter st).lastUsers = x.lastUsers := rfl

@[simp] theorem Context.sleepsTonight_enter (st : CarrierState) (x : Context) : (x.enter st).sleepsTonight = x.sleepsTonight := rfl

@[simp] theorem Context.lightMinutes_enter (st : CarrierState) (x : Context) : (x.enter st).lightMinutes = x.lightMinutes := rfl

@[simp] theorem Context.darkMinutes_enter (st : CarrierState) (x : Context) : (x.enter st).darkMinutes = x.darkMinutes := rfl

@[simp] theorem Context.holdLeft_enter (st : CarrierState) (x : Context) : (x.enter st).holdLeft = x.holdLeft := rfl

@[simp] theorem Context.resleepLeft_enter (st : CarrierState) (x : Context) : (x.enter st).resleepLeft = x.resleepLeft := rfl

@[simp] theorem Context.cause_enter (st : CarrierState) (x : Context) : (x.enter st).cause = x.cause := rfl

@[simp] theorem Context.reserved_enter (st : CarrierState) (x : Context) : (x.enter st).reserved = x.reserved := rfl

@[simp] theorem Context.deepenDeclined_enter (st : CarrierState) (x : Context) : (x.enter st).deepenDeclined = x.deepenDeclined := rfl

@[simp] theorem Context.unorderedNow_enter (st : CarrierState) (x : Context) : (x.enter st).unorderedNow = x.unorderedNow := rfl

@[simp] theorem Context.overflowSeen_enter (st : CarrierState) (x : Context) : (x.enter st).overflowSeen = x.overflowSeen := rfl

@[simp] theorem Context.lastReason_enter (st : CarrierState) (x : Context) : (x.enter st).lastReason = x.lastReason := rfl

@[simp] theorem Context.lastRefusal_enter (st : CarrierState) (x : Context) : (x.enter st).lastRefusal = x.lastRefusal := rfl

@[simp] theorem Context.edition_enter (st : CarrierState) (x : Context) : (x.enter st).edition = x.edition := rfl

@[simp] theorem Context.dirty_enter (st : CarrierState) (x : Context) : (x.enter st).dirty = x.dirty := rfl

/-! ## Writes of the state against its fields -/

@[simp] theorem State.xbase_on (s : State) (f : Cluster → Cluster) : (s.on f).xbase = s.xbase := rfl

@[simp] theorem State.noteEn_on (s : State) (f : Cluster → Cluster) : (s.on f).noteEn = s.noteEn := rfl

@[simp] theorem State.refused_on (s : State) (f : Cluster → Cluster) : (s.on f).refused = s.refused := rfl

@[simp] theorem State.runState_on (s : State) (f : Cluster → Cluster) : (s.on f).runState = s.runState := rfl

@[simp] theorem State.timer_on (s : State) (f : Cluster → Cluster) : (s.on f).timer = s.timer := rfl

@[simp] theorem State.policy_on (s : State) (f : Cluster → Cluster) : (s.on f).policy = s.policy := rfl

@[simp] theorem State.sweepCount_on (s : State) (f : Cluster → Cluster) : (s.on f).sweepCount = s.sweepCount := rfl

@[simp] theorem State.overruns_on (s : State) (f : Cluster → Cluster) : (s.on f).overruns = s.overruns := rfl

@[simp] theorem State.starvation_on (s : State) (f : Cluster → Cluster) : (s.on f).starvation = s.starvation := rfl

@[simp] theorem State.failsafe_on (s : State) (f : Cluster → Cluster) : (s.on f).failsafe = s.failsafe := rfl

@[simp] theorem State.torn_on (s : State) (f : Cluster → Cluster) : (s.on f).torn = s.torn := rfl

@[simp] theorem State.late_on (s : State) (f : Cluster → Cluster) : (s.on f).late = s.late := rfl

@[simp] theorem State.memErrors_on (s : State) (f : Cluster → Cluster) : (s.on f).memErrors = s.memErrors := rfl

@[simp] theorem State.editionWord_on (s : State) (f : Cluster → Cluster) : (s.on f).editionWord = s.editionWord := rfl

@[simp] theorem State.fleetTally_on (s : State) (f : Cluster → Cluster) : (s.on f).fleetTally = s.fleetTally := rfl

@[simp] theorem State.clock_on (s : State) (f : Cluster → Cluster) : (s.on f).clock = s.clock := rfl

@[simp] theorem State.windows_on (s : State) (f : Cluster → Cluster) : (s.on f).windows = s.windows := rfl

@[simp] theorem State.retake_on (s : State) (f : Cluster → Cluster) : (s.on f).retake = s.retake := rfl

@[simp] theorem State.port_on (s : State) (f : Cluster → Cluster) : (s.on f).port = s.port := rfl

@[simp] theorem State.pass_on (s : State) (f : Cluster → Cluster) : (s.on f).pass = s.pass := rfl

@[simp] theorem State.startup_on (s : State) (f : Cluster → Cluster) : (s.on f).startup = s.startup := rfl

@[simp] theorem State.minutesDue_on (s : State) (f : Cluster → Cluster) : (s.on f).minutesDue = s.minutesDue := rfl

@[simp] theorem State.accessSeq_on (s : State) (f : Cluster → Cluster) : (s.on f).accessSeq = s.accessSeq := rfl

@[simp] theorem State.choices_on (s : State) (f : Cluster → Cluster) : (s.on f).choices = s.choices := rfl

@[simp] theorem State.pending_on (s : State) (f : Cluster → Cluster) : (s.on f).pending = s.pending := rfl

@[simp] theorem State.xbase_read (s : State) (b : BitVec 20) (o n : Nat) (p : Purpose) : (s.read b o n p).xbase = s.xbase := rfl

@[simp] theorem State.noteEn_read (s : State) (b : BitVec 20) (o n : Nat) (p : Purpose) : (s.read b o n p).noteEn = s.noteEn := rfl

@[simp] theorem State.refused_read (s : State) (b : BitVec 20) (o n : Nat) (p : Purpose) : (s.read b o n p).refused = s.refused := rfl

@[simp] theorem State.runState_read (s : State) (b : BitVec 20) (o n : Nat) (p : Purpose) : (s.read b o n p).runState = s.runState := rfl

@[simp] theorem State.timer_read (s : State) (b : BitVec 20) (o n : Nat) (p : Purpose) : (s.read b o n p).timer = s.timer := rfl

@[simp] theorem State.policy_read (s : State) (b : BitVec 20) (o n : Nat) (p : Purpose) : (s.read b o n p).policy = s.policy := rfl

@[simp] theorem State.sweepCount_read (s : State) (b : BitVec 20) (o n : Nat) (p : Purpose) : (s.read b o n p).sweepCount = s.sweepCount := rfl

@[simp] theorem State.overruns_read (s : State) (b : BitVec 20) (o n : Nat) (p : Purpose) : (s.read b o n p).overruns = s.overruns := rfl

@[simp] theorem State.starvation_read (s : State) (b : BitVec 20) (o n : Nat) (p : Purpose) : (s.read b o n p).starvation = s.starvation := rfl

@[simp] theorem State.failsafe_read (s : State) (b : BitVec 20) (o n : Nat) (p : Purpose) : (s.read b o n p).failsafe = s.failsafe := rfl

@[simp] theorem State.torn_read (s : State) (b : BitVec 20) (o n : Nat) (p : Purpose) : (s.read b o n p).torn = s.torn := rfl

@[simp] theorem State.late_read (s : State) (b : BitVec 20) (o n : Nat) (p : Purpose) : (s.read b o n p).late = s.late := rfl

@[simp] theorem State.memErrors_read (s : State) (b : BitVec 20) (o n : Nat) (p : Purpose) : (s.read b o n p).memErrors = s.memErrors := rfl

@[simp] theorem State.editionWord_read (s : State) (b : BitVec 20) (o n : Nat) (p : Purpose) : (s.read b o n p).editionWord = s.editionWord := rfl

@[simp] theorem State.fleetTally_read (s : State) (b : BitVec 20) (o n : Nat) (p : Purpose) : (s.read b o n p).fleetTally = s.fleetTally := rfl

@[simp] theorem State.clock_read (s : State) (b : BitVec 20) (o n : Nat) (p : Purpose) : (s.read b o n p).clock = s.clock := rfl

@[simp] theorem State.windows_read (s : State) (b : BitVec 20) (o n : Nat) (p : Purpose) : (s.read b o n p).windows = s.windows := rfl

@[simp] theorem State.cluster_read (s : State) (b : BitVec 20) (o n : Nat) (p : Purpose) : (s.read b o n p).cluster = s.cluster := rfl

@[simp] theorem State.retake_read (s : State) (b : BitVec 20) (o n : Nat) (p : Purpose) : (s.read b o n p).retake = s.retake := rfl

@[simp] theorem State.pass_read (s : State) (b : BitVec 20) (o n : Nat) (p : Purpose) : (s.read b o n p).pass = s.pass := rfl

@[simp] theorem State.startup_read (s : State) (b : BitVec 20) (o n : Nat) (p : Purpose) : (s.read b o n p).startup = s.startup := rfl

@[simp] theorem State.minutesDue_read (s : State) (b : BitVec 20) (o n : Nat) (p : Purpose) : (s.read b o n p).minutesDue = s.minutesDue := rfl

@[simp] theorem State.choices_read (s : State) (b : BitVec 20) (o n : Nat) (p : Purpose) : (s.read b o n p).choices = s.choices := rfl

@[simp] theorem State.pending_read (s : State) (b : BitVec 20) (o n : Nat) (p : Purpose) : (s.read b o n p).pending = s.pending := rfl

@[simp] theorem State.xbase_write (s : State) (b : BitVec 20) (o : Nat) (data : List Byte) (p : Purpose) : (s.write b o data p).xbase = s.xbase := rfl

@[simp] theorem State.noteEn_write (s : State) (b : BitVec 20) (o : Nat) (data : List Byte) (p : Purpose) : (s.write b o data p).noteEn = s.noteEn := rfl

@[simp] theorem State.refused_write (s : State) (b : BitVec 20) (o : Nat) (data : List Byte) (p : Purpose) : (s.write b o data p).refused = s.refused := rfl

@[simp] theorem State.runState_write (s : State) (b : BitVec 20) (o : Nat) (data : List Byte) (p : Purpose) : (s.write b o data p).runState = s.runState := rfl

@[simp] theorem State.timer_write (s : State) (b : BitVec 20) (o : Nat) (data : List Byte) (p : Purpose) : (s.write b o data p).timer = s.timer := rfl

@[simp] theorem State.policy_write (s : State) (b : BitVec 20) (o : Nat) (data : List Byte) (p : Purpose) : (s.write b o data p).policy = s.policy := rfl

@[simp] theorem State.sweepCount_write (s : State) (b : BitVec 20) (o : Nat) (data : List Byte) (p : Purpose) : (s.write b o data p).sweepCount = s.sweepCount := rfl

@[simp] theorem State.overruns_write (s : State) (b : BitVec 20) (o : Nat) (data : List Byte) (p : Purpose) : (s.write b o data p).overruns = s.overruns := rfl

@[simp] theorem State.starvation_write (s : State) (b : BitVec 20) (o : Nat) (data : List Byte) (p : Purpose) : (s.write b o data p).starvation = s.starvation := rfl

@[simp] theorem State.failsafe_write (s : State) (b : BitVec 20) (o : Nat) (data : List Byte) (p : Purpose) : (s.write b o data p).failsafe = s.failsafe := rfl

@[simp] theorem State.torn_write (s : State) (b : BitVec 20) (o : Nat) (data : List Byte) (p : Purpose) : (s.write b o data p).torn = s.torn := rfl

@[simp] theorem State.late_write (s : State) (b : BitVec 20) (o : Nat) (data : List Byte) (p : Purpose) : (s.write b o data p).late = s.late := rfl

@[simp] theorem State.memErrors_write (s : State) (b : BitVec 20) (o : Nat) (data : List Byte) (p : Purpose) : (s.write b o data p).memErrors = s.memErrors := rfl

@[simp] theorem State.editionWord_write (s : State) (b : BitVec 20) (o : Nat) (data : List Byte) (p : Purpose) : (s.write b o data p).editionWord = s.editionWord := rfl

@[simp] theorem State.fleetTally_write (s : State) (b : BitVec 20) (o : Nat) (data : List Byte) (p : Purpose) : (s.write b o data p).fleetTally = s.fleetTally := rfl

@[simp] theorem State.clock_write (s : State) (b : BitVec 20) (o : Nat) (data : List Byte) (p : Purpose) : (s.write b o data p).clock = s.clock := rfl

@[simp] theorem State.windows_write (s : State) (b : BitVec 20) (o : Nat) (data : List Byte) (p : Purpose) : (s.write b o data p).windows = s.windows := rfl

@[simp] theorem State.cluster_write (s : State) (b : BitVec 20) (o : Nat) (data : List Byte) (p : Purpose) : (s.write b o data p).cluster = s.cluster := rfl

@[simp] theorem State.retake_write (s : State) (b : BitVec 20) (o : Nat) (data : List Byte) (p : Purpose) : (s.write b o data p).retake = s.retake := rfl

@[simp] theorem State.pass_write (s : State) (b : BitVec 20) (o : Nat) (data : List Byte) (p : Purpose) : (s.write b o data p).pass = s.pass := rfl

@[simp] theorem State.startup_write (s : State) (b : BitVec 20) (o : Nat) (data : List Byte) (p : Purpose) : (s.write b o data p).startup = s.startup := rfl

@[simp] theorem State.minutesDue_write (s : State) (b : BitVec 20) (o : Nat) (data : List Byte) (p : Purpose) : (s.write b o data p).minutesDue = s.minutesDue := rfl

@[simp] theorem State.choices_write (s : State) (b : BitVec 20) (o : Nat) (data : List Byte) (p : Purpose) : (s.write b o data p).choices = s.choices := rfl

@[simp] theorem State.pending_write (s : State) (b : BitVec 20) (o : Nat) (data : List Byte) (p : Purpose) : (s.write b o data p).pending = s.pending := rfl

@[simp] theorem State.xbase_enterPhase (s : State) (p : Pass) (ph : Phase) : (s.enterPhase p ph).xbase = s.xbase := rfl

@[simp] theorem State.noteEn_enterPhase (s : State) (p : Pass) (ph : Phase) : (s.enterPhase p ph).noteEn = s.noteEn := rfl

@[simp] theorem State.refused_enterPhase (s : State) (p : Pass) (ph : Phase) : (s.enterPhase p ph).refused = s.refused := rfl

@[simp] theorem State.runState_enterPhase (s : State) (p : Pass) (ph : Phase) : (s.enterPhase p ph).runState = s.runState := rfl

@[simp] theorem State.timer_enterPhase (s : State) (p : Pass) (ph : Phase) : (s.enterPhase p ph).timer = s.timer := rfl

@[simp] theorem State.policy_enterPhase (s : State) (p : Pass) (ph : Phase) : (s.enterPhase p ph).policy = s.policy := rfl

@[simp] theorem State.sweepCount_enterPhase (s : State) (p : Pass) (ph : Phase) : (s.enterPhase p ph).sweepCount = s.sweepCount := rfl

@[simp] theorem State.overruns_enterPhase (s : State) (p : Pass) (ph : Phase) : (s.enterPhase p ph).overruns = s.overruns := rfl

@[simp] theorem State.starvation_enterPhase (s : State) (p : Pass) (ph : Phase) : (s.enterPhase p ph).starvation = s.starvation := rfl

@[simp] theorem State.failsafe_enterPhase (s : State) (p : Pass) (ph : Phase) : (s.enterPhase p ph).failsafe = s.failsafe := rfl

@[simp] theorem State.torn_enterPhase (s : State) (p : Pass) (ph : Phase) : (s.enterPhase p ph).torn = s.torn := rfl

@[simp] theorem State.late_enterPhase (s : State) (p : Pass) (ph : Phase) : (s.enterPhase p ph).late = s.late := rfl

@[simp] theorem State.memErrors_enterPhase (s : State) (p : Pass) (ph : Phase) : (s.enterPhase p ph).memErrors = s.memErrors := rfl

@[simp] theorem State.editionWord_enterPhase (s : State) (p : Pass) (ph : Phase) : (s.enterPhase p ph).editionWord = s.editionWord := rfl

@[simp] theorem State.fleetTally_enterPhase (s : State) (p : Pass) (ph : Phase) : (s.enterPhase p ph).fleetTally = s.fleetTally := rfl

@[simp] theorem State.clock_enterPhase (s : State) (p : Pass) (ph : Phase) : (s.enterPhase p ph).clock = s.clock := rfl

@[simp] theorem State.windows_enterPhase (s : State) (p : Pass) (ph : Phase) : (s.enterPhase p ph).windows = s.windows := rfl

@[simp] theorem State.cluster_enterPhase (s : State) (p : Pass) (ph : Phase) : (s.enterPhase p ph).cluster = s.cluster := rfl

@[simp] theorem State.retake_enterPhase (s : State) (p : Pass) (ph : Phase) : (s.enterPhase p ph).retake = s.retake := rfl

@[simp] theorem State.port_enterPhase (s : State) (p : Pass) (ph : Phase) : (s.enterPhase p ph).port = s.port := rfl

@[simp] theorem State.startup_enterPhase (s : State) (p : Pass) (ph : Phase) : (s.enterPhase p ph).startup = s.startup := rfl

@[simp] theorem State.minutesDue_enterPhase (s : State) (p : Pass) (ph : Phase) : (s.enterPhase p ph).minutesDue = s.minutesDue := rfl

@[simp] theorem State.accessSeq_enterPhase (s : State) (p : Pass) (ph : Phase) : (s.enterPhase p ph).accessSeq = s.accessSeq := rfl

@[simp] theorem State.choices_enterPhase (s : State) (p : Pass) (ph : Phase) : (s.enterPhase p ph).choices = s.choices := rfl

@[simp] theorem State.pending_enterPhase (s : State) (p : Pass) (ph : Phase) : (s.enterPhase p ph).pending = s.pending := rfl

@[simp] theorem State.xbase_countFailure (s : State) : (s.countFailure).xbase = s.xbase := rfl

@[simp] theorem State.noteEn_countFailure (s : State) : (s.countFailure).noteEn = s.noteEn := rfl

@[simp] theorem State.refused_countFailure (s : State) : (s.countFailure).refused = s.refused := rfl

@[simp] theorem State.runState_countFailure (s : State) : (s.countFailure).runState = s.runState := rfl

@[simp] theorem State.timer_countFailure (s : State) : (s.countFailure).timer = s.timer := rfl

@[simp] theorem State.policy_countFailure (s : State) : (s.countFailure).policy = s.policy := rfl

@[simp] theorem State.sweepCount_countFailure (s : State) : (s.countFailure).sweepCount = s.sweepCount := rfl

@[simp] theorem State.overruns_countFailure (s : State) : (s.countFailure).overruns = s.overruns := rfl

@[simp] theorem State.starvation_countFailure (s : State) : (s.countFailure).starvation = s.starvation := rfl

@[simp] theorem State.failsafe_countFailure (s : State) : (s.countFailure).failsafe = s.failsafe := rfl

@[simp] theorem State.torn_countFailure (s : State) : (s.countFailure).torn = s.torn := rfl

@[simp] theorem State.late_countFailure (s : State) : (s.countFailure).late = s.late := rfl

@[simp] theorem State.editionWord_countFailure (s : State) : (s.countFailure).editionWord = s.editionWord := rfl

@[simp] theorem State.fleetTally_countFailure (s : State) : (s.countFailure).fleetTally = s.fleetTally := rfl

@[simp] theorem State.clock_countFailure (s : State) : (s.countFailure).clock = s.clock := rfl

@[simp] theorem State.windows_countFailure (s : State) : (s.countFailure).windows = s.windows := rfl

@[simp] theorem State.retake_countFailure (s : State) : (s.countFailure).retake = s.retake := rfl

@[simp] theorem State.port_countFailure (s : State) : (s.countFailure).port = s.port := rfl

@[simp] theorem State.pass_countFailure (s : State) : (s.countFailure).pass = s.pass := rfl

@[simp] theorem State.startup_countFailure (s : State) : (s.countFailure).startup = s.startup := rfl

@[simp] theorem State.minutesDue_countFailure (s : State) : (s.countFailure).minutesDue = s.minutesDue := rfl

@[simp] theorem State.accessSeq_countFailure (s : State) : (s.countFailure).accessSeq = s.accessSeq := rfl

@[simp] theorem State.choices_countFailure (s : State) : (s.countFailure).choices = s.choices := rfl

@[simp] theorem State.pending_countFailure (s : State) : (s.countFailure).pending = s.pending := rfl

@[simp] theorem State.cluster_on (s : State) (f : Cluster → Cluster) : (s.on f).cluster = f s.cluster := rfl

@[simp] theorem State.pass_enterPhase (s : State) (p : Pass) (ph : Phase) :
    (s.enterPhase p ph).pass = some { p with phase := ph } := rfl

@[simp] theorem State.memErrors_countFailure (s : State) : s.countFailure.memErrors = bump 65535 s.memErrors := rfl

@[simp] theorem State.cluster_countFailure (s : State) : s.countFailure.cluster = s.cluster.notify .fault := rfl

/-- The end of RELEASING changes the run state alone (R186). -/
theorem State.testReleasingEnd_eq (s : State) :
    s.testReleasingEnd = { s with runState := if s.runState = .releasing ∧ s.cluster.Quiet then .holding else s.runState } := by
  unfold State.testReleasingEnd
  split <;> rfl

@[simp] theorem State.xbase_testReleasingEnd (s : State) : s.testReleasingEnd.xbase = s.xbase := by
  rw [State.testReleasingEnd_eq]

@[simp] theorem State.noteEn_testReleasingEnd (s : State) : s.testReleasingEnd.noteEn = s.noteEn := by
  rw [State.testReleasingEnd_eq]

@[simp] theorem State.refused_testReleasingEnd (s : State) : s.testReleasingEnd.refused = s.refused := by
  rw [State.testReleasingEnd_eq]

@[simp] theorem State.timer_testReleasingEnd (s : State) : s.testReleasingEnd.timer = s.timer := by
  rw [State.testReleasingEnd_eq]

@[simp] theorem State.policy_testReleasingEnd (s : State) : s.testReleasingEnd.policy = s.policy := by
  rw [State.testReleasingEnd_eq]

@[simp] theorem State.sweepCount_testReleasingEnd (s : State) : s.testReleasingEnd.sweepCount = s.sweepCount := by
  rw [State.testReleasingEnd_eq]

@[simp] theorem State.overruns_testReleasingEnd (s : State) : s.testReleasingEnd.overruns = s.overruns := by
  rw [State.testReleasingEnd_eq]

@[simp] theorem State.starvation_testReleasingEnd (s : State) : s.testReleasingEnd.starvation = s.starvation := by
  rw [State.testReleasingEnd_eq]

@[simp] theorem State.failsafe_testReleasingEnd (s : State) : s.testReleasingEnd.failsafe = s.failsafe := by
  rw [State.testReleasingEnd_eq]

@[simp] theorem State.torn_testReleasingEnd (s : State) : s.testReleasingEnd.torn = s.torn := by
  rw [State.testReleasingEnd_eq]

@[simp] theorem State.late_testReleasingEnd (s : State) : s.testReleasingEnd.late = s.late := by
  rw [State.testReleasingEnd_eq]

@[simp] theorem State.memErrors_testReleasingEnd (s : State) : s.testReleasingEnd.memErrors = s.memErrors := by
  rw [State.testReleasingEnd_eq]

@[simp] theorem State.editionWord_testReleasingEnd (s : State) : s.testReleasingEnd.editionWord = s.editionWord := by
  rw [State.testReleasingEnd_eq]

@[simp] theorem State.fleetTally_testReleasingEnd (s : State) : s.testReleasingEnd.fleetTally = s.fleetTally := by
  rw [State.testReleasingEnd_eq]

@[simp] theorem State.clock_testReleasingEnd (s : State) : s.testReleasingEnd.clock = s.clock := by
  rw [State.testReleasingEnd_eq]

@[simp] theorem State.windows_testReleasingEnd (s : State) : s.testReleasingEnd.windows = s.windows := by
  rw [State.testReleasingEnd_eq]

@[simp] theorem State.cluster_testReleasingEnd (s : State) : s.testReleasingEnd.cluster = s.cluster := by
  rw [State.testReleasingEnd_eq]

@[simp] theorem State.retake_testReleasingEnd (s : State) : s.testReleasingEnd.retake = s.retake := by
  rw [State.testReleasingEnd_eq]

@[simp] theorem State.port_testReleasingEnd (s : State) : s.testReleasingEnd.port = s.port := by
  rw [State.testReleasingEnd_eq]

@[simp] theorem State.pass_testReleasingEnd (s : State) : s.testReleasingEnd.pass = s.pass := by
  rw [State.testReleasingEnd_eq]

@[simp] theorem State.startup_testReleasingEnd (s : State) : s.testReleasingEnd.startup = s.startup := by
  rw [State.testReleasingEnd_eq]

@[simp] theorem State.minutesDue_testReleasingEnd (s : State) : s.testReleasingEnd.minutesDue = s.minutesDue := by
  rw [State.testReleasingEnd_eq]

@[simp] theorem State.accessSeq_testReleasingEnd (s : State) : s.testReleasingEnd.accessSeq = s.accessSeq := by
  rw [State.testReleasingEnd_eq]

@[simp] theorem State.choices_testReleasingEnd (s : State) : s.testReleasingEnd.choices = s.choices := by
  rw [State.testReleasingEnd_eq]

@[simp] theorem State.pending_testReleasingEnd (s : State) : s.testReleasingEnd.pending = s.pending := by
  rw [State.testReleasingEnd_eq]

/-! ## An XBASE write, and the end of a pass that it has found in progress (R1, R2) -/

/-- What the end of such a pass does to the marks, and to nothing else. -/
theorem State.remark_eq (s : State) (p : Pass) :
    s.remark p = { s with cluster := { s.cluster with contexts := (s.remark p).cluster.contexts } } := by
  unfold State.remark
  split <;> rfl

@[simp] theorem State.ctx_remark (s : State) (p : Pass) (c : Carrier) :
    (s.remark p).ctx c = { s.ctx c with dirty := (s.ctx c).dirty || p.moved } := by
  unfold State.remark State.ctx
  cases p.moved <;> simp [State.on]

@[simp] theorem State.xbase_moveBase (s : State) (v : Word) : (s.moveBase v).xbase = baseOf v := rfl

@[simp] theorem State.refused_moveBase (s : State) (v : Word) : (s.moveBase v).refused = false := rfl

@[simp] theorem State.pass_moveBase (s : State) (v : Word) :
    (s.moveBase v).pass = s.pass.map fun p => { p with moved := true } := rfl

@[simp] theorem State.cluster_moveBase (s : State) (v : Word) : (s.moveBase v).cluster = s.cluster.markAllDirty := rfl

@[simp] theorem State.noteEn_moveBase (s : State) (v : Word) : (s.moveBase v).noteEn = s.noteEn := rfl

@[simp] theorem State.runState_moveBase (s : State) (v : Word) : (s.moveBase v).runState = s.runState := rfl

@[simp] theorem State.timer_moveBase (s : State) (v : Word) : (s.moveBase v).timer = s.timer := rfl

@[simp] theorem State.policy_moveBase (s : State) (v : Word) : (s.moveBase v).policy = s.policy := rfl

@[simp] theorem State.sweepCount_moveBase (s : State) (v : Word) : (s.moveBase v).sweepCount = s.sweepCount := rfl

@[simp] theorem State.overruns_moveBase (s : State) (v : Word) : (s.moveBase v).overruns = s.overruns := rfl

@[simp] theorem State.starvation_moveBase (s : State) (v : Word) : (s.moveBase v).starvation = s.starvation := rfl

@[simp] theorem State.failsafe_moveBase (s : State) (v : Word) : (s.moveBase v).failsafe = s.failsafe := rfl

@[simp] theorem State.torn_moveBase (s : State) (v : Word) : (s.moveBase v).torn = s.torn := rfl

@[simp] theorem State.late_moveBase (s : State) (v : Word) : (s.moveBase v).late = s.late := rfl

@[simp] theorem State.memErrors_moveBase (s : State) (v : Word) : (s.moveBase v).memErrors = s.memErrors := rfl

@[simp] theorem State.editionWord_moveBase (s : State) (v : Word) : (s.moveBase v).editionWord = s.editionWord := rfl

@[simp] theorem State.fleetTally_moveBase (s : State) (v : Word) : (s.moveBase v).fleetTally = s.fleetTally := rfl

@[simp] theorem State.clock_moveBase (s : State) (v : Word) : (s.moveBase v).clock = s.clock := rfl

@[simp] theorem State.windows_moveBase (s : State) (v : Word) : (s.moveBase v).windows = s.windows := rfl

@[simp] theorem State.retake_moveBase (s : State) (v : Word) : (s.moveBase v).retake = s.retake := rfl

@[simp] theorem State.port_moveBase (s : State) (v : Word) : (s.moveBase v).port = s.port := rfl

@[simp] theorem State.startup_moveBase (s : State) (v : Word) : (s.moveBase v).startup = s.startup := rfl

@[simp] theorem State.minutesDue_moveBase (s : State) (v : Word) : (s.moveBase v).minutesDue = s.minutesDue := rfl

@[simp] theorem State.accessSeq_moveBase (s : State) (v : Word) : (s.moveBase v).accessSeq = s.accessSeq := rfl

@[simp] theorem State.choices_moveBase (s : State) (v : Word) : (s.moveBase v).choices = s.choices := rfl

@[simp] theorem State.pending_moveBase (s : State) (v : Word) : (s.moveBase v).pending = s.pending := rfl

end Sys2Proof.Machine
end

