-- ==== Sys2Proof/Laws/Course.lean ====
section
/-! SUPPORT. The course of a pass in the words of the statements (sections 1.5, 1.6, 4.5, 6.1, 10.1 and 11.3): what each phase
hands on to, once over; and a cycle of the reference in those words (sections 1.3, 4.1, 7.2 and 9.1). -/

namespace Sys2Proof.Machine

/-! ## Searches over the carriers -/

theorem mem_carriers (c : Carrier) : c ∈ carriers := List.mem_finRange c

/-- A search over the carriers finds the first that fits. -/
theorem find_carriers_eq_some {f : Carrier → Bool} {c : Carrier} (hc : f c = true)
    (hn : ∀ d : Carrier, d < c → f d = false) : carriers.find? f = some c := by
  cases hf : carriers.find? f with
  | none => exact absurd hc (List.find?_eq_none.1 hf c (mem_carriers c))
  | some d =>
    rw [List.find?_eq_some_iff_append] at hf
    obtain ⟨hd, pre, post, hl, hpre⟩ := hf
    have hs : carriers.Pairwise (· < ·) := List.pairwise_lt_finRange 256
    rcases Nat.lt_trichotomy c.val d.val with h | h | h
    · have hm : c ∈ pre ++ d :: post := hl ▸ mem_carriers c
      rw [hl, List.pairwise_append] at hs
      rcases List.mem_append.1 hm with m | m
      · exact absurd hc (by simpa using hpre c m)
      · rcases List.mem_cons.1 m with rfl | m
        · rfl
        · exact absurd h (Nat.lt_asymm ((List.pairwise_cons.1 hs.2.1).1 c m))
    · exact congrArg some (Fin.ext h.symm)
    · exact absurd hd (by simp [hn d h])

/-! ## Records -/

theorem leBytes_length (width v : Nat) : (leBytes width v).length = width := by
  induction width generalizing v with
  | zero => rfl
  | succ n ih => simp [leBytes, ih]

theorem stackBytes_length (es : List Entry) : (stackBytes es).length = 8 := by
  simp [stackBytes, zeros]

/-- A mirror record has 32 bytes (section 12.6). -/
theorem mirrorRecord_length (w : Cluster) (c : Carrier) (edition : Nat) : (mirrorRecord w c edition).length = 32 := by
  simp [mirrorRecord, leBytes_length, stackBytes_length, zeros]

/-- The header has 64 bytes (section 12.2). -/
theorem headerBytes_length (s : State) : (headerBytes s).length = 64 := by
  simp [headerBytes, leBytes_length, zeros]

/-! ## The phases -/

/-- A read issued as the pass enters a phase. -/
theorem State.read_enterPhase (s : State) (p : Pass) (ph : Phase) (offset length : Nat) (purpose : Purpose) :
    (s.enterPhase p ph).read p.base offset length purpose = s.issued p ph false offset length [] purpose := rfl

/-- A write issued as the pass enters a phase. -/
theorem State.write_enterPhase (s : State) (p : Pass) (ph : Phase) (offset : Nat) (data : List Byte) (purpose : Purpose) :
    (s.enterPhase p ph).write p.base offset data purpose = s.issued p ph true offset data.length data purpose := rfl

theorem State.write_as_issued (s : State) (p : Pass) (ph : Phase) (offset : Nat) (data : List Byte) (purpose : Purpose)
    {length : Nat} (h : data.length = length) :
    (s.enterPhase p ph).write p.base offset data purpose = s.issued p ph true offset length data purpose := by
  rw [← h, State.write_enterPhase]

/-- The header's write is the one that the statements name. -/
theorem State.issueHeader_issuesHeader (s : State) (p : Pass) (wrote : Bool) :
    s.IssuesHeader (s.issueHeader p wrote) p wrote := by
  unfold State.issueHeader State.IssuesHeader
  dsimp only
  have g (r : State) : (r.enterPhase p (.writeBack wrote [])).write p.base 0 (headerBytes r) .header =
      r.issued p (.writeBack wrote []) true 0 64 (headerBytes r) .header :=
    State.write_as_issued r p _ 0 _ _ (headerBytes_length r)
  rw [g]
  cases wrote <;> rfl

/-- The outcomes go on, or the header follows, as the statements say. -/
theorem State.nextOutcome_goesOnWith (s : State) (p : Pass) (wrote : Bool) (todo : List Slot) :
    s.GoesOnWith (s.nextOutcome p wrote todo) p wrote todo := by
  cases todo with
  | nil => exact State.issueHeader_issuesHeader s p wrote
  | cons n todo => rfl

/-- The first dirty carrier from a number on is the one that the statements' hypotheses name. -/
theorem Cluster.nextDirty_eq_some {w : Cluster} {start : Nat} {c : Carrier} (hs : start ≤ c.val)
    (hd : (w.ctx c).dirty = true) (hn : ∀ d : Carrier, start ≤ d.val → d < c → (w.ctx d).dirty = false) :
    w.nextDirty start = some c := by
  refine find_carriers_eq_some (by simp [hs, hd]) fun d hdc => ?_
  by_cases h : start ≤ d.val
  · simp [hn d h hdc]
  · simp [h]

theorem Cluster.nextDirty_eq_none {w : Cluster} {start : Nat}
    (h : ∀ c : Carrier, start ≤ c.val → (w.ctx c).dirty = false) : w.nextDirty start = none := by
  refine List.find?_eq_none.2 fun c _ => ?_
  by_cases hc : start ≤ c.val
  · simp [h c hc]
  · simp [hc]

/-- The mirror records go on as the statements say. -/
theorem State.writeRecords_writesRecords (s : State) (p : Pass) (wrote : Bool) (start : Nat) :
    s.WritesRecords (s.writeRecords p wrote start) p wrote start := by
  refine ⟨fun c hs hd hn => ?_, fun h => ?_⟩
  · have g : s.cluster.nextDirty start = some c := Cluster.nextDirty_eq_some hs hd hn
    rw [State.writeRecords, g]
    refine ⟨Cluster.ctx_setCtx_self .., fun d hdc => Cluster.ctx_setCtx_ne _ (Ne.symm hdc) _, ?_⟩
    exact State.write_as_issued (s.on fun w => w.setCtx c { w.ctx c with dirty := false }) p _ _ _ _
      (mirrorRecord_length ..)
  · have g : s.cluster.nextDirty start = none := Cluster.nextDirty_eq_none h
    rw [State.writeRecords, g]
    exact State.nextOutcome_goesOnWith ..

/-- The intake goes on after a slot as the statements say. -/
theorem State.intakeFrom_nextSlot (s : State) (p : Pass) (n : Slot) : s.NextSlot (s.intakeFrom p (n.val + 1)) p n := by
  unfold State.NextSlot State.intakeFrom
  split
  · rfl
  · unfold State.endIntake
    split
    · exact State.writeRecords_writesRecords ..
    · rfl

/-- A directive has been executed. -/
theorem State.finishDirective_executed (s : State) (p : Pass) (d : DirectiveRun) :
    s.Executed (s.finishDirective p d) p d := State.intakeFrom_nextSlot ..

/-- A directive has been executed with an outcome. -/
theorem State.concludeDirective_concluded (s : State) (p : Pass) (d : DirectiveRun) (code : OutcomeCode) :
    s.Concluded (s.concludeDirective p d code) p d d.affected d.skipped code := State.intakeFrom_nextSlot ..

/-- The test for the end of RELEASING leaves the run state that the statements name. -/
theorem State.testReleasingEnd_on (s : State) (v : Cluster) :
    (s.on fun _ => v).testReleasingEnd = { s with runState := s.runAfter v, cluster := v } := by
  unfold State.testReleasingEnd State.runAfter State.on
  split <;> rfl

/-- The walk's conclusion or its next step is the one that the statements name. -/
theorem State.walkDirective_stepped (s : State) (p : Pass) (d : DirectiveRun) (n : Nat)
    (act : Cluster → Carrier → Cluster × Bool) :
    s.Stepped (s.walkDirective p d n act) p (DirectiveRun.walk act n s.cluster { d with begun := true }).2
      (DirectiveRun.walk act n s.cluster { d with begun := true }).1 := by
  unfold State.Stepped State.walkDirective
  dsimp only
  rw [State.testReleasingEnd_on]
  by_cases h : (DirectiveRun.walk act n s.cluster { d with begun := true }).2.position < 256
  · rw [if_pos h, if_neg (by omega)]; rfl
  · rw [if_neg h, if_pos (by omega)]; exact State.concludeDirective_concluded ..

/-- A visit of the decision pass hands on as the statements say. -/
theorem State.visitNext_afterVisit (s : State) (p : Pass) (c : Carrier) :
    s.AfterVisit (s.visitNext p c.val) p c (s.cluster.passVisit s.setting c) := by
  unfold State.AfterVisit State.visitNext
  dsimp only
  rw [dif_pos c.isLt]
  have g : (s.on fun w => w.passVisit s.setting c).testReleasingEnd =
      { s with
        runState := s.runAfter (s.cluster.passVisit s.setting c), cluster := s.cluster.passVisit s.setting c } :=
    State.testReleasingEnd_on s _
  rw [g]
  split
  · rfl
  · exact State.writeRecords_writesRecords ..

/-- The sweep in progress learns of the change of the run state as the statements say. -/
theorem State.leaveRunning_leavesRunning (s : State) : s.LeavesRunning s.leaveRunning := by
  unfold State.LeavesRunning State.leaveRunning
  cases hp : s.pass with
  | none => exact ⟨fun _ => rfl, fun p h => nomatch h⟩
  | some p =>
    refine ⟨fun h => (nomatch h), fun q hq => ?_⟩
    cases hq
    dsimp only
    refine ⟨fun h => by simp [h], fun h => ?_⟩
    rw [if_pos h]
    cases hph : p.phase with
    | decision n =>
      refine ⟨fun _ _ => State.writeRecords_writesRecords .., fun d hd => (by cases hd), fun hn => absurd rfl (hn n)⟩
    | gather taken visited =>
      refine ⟨fun n hn => (by cases hn), fun d hd => (by cases hd), fun _ _ => ?_⟩
      simp [Phase.stop, ← hph]
    | writeBack wrote todo =>
      refine ⟨fun n hn => (by cases hn), fun d hd => (by cases hd), fun _ _ => ?_⟩
      simp [Phase.stop, ← hph]
    | intake run =>
      refine ⟨fun n hn => (by cases hn), fun d hd => ?_, fun _ hd => ?_⟩
      · cases hd
        rcases d with ⟨_, _, _, _, _, _, _, _ | _, _, _, _, _, _⟩ <;> simp [Phase.stop, DirectiveRun.stop]
      · cases run with
        | none => simp [Phase.stop, ← hph]
        | some d => exact absurd rfl (hd d)

/-- The directive that waits to be executed is the one that the statements' hypothesis names. -/
theorem State.directiveOf_executing {s : State} {p : Pass} {d : DirectiveRun} {kind : Option DirectiveKind}
    (h : s.Executing p d kind) : s.directiveOf kind = some (p, d) := by
  obtain ⟨hp, hport, hph, hk⟩ := h
  simp [State.directiveOf, State.directive, hp, hport, hph, hk]

/-! ## The reference -/

/-- No internal event is due exactly where the words of NothingDue say so. -/
theorem State.nothingDue_iff (s : State) : s.NothingDue ↔ s.dueEvent = none := by
  simp only [State.dueEvent, Option.or_eq_none_iff, State.NothingDue]
  refine and_congr ?_ (and_congr ?_ (and_congr ?_ (and_congr ?_ ?_)))
  · simp only [State.timeoutDue, Option.map_eq_none_iff, List.find?_eq_none, sites, List.mem_finRange, true_implies,
      Channel.timedOut]
    refine forall_congr' fun i => ?_
    cases (s.channel i).liveTag <;> simp
  · simp only [State.minuteDue]
    cases s.minutesDue <;> simp
  · simp only [State.grantDue, Option.map_eq_none_iff, List.find?_eq_none, sites, List.mem_finRange, true_implies,
      Cluster.grantChoice, State.lane, State.channel]
    refine forall_congr' fun i => ?_
    cases (s.cluster.lane i).outstanding <;> cases (s.cluster.channel i).up <;> simp
  · have may : s.sweepMayBegin = true ↔ s.timer.sweepPending = true ∧ s.pass = none ∧ s.runState = .running := by
      simp [State.sweepMayBegin, and_assoc]
    rw [← may, State.sweepDue]
    cases s.sweepMayBegin <;> simp
  · simp only [State.directiveDue, State.visitDue, State.directive]
    cases s.pass with
    | none => simp
    | some p =>
      obtain ⟨a, b, c, d, m, ph⟩ := p
      cases ph with
      | intake run => cases run <;> cases s.port <;> simp
      | _ => cases s.port <;> simp

/-- One cycle over the outstanding access. -/
theorem State.accessCycle_cycled (s : State) : s.AccessCycled s.accessCycle := by
  refine ⟨fun h => by simp [State.accessCycle, h], fun a h => ?_⟩
  by_cases hw : a.waited + 1 < 50
  · rw [if_pos hw]; simp [State.accessCycle, h, accessCycles, hw]
  · rw [if_neg hw]; simp [State.accessCycle, h, accessCycles, hw, exec, execMemoryAccessTimeout]

/-- One cycle over the civil clock. -/
theorem State.clockCycle_cycled (s : State) : s.ClockCycled s.clockCycle := by
  simp only [State.ClockCycled, State.clockCycle]
  cases h : s.clock.valid
  · simp
  · simp only [if_true, Bool.true_eq_false, if_false]
    split <;> simp [exec, execCivilClockSecond]

/-- One cycle over the Sweep Timer. -/
theorem State.timerCycle_cycled (s : State) : s.TimerCycled s.timerCycle := by
  simp only [State.TimerCycled, State.timerCycle]
  split
  · rfl
  · split
    · rfl
    · let r : State := { s with timer := { s.timer with tick := 0 } }
      let u : State := { r with timer := r.timer.millisecond r.policy.prescale }
      refine ⟨if r.timer.expires r.policy.prescale then u.expire else u, ?_, ?_⟩
      · by_cases h : (s.timer.prescaler + 1) % 128 % 2 ^ s.policy.prescale = 0 ∧ s.timer.downCount ≤ 1
        · simp [r, u, exec, execSweepTimerExpiry, Timer.expires, Timer.millisecond, wrapUp, h.1, h.2]
        · have e : r.timer.expires r.policy.prescale = false := by
            simpa [r, Timer.expires, wrapUp] using h
          rw [e, if_neg (by simpa using h)]
          simp [r, u, Timer.millisecond, wrapUp]
          split <;> simp_all
      · by_cases h : (s.timer.hundred + 1) % 100 = 0
        · simp [r, u, State.millisecond, exec, execHundredMsTick, Timer.wrapsHundred, wrapUp, h]
        · simp [r, u, State.millisecond, Timer.wrapsHundred, wrapUp, h]

end Sys2Proof.Machine
end

