-- ==== Sys2Proof/Laws/Wants.lean ====
section
/-! SUPPORT. What the operations on wants and on the outstanding command can do: a want leaves, a want joins, a command ends
(section 7). -/

namespace Sys2Proof.Machine

/-- Writing back what stands there changes nothing. -/
theorem Cluster.setLane_self (w : Cluster) (i : Site) : w.setLane i (w.lane i) = w := by
  simp [Cluster.setLane, Cluster.lane]

/-! ## A want leaves -/

@[simp] theorem Cluster.ctx_dropWant (w : Cluster) (c d : Carrier) : (w.dropWant c).ctx d = w.ctx d := rfl

@[simp] theorem Cluster.stack_dropWant (w : Cluster) (c d : Carrier) : (w.dropWant c).stack d = w.stack d := rfl

@[simp] theorem Cluster.channel_dropWant (w : Cluster) (c : Carrier) (i : Site) :
    (w.dropWant c).channel i = w.channel i := rfl

/-- A want leaves the lane of its carrier's site, and nothing else changes there. -/
theorem Cluster.lane_dropWant (w : Cluster) (c : Carrier) (i : Site) :
    (w.dropWant c).lane i =
      if siteOf c = i then { w.lane i with queue := (w.lane i).queue.filter fun x => x.carrier != c } else w.lane i := by
  unfold Cluster.dropWant
  rw [Cluster.lane_setLane]
  split
  · next h => subst h; rfl
  · rfl

@[simp] theorem Cluster.wantOf_dropWant_self (w : Cluster) (c : Carrier) : (w.dropWant c).wantOf c = none := by
  simp [Cluster.wantOf, Cluster.lane_dropWant]

theorem Cluster.wantOf_dropWant_ne (w : Cluster) {c d : Carrier} (h : c ≠ d) : (w.dropWant c).wantOf d = w.wantOf d := by
  unfold Cluster.wantOf
  rw [Cluster.lane_dropWant]
  split
  · rw [List.find?_filter]
    congr 1
    funext x
    by_cases hx : x.carrier = d
    · simp [hx, Ne.symm h]
    · simp [hx]
  · rfl

@[simp] theorem Cluster.isOutstanding_dropWant (w : Cluster) (c d : Carrier) :
    (w.dropWant c).isOutstanding d = w.isOutstanding d := by
  have h : ((w.dropWant c).lane (siteOf d)).outstanding = (w.lane (siteOf d)).outstanding := by
    rw [Cluster.lane_dropWant]
    split <;> rfl
  simp only [Cluster.isOutstanding, h]

/-- A carrier without a want: its lane's queue holds none of it. -/
theorem Cluster.filter_of_wantOf_none (w : Cluster) {c : Carrier} (h : w.wantOf c = none) :
    ((w.lane (siteOf c)).queue.filter fun x => x.carrier != c) = (w.lane (siteOf c)).queue := by
  unfold Cluster.wantOf at h
  rw [List.find?_eq_none] at h
  rw [List.filter_eq_self]
  intro x hx
  simpa using h x hx

/-! ## A want joins -/

/-- A want does not join for a carrier whose command is outstanding, nor beside a want of the same command (R124). -/
theorem Cluster.joinWant_eq_self (w : Cluster) {c : Carrier} {command : RadioCommand} (wait attempt : Nat)
    (h : w.isOutstanding c = true ∨ w.wants c command = true) : w.joinWant c command wait attempt = w := by
  unfold Cluster.joinWant
  rw [if_pos (by simpa using h)]

/-- For a carrier that has neither a want nor a command, a want joins at the tail with the lane's join counter (R122, R124). -/
theorem Cluster.joinWant_of_unasked (w : Cluster) {c : Carrier} (command : RadioCommand) (wait attempt : Nat)
    (h : w.Unasked c) :
    w.joinWant c command wait attempt = w.setLane (siteOf c) ((w.lane (siteOf c)).joined c command wait attempt) := by
  obtain ⟨hw, ho⟩ := h
  have hwants : w.wants c command = false := by simp [Cluster.wants, hw]
  have hdrop : w.dropWant c = w := by
    simp only [Cluster.dropWant, Cluster.filter_of_wantOf_none w hw]
    exact Cluster.setLane_self w (siteOf c)
  unfold Cluster.joinWant
  rw [if_neg (by simp [ho, hwants])]
  simp only [hdrop]
  rfl

/-- Whatever want stood there, a joined want changes only the lane of its carrier's site, whose outstanding slot it keeps. -/
theorem Cluster.joinWant_spec (w : Cluster) (c : Carrier) (command : RadioCommand) (wait attempt : Nat) :
    (w.joinWant c command wait attempt) = { w with lanes := (w.joinWant c command wait attempt).lanes } ∧
      (∀ i : Site, ((w.joinWant c command wait attempt).lane i).outstanding = (w.lane i).outstanding) ∧
        ∀ i : Site, i ≠ siteOf c → (w.joinWant c command wait attempt).lane i = w.lane i := by
  unfold Cluster.joinWant
  split
  · simp
  · refine ⟨rfl, fun i => ?_, fun i hi => ?_⟩
    · rw [Cluster.lane_setLane]
      split
      · next h => subst h; simp [Lane.append, Cluster.lane_dropWant]
      · rw [Cluster.lane_dropWant]; split <;> rfl
    · rw [Cluster.lane_setLane_ne _ (Ne.symm hi), Cluster.lane_dropWant, if_neg (Ne.symm hi)]

@[simp] theorem Cluster.ctx_joinWant (w : Cluster) (c : Carrier) (command : RadioCommand) (wait attempt : Nat) (d : Carrier) :
    (w.joinWant c command wait attempt).ctx d = w.ctx d := by unfold Cluster.joinWant; split <;> rfl

@[simp] theorem Cluster.stack_joinWant (w : Cluster) (c : Carrier) (command : RadioCommand) (wait attempt : Nat)
    (d : Carrier) : (w.joinWant c command wait attempt).stack d = w.stack d := by unfold Cluster.joinWant; split <;> rfl

@[simp] theorem Cluster.channel_joinWant (w : Cluster) (c : Carrier) (command : RadioCommand) (wait attempt : Nat)
    (i : Site) : (w.joinWant c command wait attempt).channel i = w.channel i := by unfold Cluster.joinWant; split <;> rfl

@[simp] theorem Cluster.note_joinWant (w : Cluster) (c : Carrier) (command : RadioCommand) (wait attempt : Nat) :
    (w.joinWant c command wait attempt).note = w.note := by unfold Cluster.joinWant; split <;> rfl

@[simp] theorem Cluster.probes_joinWant (w : Cluster) (c : Carrier) (command : RadioCommand) (wait attempt : Nat) :
    (w.joinWant c command wait attempt).probes = w.probes := by unfold Cluster.joinWant; split <;> rfl

@[simp] theorem Cluster.outcomes_joinWant (w : Cluster) (c : Carrier) (command : RadioCommand) (wait attempt : Nat) :
    (w.joinWant c command wait attempt).outcomes = w.outcomes := by unfold Cluster.joinWant; split <;> rfl

@[simp] theorem Cluster.ctx_want (w : Cluster) (c : Carrier) (command : RadioCommand) (d : Carrier) :
    (w.want c command).ctx d = w.ctx d := Cluster.ctx_joinWant ..

@[simp] theorem Cluster.stack_want (w : Cluster) (c : Carrier) (command : RadioCommand) (d : Carrier) :
    (w.want c command).stack d = w.stack d := Cluster.stack_joinWant ..

@[simp] theorem Cluster.channel_want (w : Cluster) (c : Carrier) (command : RadioCommand) (i : Site) :
    (w.want c command).channel i = w.channel i := Cluster.channel_joinWant ..

@[simp] theorem Cluster.note_want (w : Cluster) (c : Carrier) (command : RadioCommand) :
    (w.want c command).note = w.note := Cluster.note_joinWant ..

@[simp] theorem Cluster.probes_want (w : Cluster) (c : Carrier) (command : RadioCommand) :
    (w.want c command).probes = w.probes := Cluster.probes_joinWant ..

@[simp] theorem Cluster.outcomes_want (w : Cluster) (c : Carrier) (command : RadioCommand) :
    (w.want c command).outcomes = w.outcomes := Cluster.outcomes_joinWant ..

/-! ## A command ends -/

@[simp] theorem Cluster.ctx_retire (w : Cluster) (i : Site) (c : Carrier) : (w.retire i).ctx c = w.ctx c := rfl

@[simp] theorem Cluster.stack_retire (w : Cluster) (i : Site) (c : Carrier) : (w.retire i).stack c = w.stack c := rfl

@[simp] theorem Cluster.note_retire (w : Cluster) (i : Site) : (w.retire i).note = w.note := rfl

@[simp] theorem Cluster.probes_retire (w : Cluster) (i : Site) : (w.retire i).probes = w.probes := rfl

@[simp] theorem Cluster.outcomes_retire (w : Cluster) (i : Site) : (w.retire i).outcomes = w.outcomes := rfl

/-- At its site a retired command leaves the slot empty; every other lane is as it was. -/
theorem Cluster.lane_retire (w : Cluster) (i j : Site) :
    (w.retire i).lane j = if i = j then (w.lane j).ended else w.lane j := by
  unfold Cluster.retire
  rw [Cluster.lane_setChannel, Cluster.lane_setLane]
  split
  · next h => subst h; rfl
  · rfl

/-- At its site a retired command leaves the channel without a live tag; every other channel is as it was. -/
theorem Cluster.channel_retire (w : Cluster) (i j : Site) :
    (w.retire i).channel j = if i = j then (w.channel j).retired else w.channel j := by
  unfold Cluster.retire
  rw [Cluster.channel_setChannel]
  split
  · next h => subst h; rfl
  · rfl

@[simp] theorem Cluster.wantOf_retire (w : Cluster) (i : Site) (c : Carrier) : (w.retire i).wantOf c = w.wantOf c := by
  unfold Cluster.wantOf
  rw [Cluster.lane_retire]
  split <;> rfl

@[simp] theorem Cluster.hostOf_retire (w : Cluster) (i : Site) (c : Carrier) : (w.retire i).hostOf c = w.hostOf c := rfl

/-- After its site's command has ended, a carrier of the site without a want is asked nothing. -/
theorem Cluster.unasked_retire (w : Cluster) {c : Carrier} (h : w.wantOf c = none) :
    (w.retire (siteOf c)).Unasked c :=
  ⟨by rw [Cluster.wantOf_retire, h], by simp [Cluster.isOutstanding, Cluster.lane_retire, Lane.ended]⟩

end Sys2Proof.Machine
end

