-- ==== Sys2Proof/Laws/Stacks.lean ====
section
/-! SUPPORT. What the operations on cover stacks can do: finding an entry, changing one, removing one, a wake request, and the
entry into FAULTED (section 5); and what none of them touches. -/

namespace Sys2Proof.Machine

/-! ## Finding an entry -/

/-- The host of a carrier is the first owner whose stack holds an entry of it. -/
theorem Cluster.hostOf_some (w : Cluster) {c k : Carrier} (h : w.hostOf c = some k) : w.standsOn c k = true :=
  List.find?_some (p := fun k => (w.stack k).any fun e => e.carrier == c) h

/-- A carrier has no host exactly when it stands on no stack. -/
theorem Cluster.hostOf_none (w : Cluster) (c : Carrier) : w.hostOf c = none ↔ ∀ k, w.standsOn c k = false := by
  unfold Cluster.hostOf Cluster.standsOn carriers
  simp [List.find?_eq_none]

/-- A carrier that stands on one stack alone has its owner as host. -/
theorem Cluster.hostOf_unique (w : Cluster) {c k : Carrier} (h : ∀ j, w.standsOn c j = true ↔ j = k) :
    w.hostOf c = some k := by
  cases hk : w.hostOf c with
  | none =>
    have := (Cluster.hostOf_none w c).mp hk k
    rw [(h k).mpr rfl] at this
    cases this
  | some j => rw [(h j).mp (Cluster.hostOf_some w hk)]

/-! ## Changing an entry -/

@[simp] theorem Cluster.ctx_editEntry (w : Cluster) (c : Carrier) (f : Entry → Entry) (d : Carrier) :
    (w.editEntry c f).ctx d = w.ctx d := by unfold Cluster.editEntry; split <;> rfl

@[simp] theorem Cluster.lane_editEntry (w : Cluster) (c : Carrier) (f : Entry → Entry) (i : Site) :
    (w.editEntry c f).lane i = w.lane i := by unfold Cluster.editEntry; split <;> rfl

@[simp] theorem Cluster.channel_editEntry (w : Cluster) (c : Carrier) (f : Entry → Entry) (i : Site) :
    (w.editEntry c f).channel i = w.channel i := by unfold Cluster.editEntry; split <;> rfl

@[simp] theorem Cluster.note_editEntry (w : Cluster) (c : Carrier) (f : Entry → Entry) :
    (w.editEntry c f).note = w.note := by unfold Cluster.editEntry; split <;> rfl

@[simp] theorem Cluster.wantOf_editEntry (w : Cluster) (c : Carrier) (f : Entry → Entry) (d : Carrier) :
    (w.editEntry c f).wantOf d = w.wantOf d := by simp [Cluster.wantOf]

/-- Only the carrier's entries on its host's stack change. -/
theorem Cluster.stack_editEntry (w : Cluster) (c : Carrier) (f : Entry → Entry) (d : Carrier) :
    (w.editEntry c f).stack d =
      if w.hostOf c = some d then (w.stack d).map fun e => if e.carrier = c then f e else e else w.stack d := by
  unfold Cluster.editEntry
  split
  · next h => simp [h]
  · next k h =>
    rw [Cluster.stack_setStack]
    simp only [h, Option.some.injEq]
    split
    · next hk => subst hk; rfl
    · rfl

/-- Changing an entry changes no stack's depth. -/
theorem Cluster.length_editEntry (w : Cluster) (c : Carrier) (f : Entry → Entry) (d : Carrier) :
    ((w.editEntry c f).stack d).length = (w.stack d).length := by
  rw [Cluster.stack_editEntry]
  split <;> simp

/-! ## What an operation on carriers leaves alone -/

/-- Only contexts, stacks and lanes differ. -/
def Cluster.OnlyCarriers (w v : Cluster) : Prop :=
  v = { w with contexts := v.contexts, coverStacks := v.coverStacks, lanes := v.lanes }

theorem Cluster.OnlyCarriers.refl (w : Cluster) : w.OnlyCarriers w := rfl

theorem Cluster.OnlyCarriers.trans {u v w : Cluster} (h : u.OnlyCarriers v) (g : v.OnlyCarriers w) : u.OnlyCarriers w := by
  unfold Cluster.OnlyCarriers at *
  rw [g, h]

theorem Cluster.OnlyCarriers.after {u v w : Cluster} (g : v.OnlyCarriers w) (h : u.OnlyCarriers v) : u.OnlyCarriers w :=
  h.trans g

theorem Cluster.OnlyCarriers.channel {w v : Cluster} (h : w.OnlyCarriers v) (i : Site) : v.channel i = w.channel i := by
  rw [h]; rfl

theorem Cluster.OnlyCarriers.note {w v : Cluster} (h : w.OnlyCarriers v) : v.note = w.note := by rw [h]

theorem Cluster.OnlyCarriers.probes {w v : Cluster} (h : w.OnlyCarriers v) : v.probes = w.probes := by rw [h]

theorem Cluster.OnlyCarriers.outcomes {w v : Cluster} (h : w.OnlyCarriers v) : v.outcomes = w.outcomes := by rw [h]

theorem Cluster.onlyCarriers_dropWant (w : Cluster) (c : Carrier) : w.OnlyCarriers (w.dropWant c) := rfl

theorem Cluster.onlyCarriers_want (w : Cluster) (c : Carrier) (command : RadioCommand) :
    w.OnlyCarriers (w.want c command) := by unfold Cluster.want Cluster.joinWant; split <;> rfl

theorem Cluster.onlyCarriers_editEntry (w : Cluster) (c : Carrier) (f : Entry → Entry) :
    w.OnlyCarriers (w.editEntry c f) := by unfold Cluster.editEntry; split <;> rfl

theorem Cluster.onlyCarriers_relink (w : Cluster) (c : Carrier) : w.OnlyCarriers (w.relink c) :=
  Cluster.OnlyCarriers.after (Cluster.onlyCarriers_want ..) rfl

theorem Cluster.onlyCarriers_stackEmptied (w : Cluster) (k : Carrier) : w.OnlyCarriers (w.stackEmptied k) := by
  unfold Cluster.stackEmptied
  dsimp only
  split
  · rfl
  · split
    · exact Cluster.onlyCarriers_relink w k
    · rfl

theorem Cluster.onlyCarriers_removeEntry (w : Cluster) (c : Carrier) : w.OnlyCarriers (w.removeEntry c) := by
  unfold Cluster.removeEntry
  split
  · rfl
  · dsimp only
    split
    · exact Cluster.OnlyCarriers.after (Cluster.onlyCarriers_stackEmptied ..) rfl
    · rfl

theorem Cluster.onlyCarriers_turnBack (w : Cluster) (c : Carrier) (r : Reason) : w.OnlyCarriers (w.turnBack c r) :=
  Cluster.OnlyCarriers.trans (Cluster.onlyCarriers_editEntry w c _) rfl

theorem Cluster.onlyCarriers_cancelReservation (w : Cluster) (c : Carrier) (r : Reason) :
    w.OnlyCarriers (w.cancelReservation c r) :=
  Cluster.OnlyCarriers.trans (Cluster.onlyCarriers_dropWant w c)
    (Cluster.OnlyCarriers.trans (Cluster.onlyCarriers_removeEntry ..) rfl)

/-- A wake request reaches contexts, stacks and lanes alone. -/
theorem Cluster.onlyCarriers_wakeRequest (w : Cluster) (c : Carrier) (r : Reason) : w.OnlyCarriers (w.wakeRequest c r) := by
  have turn := Cluster.onlyCarriers_turnBack w c r
  have wanted (command : RadioCommand) := turn.trans (Cluster.onlyCarriers_want (w.turnBack c r) c command)
  unfold Cluster.wakeRequest
  split
  · split
    · exact Cluster.onlyCarriers_cancelReservation w c r
    · rfl
  all_goals repeat' split
  all_goals first | with_reducible exact turn | with_reducible exact wanted _ | rfl

theorem Cluster.onlyCarriers_wakeAll (cs : List Carrier) (r : Reason) (w : Cluster) : w.OnlyCarriers (w.wakeAll cs r) := by
  unfold Cluster.wakeAll
  induction cs generalizing w with
  | nil => rfl
  | cons c cs ih => exact (Cluster.onlyCarriers_wakeRequest w c r).trans (ih _)

theorem Cluster.onlyCarriers_unwind (w : Cluster) (k : Carrier) (r : Reason) : w.OnlyCarriers (w.unwind k r) :=
  Cluster.onlyCarriers_wakeAll _ r w

theorem Cluster.onlyCarriers_unwindAll (w : Cluster) (r : Reason) : w.OnlyCarriers (w.unwindAll r) := by
  unfold Cluster.unwindAll
  induction carriers generalizing w with
  | nil => rfl
  | cons c cs ih => exact (Cluster.onlyCarriers_unwind w c r).trans (ih _)

theorem Cluster.onlyCarriers_reserve (w : Cluster) (c k : Carrier) (a : Nat) (r : Reason) (deepen : Bool) :
    w.OnlyCarriers (w.reserve c k a r deepen) :=
  Cluster.OnlyCarriers.after (Cluster.onlyCarriers_want ..) rfl

/-! ## The depth of stacks -/

/-- No stack of v is deeper than that of w. -/
def Cluster.NoDeeper (w v : Cluster) : Prop := ∀ k : Carrier, (v.stack k).length ≤ (w.stack k).length

theorem Cluster.NoDeeper.trans {u v w : Cluster} (h : u.NoDeeper v) (g : v.NoDeeper w) : u.NoDeeper w :=
  fun k => Nat.le_trans (g k) (h k)

theorem Cluster.noDeeper_relink (w : Cluster) (c : Carrier) : w.NoDeeper (w.relink c) := fun k => by
  simp [Cluster.relink]

theorem Cluster.noDeeper_stackEmptied (w : Cluster) (c : Carrier) : w.NoDeeper (w.stackEmptied c) := by
  unfold Cluster.stackEmptied
  dsimp only
  split
  · exact fun k => Nat.le_refl _
  · split
    · exact Cluster.noDeeper_relink w c
    · exact fun k => Nat.le_refl _

/-- A removal makes no stack deeper. -/
theorem Cluster.noDeeper_removeEntry (w : Cluster) (c : Carrier) : w.NoDeeper (w.removeEntry c) := by
  unfold Cluster.removeEntry
  split
  · exact fun k => Nat.le_refl _
  · next k _ =>
    have h : w.NoDeeper (((w.setStack k ((w.stack k).eraseP fun e => e.carrier == c)).markDirty k).markDirty c) := by
      intro j
      rw [Cluster.stack_markDirty, Cluster.stack_markDirty, Cluster.stack_setStack]
      split
      · next hk => subst hk; exact List.length_eraseP_le
      · exact Nat.le_refl _
    dsimp only
    split
    · exact h.trans (Cluster.noDeeper_stackEmptied _ _)
    · exact h

theorem Cluster.noDeeper_turnBack (w : Cluster) (c : Carrier) (r : Reason) : w.NoDeeper (w.turnBack c r) := fun k => by
  simp [Cluster.turnBack, Cluster.length_editEntry]

theorem Cluster.noDeeper_cancelReservation (w : Cluster) (c : Carrier) (r : Reason) :
    w.NoDeeper (w.cancelReservation c r) := fun k => by
  simpa [Cluster.cancelReservation] using Cluster.noDeeper_removeEntry (w.dropWant c) c k

/-- A wake request makes no stack deeper. -/
theorem Cluster.noDeeper_wakeRequest (w : Cluster) (c : Carrier) (r : Reason) : w.NoDeeper (w.wakeRequest c r) := by
  have turn := Cluster.noDeeper_turnBack w c r
  have wanted (command : RadioCommand) : w.NoDeeper ((w.turnBack c r).want c command) := fun k => by simpa using turn k
  unfold Cluster.wakeRequest
  split
  · split
    · exact Cluster.noDeeper_cancelReservation w c r
    · exact fun k => Nat.le_refl _
  all_goals repeat' split
  all_goals first | with_reducible exact turn | with_reducible exact wanted _ | exact fun k => Nat.le_refl _

theorem Cluster.noDeeper_wakeAll (cs : List Carrier) (r : Reason) (w : Cluster) : w.NoDeeper (w.wakeAll cs r) := by
  unfold Cluster.wakeAll
  induction cs generalizing w with
  | nil => exact fun k => Nat.le_refl _
  | cons c cs ih => exact (Cluster.noDeeper_wakeRequest w c r).trans (ih _)

theorem Cluster.noDeeper_unwindAll (w : Cluster) (r : Reason) : w.NoDeeper (w.unwindAll r) := by
  unfold Cluster.unwindAll
  induction carriers generalizing w with
  | nil => exact fun k => Nat.le_refl _
  | cons c cs ih => exact (Cluster.noDeeper_wakeAll _ r w).trans (ih _)

/-! ## The entry into FAULTED -/

@[simp] theorem Cluster.ctx_closeProbes (w : Cluster) (c : Carrier) : w.closeProbes.ctx c = w.ctx c := rfl
@[simp] theorem Cluster.stack_closeProbes (w : Cluster) (c : Carrier) : w.closeProbes.stack c = w.stack c := rfl
@[simp] theorem Cluster.lane_closeProbes (w : Cluster) (i : Site) : w.closeProbes.lane i = w.lane i := rfl
@[simp] theorem Cluster.channel_closeProbes (w : Cluster) (i : Site) : w.closeProbes.channel i = w.channel i := rfl

/-- The end of a query reaches the PROBE records and the outcome queue alone. -/
theorem Cluster.endQuery_spec (w : Cluster) (c : Carrier) (answered : Bool) :
    w.endQuery c answered =
      { w with probes := (w.endQuery c answered).probes, outcomes := (w.endQuery c answered).outcomes } ∧
      ((w.ctx c).probeOrigin = none → w.endQuery c answered = w) := by
  unfold Cluster.endQuery
  constructor
  · split <;> rfl
  · intro h
    rw [if_neg (by simp [h])]

@[simp] theorem Cluster.ctx_abandon (w : Cluster) (c d : Carrier) : (w.abandon c).ctx d = w.ctx d := by
  unfold Cluster.abandon; split <;> rfl

@[simp] theorem Cluster.stack_abandon (w : Cluster) (c d : Carrier) : (w.abandon c).stack d = w.stack d := by
  unfold Cluster.abandon; split <;> rfl

/-- A carrier that has entered FAULTED (R35): its state, cause and marks, whatever its stack held. -/
theorem Cluster.ctx_enterFaulted_self (w : Cluster) (c : Carrier) (cause : FaultCause) :
    ((w.enterFaulted c cause).ctx c).state = .faulted ∧ ((w.enterFaulted c cause).ctx c).cause = some cause ∧
      ((w.enterFaulted c cause).ctx c).sleepCount = 0 ∧ ((w.enterFaulted c cause).ctx c).wakeCount = 0 ∧
        ((w.enterFaulted c cause).ctx c).lightRun = 0 ∧ ((w.enterFaulted c cause).ctx c).dirty = true := by
  simp [Cluster.enterFaulted, Cluster.ctx_markDirty]

/-- The entry into FAULTED sets the FAULT notice (R35). -/
theorem Cluster.note_enterFaulted (w : Cluster) (c : Carrier) (cause : FaultCause) :
    Notice.fault.isIn (w.enterFaulted c cause).note = true := by
  simp [Cluster.enterFaulted, Notice.isIn, Notice.raiseIn, Notice.bit]

end Sys2Proof.Machine
end

