-- ==== Sys2Proof/Laws/Lanes.lean ====
section
/-! SUPPORT. What a lane's choice, a grant and the 100 ms tick can do (sections 7 and 8.2). -/

namespace Sys2Proof.Machine

/-- The oldest eligible want of a class: it stands in the queue, is eligible and of the class, and nothing before it is
both (R128). -/
theorem Lane.oldest_spec {l : Lane} {k : WantClass} {x : Want} (h : l.oldest k = some x) :
    x.wait = 0 ∧ x.command.wantClass = k ∧
      ∃ pre post, l.queue = pre ++ x :: post ∧ ∀ y ∈ pre, y.wait = 0 → y.command.wantClass ≠ k := by
  unfold Lane.oldest at h
  rw [List.find?_eq_some_iff_append] at h
  obtain ⟨hx, pre, post, hq, hpre⟩ := h
  simp only [Bool.and_eq_true, beq_iff_eq] at hx
  refine ⟨hx.1, hx.2, pre, post, hq, fun y hy hw hk => ?_⟩
  simpa [hw, hk] using hpre y hy

/-- No eligible want of a class. -/
theorem Lane.oldest_none {l : Lane} {k : WantClass} (h : l.oldest k = none) :
    ∀ x ∈ l.queue, x.wait = 0 → x.command.wantClass ≠ k := by
  unfold Lane.oldest at h
  rw [List.find?_eq_none] at h
  intro x hx hw hk
  exact h x hx (by simp [hw, hk])

/-- A pick is the oldest eligible want of a class that the run state allows. -/
theorem Lane.pick_spec {l : Lane} {rs : RunState} {k : WantClass} {x : Want} (h : l.pick rs k = some x) :
    rs.allows k = true ∧ l.oldest k = some x := by
  unfold Lane.pick at h
  split at h
  · next hk => exact ⟨hk, h⟩
  · cases h

/-- A grant is due for a want only when no command is outstanding and the channel is UP (R127). -/
theorem Cluster.grantChoice_spec {w : Cluster} {i : Site} {rs : RunState} {x : Want} (h : w.grantChoice i rs = some x) :
    (w.lane i).outstanding = none ∧ (w.channel i).up = true ∧ (w.lane i).choose rs = some x := by
  unfold Cluster.grantChoice at h
  split at h
  · next hc =>
    simp only [Bool.and_eq_true, Option.isNone_iff_eq_none] at hc
    exact ⟨hc.1, hc.2, h⟩
  · cases h

theorem Cluster.lane_send (w : Cluster) (i j : Site) (x : Want) (t : Timeouts) :
    (w.send i x t).lane j =
      if i = j then
        { w.lane i with
          queue := (w.lane i).queue.filter fun y => y.carrier != x.carrier
          outstanding :=
            some { carrier := x.carrier, command := x.command, attempt := x.attempt, tag := (w.channel i).nextTag } }
      else w.lane j := by
  simp [Cluster.send, Cluster.lane_setLane]

theorem Cluster.channel_send (w : Cluster) (i j : Site) (x : Want) (t : Timeouts) :
    (w.send i x t).channel j =
      if i = j then
        { w.channel i with
          liveTag := some (w.channel i).nextTag
          nextTag := (w.channel i).nextTag + 1#4
          timeLeft := t.of x.command
          sent := commandFrame (w.channel i).nextTag x.carrier x.command
            (commandParameter (w.ctx x.carrier) x.command) }
      else w.channel j := by
  simp [Cluster.send, Cluster.channel_setChannel]

theorem Cluster.ctx_send (w : Cluster) (i : Site) (x : Want) (t : Timeouts) (c : Carrier) :
    (w.send i x t).ctx c = if x.carrier = c then (w.ctx c).edit (Context.atSend x.command) else w.ctx c := by
  unfold Cluster.send
  rw [Cluster.ctx_editCtx]
  split
  · next h => subst h; simp
  · simp

@[simp] theorem Cluster.stack_send (w : Cluster) (i : Site) (x : Want) (t : Timeouts) (c : Carrier) :
    (w.send i x t).stack c = w.stack c := rfl

@[simp] theorem Cluster.lane_hundredTick (w : Cluster) (i : Site) : w.hundredTick.lane i = (w.lane i).tick := by
  simp [Cluster.hundredTick, Cluster.lane]

@[simp] theorem Cluster.channel_hundredTick (w : Cluster) (i : Site) :
    w.hundredTick.channel i = (w.channel i).tick := by
  simp [Cluster.hundredTick, Cluster.channel]

/-- A frame with its check byte sums to a multiple of 256 (R192). -/
theorem byteSum_checked (b : List Byte) : byteSum (b ++ [checkByte b]) % 256 = 0 := by
  simp only [byteSum, checkByte, List.map_append, List.sum_append, List.map_cons, List.map_nil, List.sum_cons,
    List.sum_nil, BitVec.toNat_ofNat]
  omega

end Sys2Proof.Machine
end

