-- ==== Sys2Proof/Laws/Passes.lean ====
section
/-! SUPPORT. What the phases of a pass leave alone (sections 1.5, 1.6 and 4), and that no command touches the queue. -/

namespace Sys2Proof.Machine

/-- Only what a pass works on differs: the cluster, the retake slot, the port, the pass, the access number, the mirror edition
word, the starvation count, failsafe, the torn count and the run state. -/
def State.OnlyPass (s t : State) : Prop :=
  t = { s with
    cluster := t.cluster
    retake := t.retake
    port := t.port
    pass := t.pass
    accessSeq := t.accessSeq
    editionWord := t.editionWord
    starvation := t.starvation
    failsafe := t.failsafe
    torn := t.torn
    runState := t.runState }

theorem State.OnlyPass.refl (s : State) : s.OnlyPass s := rfl

theorem State.OnlyPass.trans {r s t : State} (h : r.OnlyPass s) (g : s.OnlyPass t) : r.OnlyPass t := by
  unfold State.OnlyPass at *
  rw [g, h]

/-- The second change first, for goals that end in it. -/
theorem State.OnlyPass.after {r s t : State} (g : s.OnlyPass t) (h : r.OnlyPass s) : r.OnlyPass t := h.trans g

theorem State.OnlyPass.pending {s t : State} (h : s.OnlyPass t) : t.pending = s.pending := by rw [h]
theorem State.OnlyPass.clock {s t : State} (h : s.OnlyPass t) : t.clock = s.clock := by rw [h]
theorem State.OnlyPass.policy {s t : State} (h : s.OnlyPass t) : t.policy = s.policy := by rw [h]
theorem State.OnlyPass.windows {s t : State} (h : s.OnlyPass t) : t.windows = s.windows := by rw [h]
theorem State.OnlyPass.timer {s t : State} (h : s.OnlyPass t) : t.timer = s.timer := by rw [h]
theorem State.OnlyPass.xbase {s t : State} (h : s.OnlyPass t) : t.xbase = s.xbase := by rw [h]
theorem State.OnlyPass.noteEn {s t : State} (h : s.OnlyPass t) : t.noteEn = s.noteEn := by rw [h]
theorem State.OnlyPass.late {s t : State} (h : s.OnlyPass t) : t.late = s.late := by rw [h]
theorem State.OnlyPass.sweepCount {s t : State} (h : s.OnlyPass t) : t.sweepCount = s.sweepCount := by rw [h]
theorem State.OnlyPass.overruns {s t : State} (h : s.OnlyPass t) : t.overruns = s.overruns := by rw [h]
theorem State.OnlyPass.memErrors {s t : State} (h : s.OnlyPass t) : t.memErrors = s.memErrors := by rw [h]
theorem State.OnlyPass.fleetTally {s t : State} (h : s.OnlyPass t) : t.fleetTally = s.fleetTally := by rw [h]
theorem State.OnlyPass.startup {s t : State} (h : s.OnlyPass t) : t.startup = s.startup := by rw [h]
theorem State.OnlyPass.minutesDue {s t : State} (h : s.OnlyPass t) : t.minutesDue = s.minutesDue := by rw [h]

/-! ## Write-back -/

theorem State.onlyPass_issueHeader (s : State) (p : Pass) (wrote : Bool) : s.OnlyPass (s.issueHeader p wrote) := by
  unfold State.issueHeader
  cases wrote <;> rfl

theorem State.onlyPass_nextOutcome (s : State) (p : Pass) (wrote : Bool) (todo : List Slot) :
    s.OnlyPass (s.nextOutcome p wrote todo) := by
  cases todo with
  | nil => exact State.onlyPass_issueHeader s p wrote
  | cons n ns => rfl

theorem State.onlyPass_writeRecords (s : State) (p : Pass) (wrote : Bool) (start : Nat) :
    s.OnlyPass (s.writeRecords p wrote start) := by
  unfold State.writeRecords
  split
  · rfl
  · exact State.onlyPass_nextOutcome ..

theorem State.onlyPass_endPass (s : State) (wrote : Bool) : s.OnlyPass (s.endPass wrote) := by
  unfold State.endPass
  cases wrote <;> (dsimp only; split <;> rfl)

theorem State.onlyPass_remark (s : State) (p : Pass) : s.OnlyPass (s.remark p) := by
  unfold State.remark
  split <;> rfl

theorem State.onlyPass_writeBackEffect (s : State) (purpose : Purpose) (data : Option (List Byte)) :
    s.OnlyPass (s.writeBackEffect purpose data) := by
  unfold State.writeBackEffect
  repeat' split
  all_goals rfl

theorem State.onlyPass_writeBackNext (s : State) (p : Pass) (wrote : Bool) (todo : List Slot) (purpose : Purpose)
    (data : Option (List Byte)) : s.OnlyPass (s.writeBackNext p wrote todo purpose data) := by
  unfold State.writeBackNext
  repeat' split
  all_goals first
    | with_reducible exact State.onlyPass_writeRecords ..
    | with_reducible exact State.onlyPass_nextOutcome ..
    | exact (State.onlyPass_remark s p).trans (State.onlyPass_endPass ..)
    | rfl

theorem State.onlyPass_writeBackEnded (s : State) (p : Pass) (wrote : Bool) (todo : List Slot) (purpose : Purpose)
    (data : Option (List Byte)) : s.OnlyPass (s.writeBackEnded p wrote todo purpose data) := by
  have h := State.onlyPass_writeBackEffect s purpose data
  unfold State.writeBackEnded
  dsimp only
  split
  · refine h.trans ((State.onlyPass_endPass _ _).after ?_)
    split <;> rfl
  · exact h.trans ((State.onlyPass_writeBackNext ..).after rfl)

/-! ## Directive intake -/

theorem State.onlyPass_endIntake (s : State) (p : Pass) : s.OnlyPass (s.endIntake p) := by
  unfold State.endIntake
  split
  · exact State.onlyPass_writeRecords ..
  · rfl

theorem State.onlyPass_intakeFrom (s : State) (p : Pass) (n : Nat) : s.OnlyPass (s.intakeFrom p n) := by
  unfold State.intakeFrom
  split
  · rfl
  · exact State.onlyPass_endIntake s p

theorem State.onlyPass_slotStateRead (s : State) (p : Pass) (n : Slot) (v : Nat) :
    s.OnlyPass (s.slotStateRead p n v) := by
  unfold State.slotStateRead
  repeat' split
  all_goals first
    | with_reducible exact State.onlyPass_intakeFrom ..
    | exact (State.onlyPass_intakeFrom ..).after rfl
    | rfl

theorem State.onlyPass_intakeEnded (s : State) (p : Pass) (run : Option DirectiveRun) (purpose : Purpose)
    (data : Option (List Byte)) : s.OnlyPass (s.intakeEnded p run purpose data) := by
  have failed (n : Slot) : s.OnlyPass (s.failTaken p n) := (State.onlyPass_writeRecords ..).after rfl
  unfold State.intakeEnded
  split
  · exact State.onlyPass_slotStateRead ..
  · rfl
  · unfold State.beginDirective
    dsimp only
    split <;> rfl
  all_goals first
    | with_reducible exact failed _
    | rfl
    | exact State.onlyPass_writeRecords ..

theorem State.onlyPass_finishDirective (s : State) (p : Pass) (d : DirectiveRun) : s.OnlyPass (s.finishDirective p d) :=
  (State.onlyPass_intakeFrom ..).after rfl

theorem State.onlyPass_concludeDirective (s : State) (p : Pass) (d : DirectiveRun) (code : OutcomeCode) :
    s.OnlyPass (s.concludeDirective p d code) :=
  (State.onlyPass_finishDirective ..).after rfl

/-! ## Gather -/

theorem State.onlyPass_testReleasingEnd (s : State) : s.OnlyPass s.testReleasingEnd := by
  unfold State.testReleasingEnd
  split <;> rfl

theorem State.onlyPass_on (s : State) (f : Cluster → Cluster) : s.OnlyPass (s.on f) := rfl

theorem State.onlyPass_starvationCheck (s : State) (taken visited failed : Bool) :
    s.OnlyPass (s.starvationCheck taken visited failed) := by
  unfold State.starvationCheck
  split
  · rfl
  · split
    · rfl
    · dsimp only
      split
      · exact (State.onlyPass_testReleasingEnd _).after ((State.onlyPass_on _ _).after rfl)
      · rfl

theorem State.onlyPass_endGather (s : State) (p : Pass) (taken visited failed : Bool) :
    s.OnlyPass (s.endGather p taken visited failed) := by
  have h := State.onlyPass_starvationCheck s taken visited failed
  unfold State.endGather
  dsimp only
  split
  · exact h.trans (State.onlyPass_writeRecords ..)
  · exact h.trans (State.onlyPass_intakeFrom ..)

theorem State.onlyPass_gatherFrom (s : State) (p : Pass) (taken visited : Bool) (start : Nat) :
    s.OnlyPass (s.gatherFrom p taken visited start) := by
  unfold State.gatherFrom
  split
  · rfl
  · exact State.onlyPass_endGather ..

theorem State.onlyPass_gatherEnded (s : State) (p : Pass) (taken visited : Bool) (purpose : Purpose)
    (data : Option (List Byte)) : s.OnlyPass (s.gatherEnded p taken visited purpose data) := by
  unfold State.gatherEnded
  split
  · rfl
  · rfl
  · refine (State.onlyPass_gatherFrom ..).after ?_
    unfold State.slotVisited
    dsimp only
    split <;> rfl
  · exact State.onlyPass_endGather ..

/-- The end of an access of a pass works on what a pass works on alone. -/
theorem State.onlyPass_passEnded (s : State) (p : Pass) (purpose : Purpose) (data : Option (List Byte)) :
    s.OnlyPass (s.passEnded p purpose data) := by
  have cut : s.OnlyPass (s.cutEnded purpose data) := (State.onlyPass_endPass ..).after rfl
  unfold State.passEnded
  split
  · exact State.onlyPass_writeBackEnded ..
  · split
    · exact cut
    · exact State.onlyPass_gatherEnded ..
  · split
    · exact cut
    · exact State.onlyPass_intakeEnded ..
  · rfl

/-- A visit of a decision pass works on what a pass works on alone. -/
theorem State.onlyPass_visitNext (s : State) (p : Pass) (position : Nat) : s.OnlyPass (s.visitNext p position) := by
  unfold State.visitNext
  split
  · next h =>
    have g := (State.onlyPass_testReleasingEnd (s.on fun w => w.passVisit s.setting ⟨position, h⟩)).after
      (r := s) rfl
    dsimp only
    split
    · exact g.trans rfl
    · exact g.trans (State.onlyPass_writeRecords ..)
  · exact State.onlyPass_writeRecords ..

/-- The directives that walk over carriers work on what a pass works on alone. -/
theorem State.onlyPass_walkDirective (s : State) (p : Pass) (d : DirectiveRun) (n : Nat)
    (act : Cluster → Carrier → Cluster × Bool) : s.OnlyPass (s.walkDirective p d n act) := by
  unfold State.walkDirective
  have g (w : Cluster) := (State.onlyPass_testReleasingEnd (s.on fun _ => w)).after (r := s) rfl
  dsimp only
  split
  · exact (g _).trans (State.onlyPass_concludeDirective ..)
  · exact (g _).trans rfl

end Sys2Proof.Machine
end

