-- ==== Sys2Proof/Laws/Windows.lean ====
section
/-! SUPPORT. The orders of a minute event and of a LOAD_POLICY name each part once, and what the parts of a minute event leave
alone (section 9). -/

namespace Sys2Proof.Machine

/-! ## Orders -/

/-- Dropping repetitions leaves none. -/
theorem nodup_eraseDups {α : Type} [BEq α] [LawfulBEq α] : ∀ (n : Nat) (l : List α), l.length ≤ n → l.eraseDups.Nodup
  | _, [], _ => by simp
  | n + 1, a :: l, h => by
    rw [List.eraseDups_cons, List.nodup_cons]
    refine ⟨by simp, nodup_eraseDups n _ ?_⟩
    have := List.length_filter_le (fun b => !b == a) l
    simp only [List.length_cons] at h
    omega

/-- A completed order names each of the things once. -/
theorem nodup_completed {α : Type} [BEq α] [LawfulBEq α] (order all : List α) (h : all.Nodup) :
    (order.eraseDups ++ all.filter fun p => !order.contains p).Nodup := by
  rw [List.nodup_append]
  refine ⟨nodup_eraseDups _ order (Nat.le_refl _), h.filter _, ?_⟩
  intro a ha b hb hab
  subst hab
  rw [List.mem_eraseDups] at ha
  simp at hb
  exact hb.2 ha

/-- A completed order names every one of the things. -/
theorem mem_completed {α : Type} [BEq α] [LawfulBEq α] (order all : List α) {p : α} (h : p ∈ all) :
    p ∈ order.eraseDups ++ all.filter fun q => !order.contains q := by
  by_cases hp : p ∈ order <;> simp [List.mem_eraseDups, hp, h]

/-- The parts of a minute event: each once. -/
theorem completeParts_nodup (order : List MinutePart) : (completeParts order).Nodup :=
  nodup_completed order _ (by decide)

/-- The parts of a minute event: every one of them. -/
theorem mem_completeParts (order : List MinutePart) (p : MinutePart) : p ∈ completeParts order := by
  refine mem_completed order _ ?_
  cases p with
  | window n => revert n; decide
  | countdown => decide
  | accounting => decide

/-- The windows of a LOAD_POLICY: each once. -/
theorem completeWindows_nodup (order : List WindowNo) : (completeWindows order).Nodup :=
  nodup_completed order _ (by decide)

/-- The windows of a LOAD_POLICY: every one of them. -/
theorem mem_completeWindows (order : List WindowNo) (n : WindowNo) : n ∈ completeWindows order :=
  mem_completed order _ (by revert n; decide)

/-! ## Windows and their phases -/

theorem State.window_setPhase (s : State) (n m : WindowNo) (ph : WindowPhase) :
    (s.setPhase n ph).window m = if n = m then { s.window n with phase := ph } else s.window m := by
  simp [State.setPhase, State.window, Vector.getElem_set, Fin.ext_iff]

@[simp] theorem State.window_on (s : State) (f : Cluster → Cluster) (n : WindowNo) : (s.on f).window n = s.window n := rfl

@[simp] theorem State.window_notify (s : State) (m : Notice) (n : WindowNo) : (s.notify m).window n = s.window n := rfl

/-- The tests' view of the phases is that of the windows. -/
theorem State.phases_get (s : State) (n : WindowNo) : s.phases[n] = (s.window n).phase := by
  simp [State.phases, State.window]

/-- A CLOSE leaves its window SHUT, every other window as it was (R160). -/
theorem State.window_closeMatch (s : State) (n m : WindowNo) :
    (s.closeMatch n).window m = if n = m then { s.window n with phase := .closed } else s.window m := by
  unfold State.closeMatch
  split
  · next h =>
    split
    · next hm => subst hm; rw [← h]
    · rfl
  · rw [State.window_on, State.window_setPhase]

/-- An OPEN takes a SHUT window to OPEN, and leaves every other window as it was (R160). -/
theorem State.window_openMatch (s : State) (n m : WindowNo) :
    (s.openMatch n).window m =
      if n = m ∧ (s.window n).phase = .closed then { s.window n with phase := .opened } else s.window m := by
  unfold State.openMatch
  split
  · next h => rw [State.window_on, State.window_setPhase]; simp [h]
  · next h => simp [h]

/-- A DEEP_STOP takes an OPEN window to SHALLOW, and leaves every other window as it was (R160). -/
theorem State.window_deepStopMatch (s : State) (n m : WindowNo) :
    (s.deepStopMatch n).window m =
      if n = m ∧ (s.window n).phase = .opened then { s.window n with phase := .shallow } else s.window m := by
  unfold State.deepStopMatch
  split
  · next h => rw [State.window_on, State.window_setPhase]; simp [h]
  · next h => simp [h]

/-- The follow-up changes no window. -/
theorem State.window_shallowFollowUp (s : State) (n m : WindowNo) : (s.shallowFollowUp n).window m = s.window m := by
  unfold State.shallowFollowUp
  split <;> rfl

/-- Where no window acts, none changes anything. -/
theorem State.evalWindow_rests {s : State} {m : MinuteStamp} {n : WindowNo} (h : ¬(s.window n).Acts m) :
    s.evalWindow m n = s := by
  have fires : ∀ x : WindowMatch, ((s.window n).entry.enabled && x.fires m) = true ↔ (s.window n).Fires x m := by
    intro x
    obtain ⟨_, hour, minute⟩ := x
    cases hour <;> cases minute <;> simp [WindowMatch.fires, fieldFits, Window.Fires, and_assoc]
  simp only [Window.Acts, not_or] at h
  obtain ⟨hc, ho, hs, hf⟩ := h
  have closing :
      (if ((s.window n).entry.enabled && (s.window n).entry.closeAt.fires m) = true then s.closeMatch n else s) = s := by
    split
    · next g => simp [State.closeMatch, Classical.not_not.1 fun p => hc ⟨p, (fires _).1 g⟩]
    · rfl
  have opening :
      (if ((s.window n).entry.enabled && (s.window n).entry.openAt.fires m) = true then s.openMatch n else s) = s := by
    split
    · next g => rw [State.openMatch, if_neg fun p => ho ⟨(fires _).1 g, Or.inl p⟩]
    · rfl
  have stopping :
      (if ((s.window n).entry.enabled && (s.window n).entry.deepStopAt.fires m) = true then s.deepStopMatch n else s) = s := by
    split
    · next g => rw [State.deepStopMatch, if_neg fun p => hs ⟨(fires _).1 g, Or.inr ⟨p, hc⟩⟩]
    · rfl
  simp only [State.evalWindow, closing, opening, stopping]
  rw [State.shallowFollowUp, if_neg fun p => hf ⟨p, hc⟩]

end Sys2Proof.Machine
end

