-- ==== Sys2Proof/Tests/Slice0.lean ====
section
/-! SUPPORT. Tests: ill-formed commands refused by WellFormed; the spec's worked figures; and for each statement with hypotheses a
state that meets them. The figures come from the worked examples of spec/: 03 (utilisation, smoothing, projection), 06 (sector
night), 07 (lane), 09 (night across midnight), 11 (accounting), 12 (codes and frames). -/

namespace Sys2Proof.Tests

open Sys2Proof Sys2Proof.Machine

-- One theorem after the other: the threads that wait for the kernel would each hold a stack.
set_option Elab.async false

/-! ## Fixture: the sector night of section 6 -/

/-- The state that a command answers. -/
def after (c : Instr) (s : State) : State :=
  match exec c s with
  | .next t => t
  | .fault _ | .refused _ => s

/-- The cover 0x50 of the sector night. -/
def cover : Context where
  cfg :=
    { present := true, window := some 1, capacity := 50, wakeLimit := 500, absorbLimit := 600, wakeDwell := 2,
      sleepDwell := 1, userCeiling := 20, budget := 2, resleepHold := 15 }
  state := .serving
  cls := .fresh
  load := 3200

/-- A candidate of the sector night. -/
def candidate (capacity load users count deepen : Nat) : Context where
  cfg :=
    { present := true, cover := some 0x50, window := some 1, capacity, sleepLimit := 150, sleepDwell := 2, wakeDwell := 1,
      userCeiling := 20, budget := 2, resleepHold := 15, deepenDelay := deepen, lightSaving := 120, darkSaving := 250 }
  state := .serving
  cls := .fresh
  load
  lastUsers := users
  sleepCount := count

/-- A window that is enabled and OPEN, with the matches of window 2 of section 9's night. -/
def openWindow : Window where
  entry :=
    { enabled := true
      openAt := { mask := 0b0010000#7, hour := some 23, minute := some 0 }
      deepStopAt := { mask := 0b0100000#7, hour := some 4, minute := some 30 }
      closeAt := { mask := 0b0100000#7, hour := some 6, minute := some 0 } }
  phase := .opened

def policy : Policy := { settle := 1, residual := 1, shedAttempts := 3, shedInterval := 30, wakeAttempts := 2, busyBackoff := 20 }

/-- The sector at sweep 300, the channel of site 5 UP. -/
def night : State :=
  { State.reset with
    runState := .running
    policy
    windows := State.reset.windows.set 1 openWindow
    cluster :=
      ((((Cluster.reset.setCtx 0x50 cover).setCtx 0x51 (candidate 40 1280 4 1 30)).setCtx 0x52
        (candidate 100 1600 9 1 0)).setCtx 0x53 (candidate 60 2560 9 0 0)).setChannel 5 { up := true } }

def pass (phase : Phase) : Pass := { sweep := true, base := 0x00012#20, leftRunning := false, cut := false, phase }

/-- A pass in a phase, with no access outstanding. -/
def inPhase (s : State) (phase : Phase) : State := { s with pass := some (pass phase) }

def access (purpose : Purpose) (write : Bool) (length : Nat) : Access :=
  { number := 7, write, address := 0x00012840#32, length, data := [], purpose, waited := 0 }

/-- A pass in a phase, with an access outstanding. -/
def awaits (s : State) (phase : Phase) (purpose : Purpose) (write : Bool) (length : Nat) : State :=
  { s with pass := some (pass phase), port := some (access purpose write length) }

def entry (c : Carrier) (phase : EntryPhase) (absorbed : Nat) : Entry :=
  { carrier := c, phase, absorbed, depth := .light, settle := 0, reason := .dwell, deepenAtOnce := false }

/-- 0x51 in a state, with an entry in a phase on 0x50. -/
def asleep (st : CarrierState) (phase : EntryPhase) : State :=
  night.on fun w => (w.setCtx 0x51 { w.ctx 0x51 with state := st }).setStack 0x50 [entry 0x51 phase 1024]

/-- A command of attempt 1 to a carrier is outstanding under tag 3. -/
def commanded (s : State) (c : Carrier) (command : RadioCommand) (attempt : Nat) : State :=
  s.on fun w =>
    (w.setLane 5 { outstanding := some { carrier := c, command, attempt, tag := 3#4 } }).setChannel 5
      { up := true, liveTag := some 3#4, nextTag := 4#4, timeLeft := 0 }

/-- A reply frame under tag 3. -/
def frame (outcome radio users : Nat) : List Byte :=
  let b : List Byte := [3#8, BitVec.ofNat 8 outcome, BitVec.ofNat 8 radio, BitVec.ofNat 8 users, 0#8]
  b ++ [checkByte b]

def reply (outcome : ReplyOutcome) (radio : RadioState) (users : Nat) : Reply := { tag := 3#4, outcome, radio, users }

/-- A directive of a kind that names 0x51 alone, at its position, in slot 4. -/
def directive (kind : Option DirectiveKind) : DirectiveRun :=
  { slot := 4, kind, base := 0x51#8, mask := 0#8, stateMask := 0xFFF#16, params := [2#8], position := 0x51, begun := true,
    stopped := false, affected := 0, skipped := 0, policy := none, row := none }

/-- 0x51 in a state under a PROBE of slot 4 whose selection is done. -/
def probing (st : CarrierState) : State :=
  night.on fun w =>
    { w.setCtx 0x51 { w.ctx 0x51 with state := st, probeOrigin := some .serving } with
      probes := [{ slot := 4, members := [0x51], selectionDone := true, affected := 0, skipped := 0 }] }

/-- 0x51 held for some minutes. -/
def heldAt (minutes : Nat) : State := night.on fun w => w.setCtx 0x51 { w.ctx 0x51 with holdLeft := minutes }

/-- The sector with a carrier in another load class. -/
def classed (c : Carrier) (cls : LoadClass) : Cluster := night.cluster.setCtx c { night.cluster.ctx c with cls }

/-- A directive waits to be executed. -/
def executing (s : State) (d : DirectiveRun) : State := inPhase s (.intake (some d))

/-! ## WellFormed -/

theorem test_wellFormed_refuses_runctl_code : (Instr.runctlInvalidCode 1#3).wellFormed = false := by decide
theorem test_wellFormed_refuses_taken_write : (Instr.registerWriteIgnored 0x0C 0#32 0xF#4).wellFormed = false := by decide
theorem test_wellFormed_refuses_window_twice : (Instr.loadPolicy [0, 0, 2, 3, 4, 5, 6, 7]).wellFormed = false := by decide
theorem test_wellFormed_refuses_no_rows : (Instr.loadCarriers 0).wellFormed = false := by decide
theorem test_wellFormed_refuses_long_holdOn : (Instr.holdOn 257).wellFormed = false := by decide
theorem test_wellFormed_refuses_no_releaseHold : (Instr.releaseHold 0).wellFormed = false := by decide
theorem test_wellFormed_refuses_long_sleepNow : (Instr.sleepNow 257).wellFormed = false := by decide
theorem test_wellFormed_refuses_no_probe : (Instr.probe 0).wellFormed = false := by decide
theorem test_wellFormed_refuses_missing_part : (Instr.minuteEvent [.countdown, .accounting]).wellFormed = false := by
  decide +kernel
theorem test_wellFormed_takes_default_minute : (Instr.minuteEvent allMinuteParts).wellFormed = true := by decide +kernel

/-! ## Worked figures -/

/-- Section 3.2, worked utilisation figures. -/
theorem test_utilisation_figures :
    utilisation 12 100 = (120, false) ∧ utilisation 1 16 = (63, false) ∧ utilisation 7 30 = (233, false) ∧
      utilisation 0 10 = (0, false) ∧ utilisation 4000 4000 = (1000, false) ∧ utilisation 3001 3000 = (1000, true) := by
  decide

/-- Section 3.3, worked smoothing cases. -/
theorem test_smoothing_figures :
    smooth 3 4800 1920 = 4440 ∧ smooth 2 1000 3200 = 1550 ∧ smooth 3 3200 1600 = 3000 ∧ smooth 3 2825 1600 = 2672 ∧
      smooth 7 1000 1060 = 1000 ∧ smooth 7 1000 1064 = 1001 := by
  decide

/-- Section 3.6, worked projection cases: A, P, rounding up and saturation. -/
theorem test_projection_figures :
    absorbedLoad (candidate 100 1600 0 0 0) cover = 3200 ∧
      projection cover [entry 0x53 .settled 2000, entry 0x51 .reserved 800] 3200 = 7200 ∧
        absorbedLoad (candidate 30 1000 0 0 0) (candidate 70 0 0 0 0) = 429 ∧
          absorbedLoad (candidate 4000 16000 0 0 0) (candidate 10 0 0 0 0) = 65535 := by
  decide

/-- Section 6, sector night, sweep 300: 0x51 and 0x52 are reserved with A 1024 and 3200. -/
theorem test_visit_reserves :
    (after .decisionVisit (inPhase (after .decisionVisit (inPhase night (.decision 0x51))) (.decision 0x52))).stack 0x50 =
      [{ entry 0x51 .reserved 1024 with depth := .none }, { entry 0x52 .reserved 3200 with depth := .none }] := by
  decide +kernel

/-- Section 6, sector night, sweep 300: 0x53 is refused with LOAD, 0x50 with NO_COVER. -/
theorem test_visit_refuses :
    ((after .decisionVisit (inPhase night (.decision 0x53))).ctx 0x53).lastRefusal = some .load ∧
      ((after .decisionVisit (inPhase night (.decision 0x50))).ctx 0x50).lastRefusal = some .noCover := by
  decide +kernel

/-- Section 8.4 and 12.7: the command frame of GATE to 0x51 (sector 0, slot 1) under tag 3. -/
theorem test_command_frame : commandFrame 3#4 0x51 .gate 0 = [3#8, 0#8, 1#8, 1#8, 0#8, 251#8] := by decide

/-- Section 7, worked lane, event 1: RAISE BUSY below the attempt limit joins RAISE again with wait 20 and attempt 2. -/
theorem test_raise_busy :
    ((after (.radioReply 5 (frame 1 0 0)) (commanded (asleep .raising .returning) 0x51 .raise 1)).lane 5).queue =
      [{ carrier := 0x51, command := .raise, seq := 0, wait := 20, attempt := 2 }] := by
  decide +kernel

/-- Section 9, night across midnight: 23:59:59 on weekday 4, day 812, goes to 00:00:00 on weekday 5, day 813. -/
theorem test_midnight :
    Clock.second { seconds := 59, minutes := 59, hours := 23, weekday := 4, day := 812, sub := 9, valid := true } =
      { seconds := 0, minutes := 0, hours := 0, weekday := 5, day := 813, sub := 0, valid := true } := by
  decide

/-- The clock that a minute event carries, on day 813. -/
def stamped (m h d : Nat) : MinuteStamp := { seconds := 0, minutes := m, hours := h, weekday := d, day := 813 }

/-- Section 9, night across midnight: the DEEP_STOP at 04:30 on weekday 5 takes the OPEN window to SHALLOW. -/
theorem test_deep_stop :
    ((after (.minuteEvent []) { night with minutesDue := [stamped 30 4 5] }).window 1).phase = .shallow := by
  decide +kernel

/-- Section 11, worked minute of accounting: what LIGHT, WARMING and STRAY carriers add, and their minutes. -/
theorem test_accounting :
    Context.saving { candidate 40 0 0 0 0 with state := .light } = 120 ∧
      Context.saving { candidate 40 0 0 0 0 with state := .warming } = 250 ∧
        Context.saving { candidate 40 0 0 0 0 with state := .stray } = 0 ∧
          (Context.account { candidate 40 0 0 0 0 with state := .light, lightMinutes := 42 }).lightMinutes = 43 := by
  decide

/-- Section 1.7: XBASE reads bits 31:12 of what was written; the highest base is taken, the next one refused. -/
theorem test_xbase :
    (after (.xbaseWrite 0xFFFFA123#32) State.reset).readRegister 0x00 = 0xFFFFA000#32 ∧
      (after (.xbaseWrite 0xFFFFB000#32) State.reset).refused = true ∧
        (after (.xbaseWrite 0x1000#32) night).refused = true := by
  decide +kernel

/-! ## Witnesses: a state that meets the hypotheses of each statement -/

/-- The command answers a next state, is not power-on reset, and changes the piece of state. -/
def Changes {α : Type} (c : Instr) (s : State) (f : State → α) : Prop :=
  exec c s = .next (after c s) ∧ c ≠ .powerOnReset ∧ f (after c s) ≠ f s

/-- A queue of two commands; an empty queue with a sweep whose begin is due. -/
theorem witness_StepRunsFrontCommand :
    ({ night with pending := [.sweepNow, .hold] } : State).pending = .sweepNow :: [.hold] ∧ night.pending = [] ∧
      ({ night with timer := { sweepPending := true } } : State).dueEvent = some .sweepBegin :=
  ⟨rfl, rfl, by decide +kernel⟩

def loading : DirectiveRun :=
  { directive (some .loadPolicy) with policy := some ({ reload := 9 }, Vector.replicate 8 { enabled := true }) }

theorem witness_RegistersHaveWriters :
    Changes (.xbaseWrite 0x1000#32) State.reset State.xbase ∧ Changes (.noteenWrite 1#32) State.reset State.noteEn ∧
      Changes .civilClockSecond { State.reset with clock := { valid := true } } State.clock ∧
        Changes .clearTally (executing { night with fleetTally := 5 } (directive (some .clearTally))) State.fleetTally ∧
          Changes .sweepBegin { night with timer := { sweepPending := true } } State.sweepCount ∧
            Changes (.radioReply 5 []) night State.late ∧
              Changes (.loadPolicy []) (executing night loading) State.policy ∧
                Changes (.loadPolicy []) (executing night loading) State.windows ∧
                  Changes (.linkUp 4) night (fun s => (s.channel 4).up) ∧
                    Changes (.laneGrant 5) (night.on fun w => w.want 0x51 .query) (fun s => (s.channel 5).nextTag) := by
  refine ⟨?_, ?_, ?_, ?_, ?_, ?_, ?_, ?_, ?_, ?_⟩ <;> exact ⟨rfl, by decide, by decide +kernel⟩

def row : CarrierRow := { present := true, capacityOk := true, cfg := cover.cfg }

/-- Start-up with one row left to read. -/
def starting : State :=
  { State.reset with
    startup := some { base := 0#20, rows := List.replicate 255 row }
    port := some (access (.startupRow 255) false 32) }

/-- HOLDING, and quiet. -/
def quiet : State := { State.reset with runState := .holding }

theorem witness_RunStateEdges :
    Changes (.memoryAccessComplete 7 (List.replicate 32 0#8)) starting State.runState ∧ Changes .hold night State.runState ∧
      Changes .release (asleep .light .settled) State.runState ∧ Changes .run quiet State.runState ∧
        Changes .release { asleep .light .settled with runState := .holding } State.runState ∧
          Changes .halt quiet State.runState ∧
            Changes (.radioReply 5 (frame 0 0 0))
              { commanded (asleep .raising .returning) 0x51 .raise 1 with runState := .releasing } State.runState := by
  refine ⟨?_, ?_, ?_, ?_, ?_, ?_, ?_⟩ <;> exact ⟨rfl, by decide, by decide +kernel⟩

theorem witness_RunStateEdges_sound :
    starting.HaltedSound ∧ night.HaltedSound ∧ (asleep .light .settled).HaltedSound ∧ quiet.HaltedSound := by
  refine ⟨?_, ?_, ?_, ?_⟩ <;> decide +kernel

/-- A cluster in which one carrier alone sleeps, with its one entry on its cover, agrees with itself where its lanes do. -/
theorem coherent_one {w : Cluster} {c k : Carrier} {e : Entry} (he : e.carrier = c)
    (hk : ∀ d : Carrier, w.stack d = if d = k then [e] else [])
    (own : (w.ctx c).sleeps = true ∧ ((w.ctx c).reserved = true → (w.ctx c).state = .serving) ∧
      (w.ctx c).cfg.cover = some k ∧ e.phase.fits (w.ctx c).state = true)
    (awake : ∀ d : Carrier, d ≠ c → (w.ctx d).sleeps = false ∧ (w.ctx d).reserved = false)
    (owner : ((w.ctx k).state = .serving ∧ (w.ctx k).reserved = false) ∨ (w.ctx k).state = .faulted)
    (lanes : w.LanesSound ∧ w.WantsFit ∧ w.SentFit) : w.Coherent := by
  subst he
  have stands : ∀ d j : Carrier, w.standsOn d j = true ↔ d = e.carrier ∧ j = k := by
    intro d j
    rw [Cluster.standsOn, hk]
    by_cases hj : j = k
    · simp only [hj, if_true, List.any_cons, List.any_nil, Bool.or_false, beq_iff_eq, and_true]; exact eq_comm
    · simp [hj]
  refine ⟨lanes.1, fun d => ⟨fun h => ?_, ?_, fun j => ?_⟩, fun j h => ?_, fun d h => ?_, fun j x h => ?_, lanes.2⟩
  · by_cases hd : d = e.carrier
    · subst hd; simp [own.2.2.1]
    · simp [(awake d hd).1] at h
  · by_cases hd : d = k <;> simp [hk, hd]
  · rw [stands]
    by_cases hd : d = e.carrier
    · subst hd; simp [own.1, own.2.2.1, eq_comm]
    · simp [hd, (awake d hd).1]
  · by_cases hj : j = k
    · subst hj; exact owner
    · simp [hk, hj] at h
  · by_cases hd : d = e.carrier
    · subst hd; exact own.2.1 h
    · simp [(awake d hd).2] at h
  · by_cases hj : j = k
    · simp [hk, hj] at h; subst h; exact own.2.2.2
    · simp [hk, hj] at h

theorem reset_ctx (d : Carrier) : Cluster.reset.ctx d = {} := by simp [Cluster.reset, Cluster.ctx]
theorem reset_stack (d : Carrier) : Cluster.reset.stack d = [] := by simp [Cluster.reset, Cluster.stack]
theorem reset_lane (i : Site) : Cluster.reset.lane i = {} := by simp [Cluster.reset, Cluster.lane]

theorem night_awake (d : Carrier) : (night.cluster.ctx d).sleeps = false ∧ (night.cluster.ctx d).reserved = false := by
  simp only [night, Cluster.ctx_setChannel, Cluster.ctx_setCtx, reset_ctx]
  repeat' split
  all_goals exact ⟨rfl, rfl⟩
theorem night_stack (d : Carrier) : night.cluster.stack d = [] := by
  simp only [night, Cluster.stack_setChannel, Cluster.stack_setCtx, reset_stack]
theorem night_lane (i : Site) : night.cluster.lane i = {} := by
  simp only [night, Cluster.lane_setChannel, Cluster.lane_setCtx, reset_lane]
theorem night_owner : (night.cluster.ctx 0x50).state = .serving ∧ (night.cluster.ctx 0x50).reserved = false := by
  simp [night, Cluster.ctx_setCtx, cover]

/-- Over a cluster without entries, wants and commands in which no carrier sleeps: one carrier asleep on 0x50, with its context x
and its lane l, which holds no want or one that fits, agrees with itself. -/
theorem coherent_over {b : Cluster} {c : Carrier} {x : Context} {e : Entry} {l : Lane}
    (rests : (∀ d : Carrier, b.stack d = []) ∧ (∀ i : Site, b.lane i = {}) ∧
      ∀ d : Carrier, (b.ctx d).sleeps = false ∧ (b.ctx d).reserved = false)
    (owner : ((b.ctx 0x50).state = .serving ∧ (b.ctx 0x50).reserved = false) ∨ (b.ctx 0x50).state = .faulted)
    (hc : c ≠ 0x50) (he : e.carrier = c)
    (own : x.sleeps = true ∧ (x.reserved = true → x.state = .serving) ∧ x.cfg.cover = some 0x50 ∧ e.phase.fits x.state = true)
    (hl : l.outstanding = none ∧
      (l.queue = [] ∨ ∃ y, l.queue = [y] ∧ y.carrier = c ∧ y.command ≠ .raise ∧ y.command.fitsWanted x = true)) :
    (night.on fun _ => ((b.setCtx c x).setStack 0x50 [e]).setLane (siteOf c) l).Coherent := by
  have awake : ∀ d : Carrier, d ≠ c → (((b.setCtx c x).setStack 0x50 [e]).setLane (siteOf c) l).ctx d = b.ctx d :=
    fun d hd => by rw [Cluster.ctx_setLane, Cluster.ctx_setStack, Cluster.ctx_setCtx_ne _ (Ne.symm hd)]
  have own' : (((b.setCtx c x).setStack 0x50 [e]).setLane (siteOf c) l).ctx c = x := by simp
  have lane : ∀ i : Site, (((b.setCtx c x).setStack 0x50 [e]).setLane (siteOf c) l).lane i =
      if siteOf c = i then l else {} := fun i => by
    rw [Cluster.lane_setLane, Cluster.lane_setStack, Cluster.lane_setCtx, rests.2.1]
  refine ⟨coherent_one (k := 0x50) (w := ((b.setCtx c x).setStack 0x50 [e]).setLane (siteOf c) l) he
    (fun d => ?_) ?_ (fun d hd => ?_) ?_ ⟨fun i => ?_, fun i y h => ?_, fun i o h => ?_⟩,
    ⟨fun h => absurd rfl h, fun h => nomatch h⟩, fun p h => nomatch h⟩
  · simp only [Cluster.stack_setLane, Cluster.stack_setStack, Cluster.stack_setCtx, rests.1, eq_comm]
  · rw [own']; exact own
  · rw [awake d hd]; exact rests.2.2 d
  · rw [awake _ (Ne.symm hc)]; exact owner
  · rw [lane i]
    split
    · next hi => rcases hl with ⟨ho, hq | ⟨y, hq, hy, -⟩⟩ <;> simp [Lane.Sound, Lane.carriers, *]
    · simp [Lane.Sound, Lane.carriers]
  · rw [lane i] at h
    split at h
    · rcases hl with ⟨-, hq | ⟨y', hq, hy, hg, hf⟩⟩
      · simp [hq] at h
      · rw [hq, List.mem_singleton] at h
        subst h
        rw [hy, own']
        exact ⟨hf, fun h => absurd h hg⟩
    · simp at h
  · rw [lane i] at h
    split at h <;> simp [hl.1] at h

/-- The sector with one carrier asleep on 0x50, its context x and its lane l, agrees with itself. -/
theorem coherent_night {c : Carrier} {x : Context} {e : Entry} {l : Lane} (hc : c ≠ 0x50) (he : e.carrier = c)
    (own : x.sleeps = true ∧ (x.reserved = true → x.state = .serving) ∧ x.cfg.cover = some 0x50 ∧ e.phase.fits x.state = true)
    (hl : l.outstanding = none ∧
      (l.queue = [] ∨ ∃ y, l.queue = [y] ∧ y.carrier = c ∧ y.command ≠ .raise ∧ y.command.fitsWanted x = true)) :
    (night.on fun w => ((w.setCtx c x).setStack 0x50 [e]).setLane (siteOf c) l).Coherent :=
  coherent_over ⟨night_stack, night_lane, night_awake⟩ (Or.inl night_owner) hc he own hl

/-- The same with every lane empty. -/
theorem coherent_resting {c : Carrier} {x : Context} {e : Entry} (hc : c ≠ 0x50) (he : e.carrier = c)
    (own : x.sleeps = true ∧ (x.reserved = true → x.state = .serving) ∧ x.cfg.cover = some 0x50 ∧
      e.phase.fits x.state = true) : (night.on fun w => (w.setCtx c x).setStack 0x50 [e]).Coherent := by
  have empty : ((night.cluster.setCtx c x).setStack 0x50 [e]).setLane (siteOf c) {} =
      (night.cluster.setCtx c x).setStack 0x50 [e] := by
    rw [← night_lane (siteOf c)]
    simp [Cluster.setLane, Cluster.setStack, Cluster.setCtx, Cluster.lane]
  have h := coherent_night hc he own (l := {}) ⟨rfl, Or.inl rfl⟩
  simp only [State.on, empty] at h
  exact h

/-- The sector with 0x51 asleep on 0x50 agrees with itself. -/
theorem asleep_coherent {st : CarrierState} {phase : EntryPhase} (h : st.inSleepPath = true ∧ phase.fits st = true) :
    (asleep st phase).Coherent :=
  coherent_resting (by decide) rfl
    ⟨by simp [Context.sleeps, h.1], by simp [night, Cluster.ctx_setCtx, candidate],
      by simp [night, Cluster.ctx_setCtx, candidate], h.2⟩

theorem witness_Coherent : (asleep .light .settled).Coherent := asleep_coherent ⟨rfl, rfl⟩

/-- CoherentStep, TagsAgreeStep and BoundsStep: the sleeping sector takes a step. -/
theorem witness_invariant_steps :
    step { asleep .light .settled with pending := [.linkDown 5] } =
        .next (after (.linkDown 5) (asleep .light .settled)) ∧ (asleep .light .settled).Coherent ∧
      (asleep .light .settled).cluster.TagsAgree ∧ (asleep .light .settled).cluster.StacksFit ∧
        (asleep .light .settled).CountersInRange ∧ (asleep .light .settled).PortInArea :=
  ⟨rfl, witness_Coherent, by decide +kernel, by decide +kernel, by decide +kernel, by decide +kernel, fun a h => nomatch h⟩

/-- BoundsStep: the row of carrier 2 lies in the area at the base of the pass; an access at the gap does not. -/
theorem witness_PortInArea :
    (awaits night (.intake none) (.directiveRow 4 2) false 32).PortInArea ∧ ¬inArea 0x00012#20 0x00012600#32 1 := by
  refine ⟨⟨by decide +kernel, fun a h => ?_⟩, fun ⟨offset, h, g⟩ => ?_⟩
  · cases h
    exact ⟨0x00012#20, rfl, 0x840, by decide, Or.inr ⟨by decide, by decide⟩⟩
  · have e := congrArg BitVec.toNat h
    simp at e
    omega

theorem witness_PortWrites :
    writeIgnored 0x08 0xF#4 = true ∧ writeIgnored 0x14 0xF#4 = true ∧ writeIgnored 0x04 0x7#4 = true ∧
      commandOfWrite 0x04 0xFFFFFFFB#32 0xF#4 = .release ∧ commandOfWrite 0x04 6#32 0xF#4 = .runctlInvalidCode 6#3 ∧
        commandOfWrite 0x0C 5#32 0xF#4 = .noteWrite 5#32 := by
  decide

theorem witness_InterruptLineLevel :
    (night.notify .minute).interruptLine = false ∧
      (after (.noteenWrite 16#32) (night.notify .minute)).interruptLine = true ∧
        (after (.noteWrite 0x2F#32) (after (.noteenWrite 16#32) (night.notify .minute))).interruptLine = false := by
  decide +kernel

theorem witness_RunctlTable :
    (State.reset.runState = .halted ∧ State.reset.startup = none ∧ State.reset.port = none) ∧
      (starting.startup ≠ none ∧ starting.port ≠ none) ∧ quiet.runState = .holding ∧
        (night.runState = .running ∧ night.pass = none) ∧ ¬(night.runState = .holding ∧ night.cluster.QuietForHalt) := by
  refine ⟨⟨rfl, rfl, rfl⟩, ⟨?_, ?_⟩, rfl, ⟨rfl, rfl⟩, fun h => ?_⟩
  · intro h; cases h
  · intro h; cases h
  · cases h.1

/-- No pass, a decision pass, a directive that has begun, a gather, a pass that is no sweep. -/
theorem witness_HoldCarriesSweep :
    night.runState = .running ∧ night.pass = none ∧
      (inPhase night (.decision 0x51)).pass = some (pass (.decision 0x51)) ∧ (pass (.decision 0x51)).sweep = true ∧
      (executing night (directive none)).pass = some (pass (.intake (some (directive none)))) ∧
        (inPhase night (.gather false true)).pass = some (pass (.gather false true)) := ⟨rfl, rfl, rfl, rfl, rfl, rfl⟩

theorem witness_ReleaseTurnsAllBack :
    (asleep .light .settled).Coherent ∧ (asleep .light .settled).runState = .running := ⟨witness_Coherent, rfl⟩

/-- The sector with 0x52 dirty and an outcome of slot 4 in the queue. -/
def writing : State :=
  night.on fun w => { w.markDirty 0x52 with outcomes := [{ slot := 4, affected := 2, skipped := 1, code := .ok }] }

/-- A pass that HALT has cut. -/
def cut (s : State) : State := { s with pass := s.pass.map fun p => { p with cut := true } }

/-- A quiet HOLDING with and without an access in progress; a write-back and an intake that HALT has cut, the latter after
TAKEN was to be written for slot 4. -/
theorem witness_HaltResult :
    quiet.runState = .holding ∧ quiet.cluster.QuietForHalt ∧ quiet.port = none ∧
      (awaits quiet (.writeBack false []) .header true 64).port ≠ none ∧
        (cut (awaits quiet (.writeBack false []) (.mirrorRecord 0x50 1) true 32)).pass =
            some { pass (.writeBack false []) with cut := true } ∧
          (access (.mirrorRecord 0x50 1) true 32).purpose = .mirrorRecord 0x50 1 ∧
            (cut (awaits quiet (.intake none) (.slotTaken 4) true 1)).pass = some { pass (.intake none) with cut := true } ∧
              (after (.memoryAccessError 7) (cut (awaits quiet (.intake none) (.slotTaken 4) true 1))).retake = some 4 ∧
                (after (.memoryAccessComplete 7 [])
                  (cut { awaits quiet (.intake none) (.slotTaken 4) true 1 with retake := some 9 })).retake = some 9 := by
  refine ⟨rfl, by decide +kernel, rfl, ?_, rfl, rfl, rfl, by decide +kernel, by decide +kernel⟩
  intro h; cases h

/-- HaltResult: the sector's outcome of slot 4 at each of its accesses, and the header, in a write-back that HALT has cut. -/
theorem witness_HaltResult_cut :
    (pass (.writeBack true [4])).phase = .writeBack true [4] ∧
      writing.cluster.outcomes.find? (fun q => q.slot == 4) =
          some { slot := 4, affected := 2, skipped := 1, code := .ok } ∧
        ((access (.outcomeCheck 4) false 1).purpose = .outcomeCheck 4 ∧
          (access (.outcomeFields 4) true 5).purpose = .outcomeFields 4 ∧
            (access (.outcomeState 4) true 1).purpose = .outcomeState 4 ∧ (access .header true 64).purpose = .header) ∧
          (after (.memoryAccessComplete 7 [3#8])
            (cut (awaits writing (.writeBack true [4]) (.outcomeCheck 4) false 1))).cluster.outcomes = [] ∧
            (after (.memoryAccessComplete 7 [])
              (cut (awaits writing (.writeBack true []) .header true 64))).editionWord = writing.editionWord :=
  ⟨rfl, by decide +kernel, ⟨rfl, rfl, rfl, rfl⟩, by decide +kernel, by decide +kernel⟩

theorem witness_AccessEnds :
    (awaits night (.gather false true) (.firstStamp 0x50) false 1).port =
        some (access (.firstStamp 0x50) false 1) ∧ (6 : Nat) ≠ (access (.firstStamp 0x50) false 1).number ∧
      ([] : List Byte).length ≠ (access (.firstStamp 0x50) false 1).length ∧ night.port = none ∧
        (awaits night (.intake none) (.slotFields 31) false 15).pass = some (pass (.intake none)) ∧
          (access (.slotFields 31) false 15).purpose = .slotFields 31 ∧ (starting.pass = none ∧ starting.startup ≠ none) := by
  refine ⟨rfl, by decide, by decide, rfl, rfl, rfl, rfl, fun h => ?_⟩
  cases h

/-- The last two slots: free, held by a PROBE, and the retake slot; the fields of a LOAD_POLICY and of a SET_CLOCK. -/
theorem witness_IntakeSlots :
    (awaits night (.intake none) (.slotState 31) false 1).Awaiting (pass (.intake none)) (access (.slotState 31) false 1)
        (.slotState 31) ∧
      (∀ r ∈ night.cluster.probes, r.slot ≠ 31) ∧ ({ night with retake := some 30 } : State).retake = some 30 ∧
        (awaits night (.intake none) (.slotTaken 31) true 1).Awaiting (pass (.intake none)) (access (.slotTaken 31) true 1)
            (.slotTaken 31) ∧
          (awaits night (.intake none) (.slotFields 4) false 15).Awaiting (pass (.intake none))
            (access (.slotFields 4) false 15) (.slotFields 4) ∧
            (parseSlot 4 (1#8 :: List.replicate 14 0#8)).kind = some .loadPolicy ∧
              (parseSlot 4 (3#8 :: List.replicate 14 0#8)).kind = some .setClock ∧
                (awaits night (.intake (some (directive (some .loadCarriers)))) (.directiveRow 4 0x51) false 32).Awaiting
                  (pass (.intake (some (directive (some .loadCarriers))))) (access (.directiveRow 4 0x51) false 32)
                  (.directiveRow 4 0x51) ∧
                  ∃ r ∈ (probing .unknown).cluster.probes, r.slot = 4 :=
  ⟨⟨rfl, rfl, rfl, rfl⟩, by decide +kernel, rfl, ⟨rfl, rfl, rfl, rfl⟩, ⟨rfl, rfl, rfl, rfl⟩, by decide, by decide,
    ⟨rfl, rfl, rfl, rfl⟩, _, List.mem_singleton.2 rfl, rfl⟩

/-- After slot 31 the decision pass begins, or write-back when the run state has left RUNNING. -/
theorem test_slot_31 :
    (after (.memoryAccessComplete 7 [0#8]) (awaits night (.intake none) (.slotState 31) false 1)).pass =
        some (pass (.decision 0)) ∧
      (after (.memoryAccessComplete 7 [0#8]) (after .hold (awaits night (.intake none) (.slotState 31) false 1))).pass =
        some { pass (.writeBack false []) with leftRunning := true } := by
  decide +kernel

/-- The stamps 1 and 1 are a taken observation, 1 and 2 are torn; 0x52 is the present carrier after 0x51. -/
theorem witness_SlotDecided :
    (awaits night (.gather false true) (.firstStamp 0x51) false 1).Awaiting (pass (.gather false true))
        (access (.firstStamp 0x51) false 1) (.firstStamp 0x51) ∧
      (awaits night (.gather false true) (.body 0x51 1#8) false 4).Awaiting (pass (.gather false true))
        (access (.body 0x51 1#8) false 4) (.body 0x51 1#8) ∧
      (awaits night (.gather false true) (.secondStamp 0x51 1#8 12 4) false 1).Awaiting (pass (.gather false true))
        (access (.secondStamp 0x51 1#8 12 4) false 1) (.secondStamp 0x51 1#8 12 4) ∧
      (0x51 : Carrier) < 0x52 ∧ (night.ctx 0x52).cfg.present = true ∧
        (∀ e : Carrier, 0x51 < e → e < 0x52 → (night.ctx e).cfg.present = false) ∧
          ((night.ctx 0x51).lastStamp ≠ some 1#8 ∧ (night.ctx 0x51).state = .serving) :=
  ⟨⟨rfl, rfl, rfl, rfl⟩, ⟨rfl, rfl, rfl, rfl⟩, ⟨rfl, rfl, rfl, rfl⟩, by decide, by decide +kernel, by decide +kernel,
    by decide +kernel⟩

theorem witness_load_arithmetic :
    (7 ≤ 7 ∧ 16000 ≤ 16000 ∧ 0 ≤ 16000 ∧ smooth 7 16000 0 = 15875) ∧ (10 ≤ 10 ∧ 10 ≤ 4000 ∧ utilisation 11 10 = (1000, true)) ∧
      ((candidate 4000 16000 0 0 0).load ≤ 16000 ∧ (candidate 4000 16000 0 0 0).cfg.capacity ≤ 4000 ∧
        10 ≤ (candidate 10 0 0 0 0).cfg.capacity ∧ 65535 * 10 < 16000 * 4000 ∧ 1600 * 100 ≤ 65535 * cover.cfg.capacity) := by
  decide

/-- The mirror record of 0x50 with 0x51 on its stack: depth 1 at 0x03, no cover, 0x51 at 0x08. -/
theorem witness_RecordLayouts :
    ((asleep .light .settled).stack 0x50).length ≤ 8 ∧
      (mirrorRecord (asleep .light .settled).cluster 0x50 7).take 9 =
        [7#8, 3#8, 1#8, 1#8, 0x80#8, 0x0C#8, 0xFF#8, 0xFF#8, 0x51#8] := by
  decide +kernel

theorem witness_WriteBackEnds :
    (awaits writing (.writeBack false []) (.mirrorRecord 0x50 1) true 32).Awaiting (pass (.writeBack false []))
        (access (.mirrorRecord 0x50 1) true 32) (.mirrorRecord 0x50 1) ∧
      ((0x50 : Carrier) < 0x52 ∧ (writing.ctx 0x52).dirty = true ∧
        ∀ x : Carrier, 0x50 < x → x < 0x52 → (writing.ctx x).dirty = false) ∧
        (awaits writing (.writeBack true []) .header true 64).Awaiting (pass (.writeBack true [])) (access .header true 64)
          .header ∧ writing.startup = none :=
  ⟨⟨rfl, rfl, rfl, rfl⟩, by decide +kernel, ⟨rfl, rfl, rfl, rfl⟩, rfl⟩

/-- A write-back of 0x50's record, in HOLDING. -/
def rebased : State :=
  after (.xbaseWrite 0x00040000#32) (awaits { writing with runState := .holding } (.writeBack false [])
    (.mirrorRecord 0x50 1) true 32)

/-- Sections 1.1 and 1.6: after an XBASE write in HOLDING the write-back in progress issues the next record at its own base and
clears its mark; the end of its header's write sets every mark again. -/
theorem test_xbase_in_write_back :
    rebased.xbase = 0x00040#20 ∧ rebased.pass.map Pass.moved = some true ∧
      ((after (.memoryAccessComplete 7 []) rebased).port.map Access.purpose = some (.mirrorRecord 0x51 1) ∧
        (after (.memoryAccessComplete 7 []) rebased).port.map Access.address = some 0x00016220#32 ∧
          ((after (.memoryAccessComplete 7 []) rebased).ctx 0x51).dirty = false) ∧
        (let last := after (.xbaseWrite 0x00040000#32)
          (awaits { writing with runState := .holding } (.writeBack true []) .header true 64)
         let t := after (.memoryAccessComplete 7 []) (last.on fun w => w.setCtx 0x51 { w.ctx 0x51 with dirty := false })
         t.pass = none ∧ (t.ctx 0x51).dirty = true) := by
  decide +kernel

theorem witness_OutcomeHandled :
    writing.cluster.outcomes.find? (fun q => q.slot == 4) =
        some { slot := 4, affected := 2, skipped := 1, code := .ok } ∧
      (awaits writing (.writeBack true [4]) (.outcomeCheck 4) false 1).Awaiting (pass (.writeBack true [4]))
        (access (.outcomeCheck 4) false 1) (.outcomeCheck 4) ∧
        (awaits writing (.writeBack true [4]) (.outcomeFields 4) true 5).Awaiting (pass (.writeBack true [4]))
          (access (.outcomeFields 4) true 5) (.outcomeFields 4) ∧
          (awaits writing (.writeBack true [4]) (.outcomeState 4) true 1).Awaiting (pass (.writeBack true [4]))
            (access (.outcomeState 4) true 1) (.outcomeState 4) :=
  ⟨by decide +kernel, ⟨rfl, rfl, rfl, rfl⟩, ⟨rfl, rfl, rfl, rfl⟩, ⟨rfl, rfl, rfl, rfl⟩⟩

/-- Start-up at its policy block, its window table, its first row, and its last row, of which the first 255 are present and
the last is not. -/
theorem witness_StartupConfigures :
    starting.pass = none ∧ starting.startup = some { base := 0#20, rows := List.replicate 255 row } ∧
      (List.replicate 255 row).length = 255 ∧ starting.port = some (access (.startupRow 255) false 32) ∧
        (List.replicate 32 0#8).length = (access (.startupRow 255) false 32).length ∧
          (∀ i : Site, (starting.lane i).outstanding = none ∧ (starting.lane i).queue = []) ∧
            (row.present = true ∧ row.capacityOk = true) ∧ (parseRow 255 (List.replicate 32 0#8)).present = false ∧
              (∀ k : Carrier, starting.stack k = []) ∧
                (access (.startupWindows policy) false 128).purpose = .startupWindows policy ∧
                  (0 : Carrier).val + 1 = (1 : Carrier).val :=
  ⟨rfl, rfl, List.length_replicate, rfl, by decide, by decide +kernel, by decide, by decide, by decide +kernel, rfl, rfl⟩

theorem witness_SweepBegins :
    ({ night with timer := { sweepPending := true } } : State).timer.sweepPending = true ∧ night.pass = none ∧
      night.runState = .running ∧ (night.ctx 0x50).cfg.present = true ∧
        (∀ d : Carrier, d < 0x50 → (night.ctx d).cfg.present = false) ∧
          ¬(night.timer.sweepPending = true ∧ night.pass = none ∧ night.runState = .running) :=
  ⟨rfl, rfl, rfl, by decide +kernel, by decide +kernel, fun h => by cases h.1⟩

theorem witness_ExpiryTable :
    State.reset.runState = .halted ∧ (night.runState = .running ∧ night.timer.sweepPending = false) ∧
      (inPhase quiet (.writeBack false [])).pass ≠ none ∧ (quiet.runState = .holding ∧ quiet.pass = none) ∧
        ((quiet.on fun w => w.markDirty 0x52).ctx 0x52).dirty = true ∧
          ∀ d : Carrier, d < 0x52 → ((quiet.on fun w => w.markDirty 0x52).ctx d).dirty = false :=
  ⟨rfl, ⟨rfl, rfl⟩, fun h => (by cases h), ⟨rfl, rfl⟩, by decide +kernel, by decide +kernel⟩

/-- The sector with the counters of the reference at given values and nothing due. -/
def paced (tick prescaler down hundred : Nat) : State :=
  { night with timer := { tick, prescaler, downCount := down, hundred } }

/-- ExpiryTable: nothing is due in the sector; the last cycle of a tick, of a second and of an access. -/
theorem witness_ExpiryTable_cycle :
    ((paced 998 0 1 0).pending = [] ∧ (paced 998 0 1 0).NothingDue) ∧ 998 + 1 < 1000 ∧ ¬999 + 1 < 1000 ∧
      ({ night.clock with valid := true, sub := 999999 } : Clock).sub + 1 = 1000000 ∧
        ({ access .header true 64 with waited := 49 } : Access).waited + 1 = 50 :=
  ⟨⟨rfl, by decide +kernel, rfl, by decide +kernel, fun h => (by cases h.1), fun p h => nomatch h⟩, by decide, by decide, rfl,
    rfl⟩

/-- Sections 4.1 and 7.2: the thousandth cycle is a tick, which steps the down-count to an expiry and wraps the 100 ms
divider; the cycle before is neither. -/
theorem test_reference_cycle :
    (match step (paced 999 127 1 99) with
      | .next t => decide (t.timer.tick = 0 ∧ t.timer.prescaler = 0 ∧ t.timer.hundred = 0 ∧ t.timer.sweepPending = true)
      | .fault _ | .refused _ => false) = true ∧
      (match step (paced 998 127 1 99) with
        | .next t => decide (t.timer = { tick := 999, prescaler := 127, downCount := 1, hundred := 99 })
        | .fault _ | .refused _ => false) = true := by
  decide +kernel

/-- A torn slot of 0x53, the last present carrier, in a gather that takes nothing; a failed read; no carrier present. -/
theorem witness_StarvedGatherEntersFailsafe :
    (awaits night (.gather false true) (.secondStamp 0x53 1#8 12 4) false 1).Awaiting (pass (.gather false true))
        (access (.secondStamp 0x53 1#8 12 4) false 1) (.secondStamp 0x53 1#8 12 4) ∧
      (pass (.gather false true)).leftRunning = false ∧ (∀ d : Carrier, 0x53 < d → (night.ctx d).cfg.present = false) ∧
        ((1#8 : Byte) ≠ 2#8 ∧ night.policy.failsafeLimit ≤ min 255 (night.starvation + 1) ∧ night.failsafe = false) ∧
          (awaits night (.gather true true) (.body 0x50 1#8) false 4).pass = some (pass (.gather true true)) ∧
            ∀ c : Carrier, ({ State.reset with runState := .running } : State).cluster.ctx c = {} :=
  ⟨⟨rfl, rfl, rfl, rfl⟩, rfl, by decide +kernel, ⟨by decide, by decide, rfl⟩, rfl, by decide +kernel⟩

theorem witness_SleepReserved :
    night.cluster.Testable 0x51 ∧ night.cluster.Unasked 0x51 ∧
      (inPhase night (.decision 0x51)).Visits (pass (.decision 0x51)) 0x51 ∧
        night.cluster.Admits night.setting .pass 0x51 0x50 ∧
          (executing night (directive (some .sleepNow))).Executing (pass (.intake (some (directive (some .sleepNow)))))
            (directive (some .sleepNow)) (some .sleepNow) ∧
            (directive (some .sleepNow)).selects 0x51 .serving = true ∧
              night.cluster.Admits night.setting (.directed true) 0x51 0x50 ∧
                ({ directive (some .sleepNow) with stopped := true } : DirectiveRun).selects 0x51 .serving = true ∧
                  (directive (some .sleepNow)).selects 0x52 .serving = false :=
  ⟨by decide +kernel, by decide +kernel, ⟨rfl, rfl⟩, by decide +kernel, ⟨rfl, rfl, rfl, rfl⟩, by decide, by decide +kernel,
    by decide, by decide⟩

/-- After carrier 255 write-back begins. -/
theorem test_carrier_255 :
    (after .decisionVisit (inPhase night (.decision 255))).pass = some (pass (.writeBack false [])) := by
  decide +kernel

/-- 0x51 is reserved; 0x53 is refused, and 0x51 with another load class, cover or cover's stack. -/
theorem witness_ReservationNeedsEveryCondition :
    (inPhase night (.decision 0x51)).Visits (pass (.decision 0x51)) 0x51 ∧
      exec .decisionVisit (inPhase night (.decision 0x51)) =
        .next (after .decisionVisit (inPhase night (.decision 0x51))) ∧
        (night.ctx 0x51).reserved = false ∧
          ((after .decisionVisit (inPhase night (.decision 0x51))).ctx 0x51).reserved = true ∧
            night.cluster.Testable 0x53 ∧ ¬(∃ k, night.cluster.Admits night.setting .pass 0x53 k) ∧
              ((heldAt 5).ctx 0x51).holdLeft ≠ 0 ∧ ¬(heldAt 5).cluster.Testable 0x51 ∧
                (night.ctx 0x54).cfg.present = false :=
  ⟨⟨rfl, rfl⟩, rfl, by decide +kernel, by decide +kernel, by decide +kernel, by decide +kernel, by decide +kernel,
    by decide +kernel, by decide +kernel⟩

/-- The sleep test refuses 0x53 with LOAD, 0x50 with NO_COVER, 0x51 with UNORDERED for its own class and for its cover's, and
with STACK_FULL for a full stack (section 6.3). -/
theorem test_refusals :
    firstRefusal (night.cluster.candidateChecks night.setting .pass 0x53) = some .load ∧
      firstRefusal (night.cluster.candidateChecks night.setting .pass 0x50) = some .noCover ∧
        firstRefusal (night.cluster.candidateChecks night.setting .pass 0x51) = none ∧
          firstRefusal (night.cluster.coverChecks .pass 0x51 0x50) = none ∧
            firstRefusal ((classed 0x51 .aged).candidateChecks night.setting .pass 0x51) = some .unordered ∧
              firstRefusal ((classed 0x50 .absent).coverChecks .pass 0x51 0x50) = some .unordered ∧
                firstRefusal ((night.cluster.setStack 0x50 (List.replicate 8 (entry 0x52 .settled 0))).coverChecks .pass 0x51
                  0x50) = some .stackFull := by
  decide +kernel

/-- 0x50 above its wake limit for the second time, 0x51 LIGHT on it below a RETURNING entry of 0x53. -/
def popping : State :=
  inPhase ((asleep .light .settled).on fun w =>
    (w.setCtx 0x50 { cover with load := 8001, wakeCount := 1 }).setStack 0x50
      [entry 0x51 .settled 1024, entry 0x53 .returning 0]) (.decision 0x50)

/-- 0x50 pops; it is below its wake dwell; its class makes the comparison UNORDERED; all its entries are RETURNING. -/
theorem witness_WakePopTopmost :
    popping.Visits (pass (.decision 0x50)) 0x50 ∧ (popping.ctx 0x50).cfg.present = true ∧
      (popping.ctx 0x50).state = .serving ∧ popping.stack 0x50 = [] ++ entry 0x51 .settled 1024 :: [entry 0x53 .returning 0] ∧
        (∀ x ∈ [entry 0x53 .returning 0], x.phase = .returning) ∧
          (∀ x ∈ [] ++ [entry 0x53 .returning 0], x.carrier ≠ 0x51) ∧ (popping.ctx 0x50).cls = .fresh ∧
            16 * (popping.ctx 0x50).cfg.wakeLimit < (popping.ctx 0x50).load ∧
              (popping.ctx 0x50).cfg.wakeDwell ≤ min 255 ((popping.ctx 0x50).wakeCount + 1) ∧
                popping.cluster.hostOf 0x51 = some 0x50 ∧ (popping.ctx 0x51).state = .light ∧
                  popping.cluster.Unasked 0x51 ∧ 0 < (popping.ctx 0x50).cfg.wakeDwell ∧
                    (∀ x ∈ (asleep .raising .returning).stack 0x50, x.phase = .returning) :=
  ⟨⟨rfl, rfl⟩, by decide +kernel, by decide +kernel, by decide +kernel, by decide, by decide,
    by decide +kernel, by decide +kernel, by decide +kernel, by decide +kernel, by decide +kernel, by decide +kernel,
    by decide +kernel, by decide +kernel⟩

/-- 0x50 in FAULTED with cause LINK, with 0x51 in RAISING on its stack. -/
def anchored : State :=
  (asleep .raising .returning).on fun w => w.setCtx 0x50 { w.ctx 0x50 with state := .faulted, cause := some .link }

/-- WakePopTopmost: the visit of a FAULTED owner of a stack; a pop that picks a DARK carrier. -/
theorem witness_WakePopTopmost_states :
    (inPhase anchored (.decision 0x50)).Visits (pass (.decision 0x50)) 0x50 ∧ (anchored.ctx 0x50).cfg.present = true ∧
      anchored.stack 0x50 ≠ [] ∧ (anchored.ctx 0x50).state = .faulted ∧
        ((after .decisionVisit (popping.on fun w => w.editCtx 0x51 fun x => { x with state := .dark })).cluster.wants 0x51
          .warm = true) :=
  ⟨⟨rfl, rfl⟩, by decide +kernel, by decide +kernel, by decide +kernel, by decide +kernel⟩

/-- 0x51 LIGHT with as many light-run minutes. -/
def deepening (minutes : Nat) : State :=
  inPhase ((asleep .light .settled).on fun w => w.setCtx 0x51 { w.ctx 0x51 with lightRun := minutes }) (.decision 0x51)

theorem witness_DeepenTest :
    (deepening 30).Visits (pass (.decision 0x51)) 0x51 ∧ (deepening 30).stack 0x51 = [] ∧
      (deepening 30).cluster.isReturning 0x51 = false ∧
        (deepening 30).setting.phaseOf ((deepening 30).ctx 0x51) = some .opened ∧
          ((deepening 30).ctx 0x51).cfg.deepenDelay ≤ ((deepening 30).ctx 0x51).lightRun ∧
            (deepening 30).cluster.Unasked 0x51 ∧
              ((deepening 29).ctx 0x51).lightRun < ((deepening 29).ctx 0x51).cfg.deepenDelay ∧
                ((deepening 29).on fun w => (w.editCtx 0x51 fun x => { x with deepenDeclined := true }).want 0x51
                  .darken).cluster.wants 0x51 .darken = true :=
  ⟨⟨rfl, rfl⟩, by decide +kernel, by decide +kernel, by decide +kernel, by decide +kernel,
    by decide +kernel, by decide +kernel, by decide +kernel⟩

/-- 0x51 with a want of its own, in a state and with its entry not RETURNING. -/
def wanting (st : CarrierState) (command : RadioCommand) : Cluster :=
  (asleep st .settled).cluster.want 0x51 command

/-- Each state of section 2.4's table, with what its clause asks. -/
theorem witness_WakeRequestTable :
    (asleep .light .settled).cluster.hostOf 0x51 = some 0x50 ∧
      ((asleep .light .settled).stack 0x50).find? (fun x => x.carrier == 0x51) = some (entry 0x51 .settled 1024) ∧
        (asleep .dark .settled).cluster.Unasked 0x51 ∧ (wanting .dark .warm).wants 0x51 .warm = true ∧
          (wanting .light .darken).wants 0x51 .darken = true ∧
          (wanting .draining .shed).wants 0x51 .shed = true ∧ (wanting .draining .lower).isOutstanding 0x51 = false ∧
            ((commanded (asleep .draining .reserved) 0x51 .gate 1).cluster.isOutstanding 0x51 = true ∧
              (commanded (asleep .draining .reserved) 0x51 .gate 1).cluster.wantOf 0x51 = none) ∧
              (asleep .draining .returning).cluster.isReturning 0x51 = true ∧ (night.ctx 0x50).state = .serving ∧
                ((after .decisionVisit (inPhase night (.decision 0x51))).ctx 0x51).reserved = true := by
  refine ⟨?_, ?_, ?_, ?_, ?_, ?_, ?_, ⟨?_, ?_⟩, ?_, ?_, ?_⟩ <;> decide +kernel

/-- An older GATE gives way to a RAISE; a lane whose only wants are of SLEEP class grants none in HOLDING. -/
theorem witness_LaneChoice :
    (Lane.choose { queue := [{ carrier := 0x53, command := .gate, seq := 0, wait := 0, attempt := 1 },
        { carrier := 0x51, command := .raise, seq := 1, wait := 0, attempt := 2 }] } .running).map Want.carrier =
        some 0x51 ∧
      Lane.choose { queue := [{ carrier := 0x53, command := .gate, seq := 0, wait := 0, attempt := 1 }] } .holding = none := by
  decide

/-- The commands and the states of their sends. -/
def sends : List (RadioCommand × CarrierState) :=
  [(.gate, .serving), (.lower, .draining), (.darken, .light), (.warm, .dark), (.raise, .light), (.warm, .stray),
    (.shed, .draining), (.reopen, .draining), (.query, .unknown)]

theorem witness_GrantSends :
    (∀ p ∈ sends, ((((asleep p.2 .reserved).on fun w => w.want 0x51 p.1).lane 5).choose .running).map Want.command =
        some p.1) ∧
      (night.lane 5).outstanding = none ∧ (night.channel 5).up = true ∧ (night.lane 5).choose .running = none ∧
        (night.channel 4).up = false ∧ ((commanded night 0x51 .gate 1).lane 5).outstanding ≠ none ∧
          siteOf 0x51 = 5 ∧ ((wanting .light .raise).wantOf 0x51).map Want.wait = some 0 := by
  refine ⟨?_, ?_, ?_, ?_, ?_, ?_, ?_, ?_⟩ <;> decide +kernel

/-- Frames that fail the check: a byte short, a wrong sum, outcome 4, radio state 4, a tag that is not live; and one that
passes it. -/
theorem witness_ReplyDiscarded :
    (frame 0 0 0).dropLast.length ≠ 6 ∧ byteSum [3#8, 0#8, 0#8, 0#8, 0#8, 0#8] % 256 ≠ 0 ∧ 3 < byteAt (frame 4 0 0) 1 ∧
      3 < byteAt (frame 0 4 0) 2 ∧ (night.channel 5).liveTag ≠ some (((frame 0 0 0).getD 0 0#8).setWidth 4) ∧
        ((frame 3 3 9).length = 6 ∧ byteSum (frame 3 3 9) % 256 = 0 ∧ byteAt (frame 3 3 9) 1 ≤ 3 ∧
          byteAt (frame 3 3 9) 2 ≤ 3) := by
  refine ⟨?_, ?_, ?_, ?_, ?_, ?_⟩ <;> decide +kernel

theorem answered (s : State) (c : Carrier) (command : RadioCommand) (attempt outcome radio users : Nat) (o : ReplyOutcome)
    (rs : RadioState) (hc : siteOf c = 5) (hf : parseReply (frame outcome radio users) = some (reply o rs users)) :
    (commanded s c command attempt).Answered 5 (frame outcome radio users)
      { carrier := c, command, attempt, tag := 3#4 } (reply o rs users) := by
  refine ⟨hf, ?_, ?_, hc⟩
  · simp [commanded, State.on, State.channel, Cluster.channel, Cluster.setChannel, reply]
  · simp [commanded, State.on, State.lane, Cluster.lane, Cluster.setLane, Cluster.setChannel]

/-- What a reply to 0x51 finds: no want in the lane, its entry on 0x50, and whether the entry is RETURNING. -/
theorem witness_replies_find :
    (commanded (asleep .draining .reserved) 0x51 .shed 1).cluster.wantOf 0x51 = none ∧
      (commanded (asleep .draining .reserved) 0x51 .shed 1).cluster.hostOf 0x51 = some 0x50 ∧
        (commanded (asleep .draining .reserved) 0x51 .shed 1).cluster.isReturning 0x51 = false ∧
          (commanded (asleep .draining .returning) 0x51 .shed 1).cluster.isReturning 0x51 = true ∧
            ((commanded (asleep .lowering .reserved) 0x51 .lower 1).stack 0x50).find? (fun x => x.carrier == 0x51) =
              some (entry 0x51 .reserved 1024) ∧
              ((commanded (asleep .lowering .reserved) 0x51 .lower 1).ctx 0x51).state = .lowering := by
  refine ⟨?_, ?_, ?_, ?_, ?_, ?_⟩ <;> decide +kernel

/-- DrainSteps: GATE ACK, SHED ACK at the residual and above it within and at the attempts, LOWER BUSY, with an entry RETURNING
too. -/
theorem witness_DrainSteps :
    (parseReply (frame 0 0 0) = some (reply .ack .on 0) ∧ parseReply (frame 0 0 1) = some (reply .ack .on 1) ∧
      parseReply (frame 0 0 2) = some (reply .ack .on 2) ∧ parseReply (frame 1 0 0) = some (reply .busy .on 0)) ∧
      (1 ≤ night.policy.residual ∧ night.policy.residual < 2 ∧ 2 < night.policy.shedAttempts ∧
        night.policy.shedAttempts ≤ 3) ∧
        ((commanded (asleep .lowering .returning) 0x51 .lower 1).cluster.isReturning 0x51 = true ∧
          ((commanded (asleep .lowering .returning) 0x51 .lower 1).ctx 0x51).state = .lowering) := by decide +kernel

/-- LowerAck, DarkenWarmReplies, BackToServing: the commands and the states in which their replies arrive. -/
theorem witness_state_replies :
    ∀ p ∈ [(RadioCommand.lower, CarrierState.lowering), (.darken, .deepening), (.warm, .warming), (.raise, .raising),
        (.reopen, .draining), (.gate, .draining)],
      ((commanded (asleep p.2 .reserved) 0x51 p.1 1).ctx 0x51).state = p.2 ∧
        (((commanded (asleep p.2 .reserved) 0x51 p.1 1).lane 5).outstanding.map Outstanding.command = some p.1) := by
  decide +kernel

/-- The owner is SERVING, or FAULTED with cause LINK with its link UP, and is then UNKNOWN with a QUERY wanted. -/
theorem witness_BackToServing :
    (0x50 : Carrier) ≠ 0x51 ∧ ((commanded (asleep .raising .returning) 0x51 .raise 1).ctx 0x50).state = .serving ∧
      parseReply (frame 2 0 0) = some (reply .nak .on 0) ∧ (anchored.ctx 0x50).state = .faulted ∧
        anchored.cluster.Unasked 0x50 ∧
          ((after (.radioReply 5 (frame 0 0 0)) (commanded anchored 0x51 .raise 1)).ctx 0x50).state = .unknown ∧
            (after (.radioReply 5 (frame 0 0 0)) (commanded anchored 0x51 .raise 1)).cluster.wants 0x50 .query = true := by
  refine ⟨?_, ?_, ?_, ?_, ?_, ?_, ?_⟩ <;> decide +kernel

/-- QueryAndStrayReplies: a carrier without an entry, and the radio states ON, LIGHT and DARK. -/
theorem witness_QueryAndStrayReplies :
    (commanded night 0x51 .query 1).cluster.hostOf 0x51 = none ∧ (commanded night 0x51 .query 1).cluster.wantOf 0x51 = none ∧
      (∀ st ∈ [CarrierState.unknown, .stray],
        ((night.on fun w => w.setCtx 0x51 { w.ctx 0x51 with state := st }).ctx 0x51).state = st) ∧
        (parseReply (frame 0 1 0) = some (reply .ack .light 0) ∧ parseReply (frame 0 2 0) = some (reply .ack .dark 0)) := by
  refine ⟨?_, ?_, ?_, ?_⟩ <;> decide +kernel

/-- Section 10.5: the last query of a PROBE ends it, answered as affected and failed as skipped. -/
theorem test_probe_ends :
    (after (.radioReply 5 (frame 0 0 0)) (commanded (probing .unknown) 0x51 .query 1)).cluster.outcomes =
        [{ slot := 4, affected := 1, skipped := 0, code := .ok }] ∧
      (after (.commandTimeout 5) (commanded (probing .unknown) 0x51 .query 1)).cluster.outcomes =
        [{ slot := 4, affected := 0, skipped := 1, code := .ok }] := by
  decide +kernel

/-- BusyWantedAgain and FailuresFault: attempt 1 is below the wake attempts and attempt 2 is at them; the failing replies; a
carrier with an empty stack; a live command with no time left. -/
theorem witness_failures :
    (1 < night.policy.wakeAttempts ∧ night.policy.wakeAttempts ≤ 2) ∧
      (parseReply (frame 3 0 0) = some (reply .fault .on 0) ∧ parseReply (frame 0 3 0) = some (reply .ack .fault 0)) ∧
        ((commanded (asleep .raising .returning) 0x51 .raise 2).stack 0x51 = [] ∧
          (commanded (asleep .raising .returning) 0x51 .raise 2).cluster.hostOf 0x51 ≠ some 0x51 ∧
            ((commanded (asleep .raising .returning) 0x51 .raise 2).channel 5).liveTag ≠ none ∧
              ((commanded (asleep .raising .returning) 0x51 .raise 2).channel 5).timeLeft = 0) := by
  refine ⟨?_, ?_, ?_⟩ <;> decide +kernel

theorem witness_StateChangeClearsDwell :
    exec (.laneGrant 5) ((asleep .light .returning).on fun w => w.want 0x51 .raise) =
        .next (after (.laneGrant 5) ((asleep .light .returning).on fun w => w.want 0x51 .raise)) ∧
      ((after (.laneGrant 5) ((asleep .light .returning).on fun w => w.want 0x51 .raise)).ctx 0x51).state ≠
        (((asleep .light .returning).on fun w => w.want 0x51 .raise).ctx 0x51).state :=
  ⟨rfl, by decide +kernel⟩

/-- A LOAD_CARRIERS in slot 31 that holds the row of carrier 255, in a sweep whose run state has left RUNNING. -/
def lastRow : State :=
  { night with
    pass := some
      { pass (.intake (some
          { directive (some .loadCarriers) with slot := 31, base := 0xFF#8, position := 255, row := some row })) with
        leftRunning := true } }

/-- StateChangeClearsDwell: a wait that has run out, a PROBE and a LOAD_CARRIERS each change the state of a carrier; the last of
these ends its intake and so issues the carrier's record, with the dirty mark cleared again. -/
theorem test_state_changes :
    ((after (.wantWaitExpiry 0x51) ((asleep .light .returning).on fun w => w.want 0x51 .raise)).ctx 0x51).state = .raising ∧
      ((after (.probe 1) (executing night (directive (some .probe)))).ctx 0x51).state = .unknown ∧
        ((after (.loadCarriers 1) lastRow).ctx 255).state = .unknown ∧
          ((after (.loadCarriers 1) lastRow).ctx 255).dirty = false ∧
            (after (.loadCarriers 1) lastRow).port.map Access.purpose = some (.mirrorRecord 255 1) := by
  decide +kernel

theorem witness_LinkDownFaults :
    (asleep .light .settled).Coherent ∧ (asleep .light .settled).cluster.TagsAgree ∧
      ((asleep .light .settled).channel 5).up = true ∧ ((asleep .light .settled).channel 4).up = false ∧
        ((asleep .light .settled).ctx 0x51).state ≠ .unmanaged ∧ ((asleep .light .settled).ctx 0x54).state = .unmanaged :=
  ⟨witness_Coherent, by decide +kernel, by decide +kernel, by decide +kernel, by decide +kernel, by decide +kernel⟩

/-- 0x61, of another site, in a state with an entry in a phase on 0x50. -/
def across (st : CarrierState) (phase : EntryPhase) : State :=
  night.on fun w => (w.setCtx 0x61 { candidate 40 1280 4 1 30 with state := st }).setStack 0x50 [entry 0x61 phase 1024]

/-- The sector with 0x61 asleep on 0x50 agrees with itself. -/
theorem across_coherent {st : CarrierState} {phase : EntryPhase} (h : st.inSleepPath = true ∧ phase.fits st = true) :
    (across st phase).Coherent :=
  coherent_resting (by decide) rfl ⟨by simp [Context.sleeps, h.1], by simp [candidate], rfl, h.2⟩

/-- 0x61 with a reserved sleep on 0x50, its GATE a want. -/
def reservedAcross : State :=
  night.on fun w =>
    ((w.setCtx 0x61 { candidate 40 1280 4 1 30 with reserved := true }).setStack 0x50 [entry 0x61 .reserved 1024]).setLane 6
      { queue := [{ carrier := 0x61, command := .gate, seq := 0, wait := 0, attempt := 1 }], joinCounter := 1 }

theorem reservedAcross_coherent : reservedAcross.Coherent :=
  coherent_night (c := 0x61) (by decide) rfl ⟨rfl, fun _ => rfl, rfl, rfl⟩ ⟨rfl, Or.inr ⟨_, rfl, rfl, by decide, rfl⟩⟩

/-- 0x61 in DRAINING with its SHED a want. -/
def shedding : State :=
  night.on fun w =>
    ((w.setCtx 0x61 { candidate 40 1280 4 1 30 with state := .draining }).setStack 0x50 [entry 0x61 .reserved 1024]).setLane 6
      { queue := [{ carrier := 0x61, command := .shed, seq := 0, wait := 0, attempt := 1 }], joinCounter := 1 }

theorem shedding_coherent : shedding.Coherent :=
  coherent_night (c := 0x61) (by decide) rfl ⟨rfl, by simp [candidate], rfl, rfl⟩ ⟨rfl, Or.inr ⟨_, rfl, rfl, by decide, rfl⟩⟩

/-- The same reservation on 0x50 in FAULTED with cause LINK, its link UP again. -/
def linkLost : State :=
  night.on fun w =>
    (((w.setCtx 0x50 { cover with state := .faulted, cause := some .link }).setCtx 0x61
      { candidate 40 1280 4 1 30 with reserved := true }).setStack 0x50 [entry 0x61 .reserved 1024]).setLane 6
      { queue := [{ carrier := 0x61, command := .gate, seq := 0, wait := 0, attempt := 1 }], joinCounter := 1 }

theorem linkLost_coherent : linkLost.Coherent :=
  coherent_over (b := night.cluster.setCtx 0x50 { cover with state := .faulted, cause := some .link }) (c := 0x61)
    ⟨night_stack, night_lane, fun d => by
      rw [Cluster.ctx_setCtx]
      split
      · exact ⟨rfl, rfl⟩
      · exact night_awake d⟩
    (Or.inr (by simp)) (by decide) rfl ⟨rfl, fun _ => rfl, rfl, rfl⟩ ⟨rfl, Or.inr ⟨_, rfl, rfl, by decide, rfl⟩⟩

/-- ReleaseTurnsAllBack and StarvedGatherEntersFailsafe: the clauses of Cluster.UnwoundAll. An entry that turns in DARK, one that
is RETURNING, a SHED to replace, a reservation, its owner in SERVING and in FAULTED. -/
theorem witness_UnwoundAll :
    ((across .dark .settled).Coherent ∧ (across .raising .returning).Coherent ∧ shedding.Coherent ∧
      reservedAcross.Coherent ∧ linkLost.Coherent) ∧
      entry 0x61 .settled 1024 ∈ (across .dark .settled).stack 0x50 ∧
        entry 0x61 .returning 1024 ∈ (across .raising .returning).stack 0x50 ∧ shedding.cluster.wants 0x61 .shed = true ∧
          (reservedAcross.ctx 0x61).reserved = true ∧ reservedAcross.cluster.holdsEntry 0x50 = false ∧
            (linkLost.ctx 0x50).cause = some .link ∧ (linkLost.channel 5).up = true := by
  refine ⟨⟨across_coherent ⟨rfl, rfl⟩, across_coherent ⟨rfl, rfl⟩, shedding_coherent, reservedAcross_coherent,
    linkLost_coherent⟩, ?_, ?_, ?_, ?_, ?_, ?_, ?_⟩ <;> decide +kernel

/-- Sections 5.6, 5.7, 11.3: a RELEASE has the SHED replaced by OPEN, cancels the reservation, and has the owner that then is
FAULTED with an empty stack and a link UP queried. -/
theorem test_release :
    (after .release shedding).cluster.wants 0x61 .reopen = true ∧
      (after .release shedding).stack 0x50 = [{ entry 0x61 .returning 1024 with reason := .release }] ∧
        ((after .release linkLost).ctx 0x50).state = .unknown ∧ (after .release linkLost).cluster.wants 0x50 .query = true ∧
          ((after .release linkLost).ctx 0x61).resleepLeft = 15 := by
  decide +kernel

/-- A state in RUNNING stays in agreement with a directive in its intake. -/
theorem coherent_executing {s : State} (h : s.Coherent) (r : s.runState = .running) (u : s.startup = none) (d : DirectiveRun) :
    (executing s d).Coherent :=
  ⟨h.1, ⟨fun g => absurd u g, fun g => nomatch r.symm.trans g⟩, fun p hp g => by
    simp only [executing, inPhase, Option.toList_some, List.mem_singleton] at hp
    subst hp
    cases g⟩

/-- DirectivesWithoutSelector: a LOAD_POLICY that disables the OPEN window of a sleeper in DARK, of one in DRAINING with its SHED
a want, of one RETURNING and of one with its sleep reserved. -/
theorem witness_DirectivesWithoutSelector_closes :
    (∀ (s : State), s ∈ [across .dark .settled, shedding, across .raising .returning, reservedAcross] →
      ∀ d : DirectiveRun, (executing s d).Coherent) ∧
      (((executing shedding loading).ctx 0x61).cfg.window = some 1 ∧ (shedding.window 1).entry.enabled = true ∧
        (shedding.window 1).phase ≠ .closed) := by
  refine ⟨fun s hs d => ?_, by decide +kernel⟩
  simp only [List.mem_cons, List.not_mem_nil, or_false] at hs
  rcases hs with rfl | rfl | rfl | rfl
  · exact coherent_executing (across_coherent ⟨rfl, rfl⟩) rfl rfl d
  · exact coherent_executing shedding_coherent rfl rfl d
  · exact coherent_executing (across_coherent ⟨rfl, rfl⟩) rfl rfl d
  · exact coherent_executing reservedAcross_coherent rfl rfl d

/-- LinkDownFaults: a sleeper of site 6 on a stack of site 5, in any state and phase that fit, DARK for one, or with its sleep
reserved; 0x62 of site 6 has no entry. -/
theorem witness_LinkDownFaults_across :
    (∀ (st : CarrierState) (phase : EntryPhase), st.inSleepPath = true ∧ phase.fits st = true →
      (across st phase).Coherent) ∧
      (across .dark .settled).cluster.TagsAgree ∧ ((across .dark .settled).channel 5).up = true ∧
        entry 0x61 .settled 1024 ∈ (across .dark .settled).stack 0x50 ∧ ((across .dark .settled).ctx 0x61).reserved = false ∧
          (siteOf 0x50 = 5 ∧ siteOf 0x61 ≠ 5 ∧ siteOf 0x62 ≠ 5 ∧ (across .dark .settled).stack 0x62 = [] ∧
            (across .dark .settled).cluster.standsOn 0x62 0x50 = false) ∧
            (reservedAcross.Coherent ∧ reservedAcross.cluster.TagsAgree ∧ (reservedAcross.channel 5).up = true ∧
              (reservedAcross.ctx 0x61).reserved = true) :=
  ⟨fun _ _ h => across_coherent h, by decide +kernel, by decide +kernel, by decide +kernel, by decide +kernel,
    by decide +kernel, reservedAcross_coherent, by decide +kernel, by decide +kernel, by decide +kernel⟩

/-- Section 5.7: COVER_LOST turns the sleeper of the other site back, with its WARM wanted in its own lane. -/
theorem test_cover_lost :
    ((after (.linkDown 5) (across .dark .settled)).ctx 0x61).lastReason = some .coverLost ∧
      (after (.linkDown 5) (across .dark .settled)).stack 0x50 =
        [{ entry 0x61 .returning 1024 with reason := .coverLost }] ∧
        ((after (.linkDown 5) (across .dark .settled)).lane 6).queue.map Want.command = [.warm] := by
  decide +kernel

/-- A state without an entry, in which no carrier sleeps, agrees with itself where its lanes, run state and pass do. -/
theorem coherent_awake {s : State} (none : ∀ k : Carrier, s.cluster.stack k = [])
    (awake : ∀ c : Carrier, (s.cluster.ctx c).sleeps = false ∧ (s.cluster.ctx c).reserved = false)
    (h : s.cluster.LanesSound ∧ s.cluster.WantsFit ∧ s.cluster.SentFit ∧ s.HaltedSound ∧ s.PassSound) : s.Coherent := by
  refine ⟨⟨h.1, fun c => ⟨fun g => ?_, ?_, fun k => ?_⟩, fun k g => absurd (none k) g, fun c g => ?_, fun k e g => ?_, h.2.1,
    h.2.2.1⟩, h.2.2.2.1, h.2.2.2.2⟩
  · rw [(awake c).1] at g; cases g
  · rw [none c]; exact List.nodup_nil
  · simp [Cluster.standsOn, none k, (awake c).1]
  · rw [(awake c).2] at g; cases g
  · rw [none k] at g; cases g

/-- LinkDownFaults: a coherent sector with a probed carrier of the site. -/
theorem witness_LinkDownFaults_probed :
    (probing .unknown).Coherent ∧ (probing .unknown).cluster.TagsAgree ∧ ((probing .unknown).channel 5).up = true ∧
      ((probing .unknown).ctx 0x51).state = .unknown ∧ ((probing .unknown).ctx 0x51).probeOrigin ≠ none :=
  ⟨coherent_awake (by decide +kernel) (by decide +kernel) ⟨by decide +kernel, by decide +kernel, by decide +kernel,
    by decide +kernel, by decide +kernel⟩, by decide +kernel, by decide +kernel, by decide +kernel, by decide +kernel⟩

/-- BoundsStep: a probed carrier, its record and an empty outcome queue; a step of that sector. -/
theorem witness_BoundsStep_probes :
    (probing .unknown).Coherent ∧ (probing .unknown).cluster.ProbesFit ∧
      step { probing .unknown with pending := [.linkDown 5] } = .next (after (.linkDown 5) (probing .unknown)) :=
  ⟨witness_LinkDownFaults_probed.1, by decide +kernel, rfl⟩

/-- Section 1.5: an outcome joins between its neighbours, and in place of one of its slot. -/
theorem test_join_outcome :
    (let o (n : Slot) (affected : Nat) : DirectiveOutcome := { slot := n, affected, skipped := 0, code := .ok }
     joinOutcome (o 4 1) [o 2 0, o 9 0] = [o 2 0, o 4 1, o 9 0] ∧ joinOutcome (o 9 3) [o 2 0, o 9 0] = [o 2 0, o 9 3]) := by
  decide

/-- The sector after its link went DOWN. -/
def linkless : State :=
  night.on fun w => (w.setChannel 5 {}).setCtx 0x51 { w.ctx 0x51 with state := .faulted, cause := some .link }

theorem witness_LinkUpQueries :
    (linkless.channel 5).up = false ∧ (linkless.ctx 0x51).state = .faulted ∧ (linkless.ctx 0x51).cause = some .link ∧
      linkless.stack 0x51 = [] ∧ linkless.cluster.isOutstanding 0x51 = false ∧ (linkless.ctx 0x52).state ≠ .faulted ∧
        (night.channel 5).up = true := by
  refine ⟨?_, ?_, ?_, ?_, ?_, ?_, ?_⟩ <;> decide +kernel

theorem witness_CivilSecond :
    State.reset.clock.valid = false ∧
      ({ night with
        clock := { seconds := 59, minutes := 59, hours := 23, weekday := 6, day := 65535, sub := 0, valid := true } } :
          State).clock.valid = true :=
  ⟨rfl, rfl⟩

/-- A minute event, and windows that fire (section 9's night) or do not; the last minute of weekday 5 before CLOSE. -/
def minute (m h d : Nat) (s : State) : State := { s with minutesDue := [stamped m h d] }

theorem witness_MinuteWindows :
    night.minutesDue = [] ∧ (minute 30 4 5 night).minutesDue = stamped 30 4 5 :: [] ∧
      openWindow.entry.deepStopAt.fires (stamped 30 4 5) = true ∧
        openWindow.entry.closeAt.fires (stamped 0 6 5) = true ∧
          openWindow.entry.openAt.fires (stamped 0 23 5) = false := by
  decide +kernel

/-- A sector whose window 1 also opens at the minute of its CLOSE. -/
def reopening (s : State) : State :=
  { s with
    windows := s.windows.set 1 { openWindow with entry := { openWindow.entry with openAt := openWindow.entry.closeAt } } }

/-- At 06:01 no window acts, nor does one that has never been set. -/
theorem night_rests :
    (∀ n : WindowNo, ¬(night.window n).Acts (stamped 1 6 5)) ∧
      ∀ n : WindowNo, ¬(State.reset.window n).Acts (stamped 1 6 5) := by
  have close : ∀ n : WindowNo, ¬(night.window n).Closes (stamped 1 6 5) := by decide +kernel
  have starts : ∀ n : WindowNo, ¬(night.window n).Opens (stamped 1 6 5) := by decide +kernel
  have stop : ∀ n : WindowNo, ¬(night.window n).Stops (stamped 1 6 5) := by decide +kernel
  have follow : ∀ n : WindowNo, ¬(night.window n).FollowsUp (stamped 1 6 5) := by decide +kernel
  have never : ∀ n : WindowNo, (State.reset.window n).entry.enabled = false ∧ (State.reset.window n).phase = .closed := by
    decide +kernel
  refine ⟨fun n h => ?_, fun n h => ?_⟩
  · rcases h with h | h | h | h
    · exact close n h
    · exact starts n h
    · exact stop n h
    · exact follow n h
  · rcases h with h | h | h | h
    · exact h.1 (never n).2
    · exact absurd h.1.1 (by simp [(never n).1])
    · exact absurd h.1.1 (by simp [(never n).1])
    · exact absurd h.1 (by simp [(never n).2])

/-- The sleeping sector at the CLOSE, at the DEEP_STOP, at a minute that finds the window SHALLOW, at a CLOSE with an OPEN, and
at a minute at which no window acts; 0x51 is bound to the window and 0x54 is not present. -/
theorem witness_WindowActions :
    ((minute 0 6 5 (across .dark .settled)).Coherent ∧ (minute 0 6 5 reservedAcross).Coherent) ∧
      (minute 0 6 5 (across .dark .settled)).minutesDue = stamped 0 6 5 :: [] ∧
        exec (.minuteEvent []) (minute 0 6 5 (across .dark .settled)) =
          .next (after (.minuteEvent []) (minute 0 6 5 (across .dark .settled))) ∧
          (((across .dark .settled).ctx 0x61).cfg.present = true ∧
            ((across .dark .settled).ctx 0x61).cfg.window = some 1 ∧ (night.ctx 0x54).cfg.present = false) ∧
            openWindow.Closes (stamped 0 6 5) ∧ openWindow.Stops (stamped 30 4 5) ∧
              ({ openWindow with phase := .shallow } : Window).FollowsUp (stamped 31 4 5) ∧
                ({ openWindow with phase := .closed } : Window).Opens (stamped 0 23 4) ∧
                  (((reopening night).window 1).Closes (stamped 0 6 5) ∧ ((reopening night).window 1).Opens (stamped 0 6 5)) ∧
                    ∀ n : WindowNo, ¬(night.window n).Acts (stamped 1 6 5) :=
  ⟨⟨across_coherent ⟨rfl, rfl⟩, reservedAcross_coherent⟩, rfl, rfl, by decide +kernel, by decide,
    by decide, by decide, by decide, by decide +kernel, night_rests.1⟩

/-- Section 9.4: the CLOSE turns the LIGHT carrier back, and with an OPEN at the same minute clears its nights too; the DEEP_STOP
has the DARK carrier wanted warm, with its entry in its phase. -/
theorem test_window_actions :
    ((after (.minuteEvent []) (minute 0 6 5 (reopening (asleep .light .settled)))).ctx 0x51).lastReason =
        some .windowClose ∧
      (after (.minuteEvent []) (minute 0 6 5 (reopening (asleep .light .settled)))).cluster.wants 0x51 .raise = true ∧
        ((after (.minuteEvent []) (minute 0 6 5 (reopening (asleep .light .settled)))).window 1).phase = .opened ∧
          ((after (.minuteEvent []) (minute 30 4 5 (asleep .dark .settled))).stack 0x50 =
              [{ entry 0x51 .settled 1024 with reason := .deepStop }] ∧
            ((after (.minuteEvent []) (minute 30 4 5 (asleep .dark .settled))).ctx 0x51).lastReason = some .deepStop) := by
  decide +kernel

/-- QuietMinute: an ordinary minute of the night with 0x51 LIGHT under an OPEN window; the same in HALTED. -/
theorem witness_QuietMinute :
    (∀ n : WindowNo, ¬((minute 1 6 5 (asleep .light .settled)).window n).Acts (stamped 1 6 5)) ∧
      (minute 1 6 5 (asleep .light .settled)).minutesDue = stamped 1 6 5 :: [] ∧
        ((asleep .light .settled).window 1).phase = .opened ∧ (asleep .light .settled).runState ≠ .halted ∧
          (∀ n : WindowNo, ¬((minute 1 6 5 State.reset).window n).Acts (stamped 1 6 5)) ∧
            (minute 1 6 5 State.reset).runState = .halted := by
  exact ⟨night_rests.1, rfl, by decide +kernel, by decide +kernel, night_rests.2, rfl⟩

/-- A directive of each kind waits in slot 4, and the next slot is below 32. -/
theorem witness_directives (kind : Option DirectiveKind) :
    (executing night (directive kind)).Executing (pass (.intake (some (directive kind)))) (directive kind) kind ∧
      (directive kind).slot.val + 1 < 32 ∧ (directive kind).affected = 0 ∧ (directive kind).skipped = 0 :=
  ⟨⟨rfl, rfl, rfl, rfl⟩, by show 4 + 1 < 32; decide, rfl, rfl⟩

/-- DirectivesWithoutSelector: SET_CLOCK in range and not, SLEEP_NOW outside RUNNING, a LOAD_POLICY that disables no open
window, and one that disables 0x51's. -/
theorem witness_DirectivesWithoutSelector :
    (directive (some .setClock)).clockInRange = true ∧
      ({ directive (some .setClock) with params := [60#8] } : DirectiveRun).clockInRange = false ∧
        (executing quiet (directive (some .sleepNow))).runState ≠ .running ∧
          (executing night loading).Executing (pass (.intake (some loading))) loading (some .loadPolicy) ∧
            loading.policy = some ({ reload := 9 }, Vector.replicate 8 { enabled := true }) ∧
              (∀ n : WindowNo, (night.window n).phase = .closed ∨
                (night.window n).entry.enabled = (Vector.replicate 8 ({ enabled := true } : WindowEntry))[n].enabled) ∧
                (((asleep .light .settled).ctx 0x51).cfg.window = some 1 ∧
                  ((asleep .light .settled).window 1).entry.enabled = true ∧
                    ((asleep .light .settled).window 1).phase ≠ .closed) :=
  ⟨by decide, by decide, by decide +kernel, ⟨rfl, rfl, rfl, rfl⟩, rfl, by decide +kernel, by decide +kernel⟩

/-- Section 9.4: a LOAD_POLICY that disables the OPEN window of 0x51 has it woken. -/
theorem test_loadPolicy_closes :
    ((after (.loadPolicy []) (executing (asleep .light .settled)
        { loading with policy := some ({}, Vector.replicate 8 {}) })).ctx 0x51).lastReason = some .windowClose ∧
      (after (.loadPolicy []) (executing (asleep .light .settled)
        { loading with policy := some ({}, Vector.replicate 8 {}) })).cluster.wants 0x51 .raise = true := by
  decide +kernel

/-- LoadCarriersRow: 0x51 selected and free to take a row, 0x50 with a sleeper, and 0x54 UNMANAGED. -/
theorem witness_LoadCarriersRow :
    (directive (some .loadCarriers)).position = (0x51 : Carrier).val ∧ (directive (some .loadCarriers)).row = none ∧
        (directive (some .loadCarriers)).selects 0x51 (night.ctx 0x51).state = true ∧
          (directive (some .loadCarriers)).selects 0x52 (night.ctx 0x52).state = false ∧
            (night.stack 0x51 = [] ∧ (night.ctx 0x51).state = .serving ∧ (night.ctx 0x51).reserved = false) ∧
              (asleep .light .settled).stack 0x50 ≠ [] ∧
                ((night.ctx 0x54).state = .unmanaged ∧ night.cluster.Unasked 0x54) ∧
                  ({ directive (some .loadCarriers) with row := some row } : DirectiveRun).row = some row ∧
                    (row.present = true ∧ row.capacityOk = true) := by
  refine ⟨?_, ?_, ?_, ?_, ⟨?_, ?_, ?_⟩, ?_, ⟨?_, ?_⟩, ?_, ?_⟩ <;> decide +kernel

/-- HoldDirectives: HOLD_ON at 0x51, and at 0x54, which is UNMANAGED; a RELEASE_HOLD that starts at carrier 0. -/
theorem witness_HoldDirectives :
    (directive (some .holdOn)).selects 0x51 (night.ctx 0x51).state = true ∧ (night.ctx 0x51).state ≠ .unmanaged ∧
      (night.ctx 0x54).state = .unmanaged ∧
        (let d := { directive (some .releaseHold) with position := 0 }
         (executing night d).Executing (pass (.intake (some d))) d (some .releaseHold) ∧ d.position = 0) := by
  refine ⟨?_, ?_, ?_, ⟨rfl, rfl, rfl, rfl⟩, rfl⟩ <;> decide +kernel

/-- ProbeCarrier: a SERVING, an UNKNOWN, a FAULTED and a sleeping 0x51, and the end of the selection at carrier 255. -/
theorem witness_ProbeCarrier :
    ((night.ctx 0x51).state = .serving ∧ night.stack 0x51 = [] ∧ night.cluster.Unasked 0x51) ∧
      ((linkless.ctx 0x51).state = .faulted ∧ linkless.stack 0x51 = [] ∧ linkless.cluster.Unasked 0x51) ∧
        ((asleep .unknown .settled).ctx 0x51).probeOrigin = none ∧ ((asleep .light .settled).ctx 0x51).state = .light ∧
          (let d := { directive (some .probe) with position := 255 }
           d.selects 255 (night.ctx 255).state = false ∧ d.begun = true) ∧
            ({ directive (some .probe) with begun := false } : DirectiveRun).begun = false := by
  refine ⟨⟨?_, ?_, ?_⟩, ⟨?_, ?_, ?_⟩, ?_, ?_, ⟨?_, ?_⟩, ?_⟩ <;> decide +kernel

end Sys2Proof.Tests
end

section
/-! The notice flags and the interrupt line (R18, R19). -/

namespace Sys2Proof.Machine

theorem Notice.bit_lt (n : Notice) : n.bit < 6 := by cases n <;> decide

theorem Notice.exists_bit_eq {i : Nat} (h : i < 6) : ∃ n : Notice, n.bit = i :=
  match i, h with
  | 0, _ => ⟨.change, rfl⟩
  | 1, _ => ⟨.directive, rfl⟩
  | 2, _ => ⟨.fault, rfl⟩
  | 3, _ => ⟨.failsafe, rfl⟩
  | 4, _ => ⟨.minute, rfl⟩
  | 5, _ => ⟨.data, rfl⟩

theorem Notice.bit_inj {n m : Notice} : n.bit = m.bit ↔ n = m := by
  cases n <;> cases m <;> simp [Notice.bit]

/-- A register of flags is nonzero exactly when one of the six notices is set in it: they fill its bits. -/
theorem Notice.exists_isIn_iff (x : BitVec 6) : (∃ n : Notice, n.isIn x = true) ↔ x ≠ 0#6 := by
  constructor
  · rintro ⟨n, hn⟩ rfl
    simp [Notice.isIn] at hn
  · intro hx
    refine Classical.byContradiction fun hno => hx (BitVec.eq_of_getLsbD_eq fun i hi => ?_)
    obtain ⟨n, rfl⟩ := Notice.exists_bit_eq hi
    simpa [Notice.isIn] using fun h => hno ⟨n, h⟩

@[simp] theorem Notice.isIn_and (n : Notice) (x y : BitVec 6) : n.isIn (x &&& y) = (n.isIn x && n.isIn y) :=
  BitVec.getLsbD_and

@[simp] theorem Notice.isIn_setWidth (n : Notice) (v : Word) : n.isIn (v.setWidth 6) = v.getLsbD n.bit := by
  simp [Notice.isIn, n.bit_lt]

/-- Setting a flag sets that flag and leaves the five others (R18). -/
theorem Notice.isIn_raiseIn (m n : Notice) (x : BitVec 6) : m.isIn (n.raiseIn x) = (m == n || m.isIn x) := by
  have mask : (1#6 <<< n.bit).getLsbD m.bit = (m == n) := by
    rw [← BitVec.twoPow_eq, BitVec.getLsbD_twoPow, Bool.eq_iff_iff]
    simp [n.bit_lt, Notice.bit_inj, eq_comm (a := n)]
  simp [Notice.isIn, Notice.raiseIn, -BitVec.getLsbD_shiftLeft, mask, Bool.or_comm]

/-- The level of the line (R19): some flag and its enable are both 1. -/
theorem State.interruptLine_iff (s : State) :
    s.interruptLine = true ↔ ∃ n : Notice, n.isIn s.cluster.note = true ∧ n.isIn s.noteEn = true := by
  have nonzero : s.interruptLine = true ↔ s.cluster.note &&& s.noteEn ≠ 0#6 := bne_iff_ne
  simp [nonzero, ← Notice.exists_isIn_iff]

theorem exec_noteWrite (v : Word) (s : State) :
    exec (.noteWrite v) s = .next (s.on fun w => { w with note := w.note &&& v.setWidth 6 }) := rfl

theorem exec_noteenWrite (v : Word) (s : State) :
    exec (.noteenWrite v) s = .next { s with noteEn := v.setWidth 6 } := rfl

/-- A set flag asserts the line at once if its enable is 1, and never releases it. -/
theorem State.interruptLine_notify (s : State) (n : Notice) :
    (s.notify n).interruptLine = true ↔ s.interruptLine = true ∨ n.isIn s.noteEn = true := by
  have flags (m : Notice) : m.isIn (s.notify n).cluster.note = (m == n || m.isIn s.cluster.note) :=
    m.isIn_raiseIn n s.cluster.note
  have enables : (s.notify n).noteEn = s.noteEn := rfl
  simp only [State.interruptLine_iff, flags, enables, Bool.or_eq_true, beq_iff_eq, or_and_right, exists_or,
    exists_eq_left]
  exact or_comm

theorem State.interruptLine_of_noteenWrite {s t : State} {v : Word} (h : exec (.noteenWrite v) s = .next t) :
    t.interruptLine = true ↔ ∃ n : Notice, n.isIn s.cluster.note = true ∧ v.getLsbD n.bit = true := by
  rw [exec_noteenWrite] at h
  cases h
  simp [State.interruptLine_iff]

theorem State.interruptLine_of_noteWrite {s t : State} {v : Word} (h : exec (.noteWrite v) s = .next t) :
    t.interruptLine = true ↔
      ∃ n : Notice, n.isIn s.cluster.note = true ∧ v.getLsbD n.bit = true ∧ n.isIn s.noteEn = true := by
  rw [exec_noteWrite] at h
  cases h
  simp [State.interruptLine_iff, State.on, and_assoc]

/-- Settles O14: the level is `State.interruptLine_iff`, and each of the three ways to move it is read through that. -/
theorem interruptLineLevel : Obligations.InterruptLineLevel := by
  intro s
  exact ⟨s.interruptLine_iff, s.interruptLine_notify, fun n m => m.isIn_raiseIn n s.cluster.note,
    fun _ _ => State.interruptLine_of_noteenWrite, fun _ _ => State.interruptLine_of_noteWrite⟩

end Sys2Proof.Machine
end

section
/-! The smoothing of a load toward its target (R46, R47). -/

namespace Sys2Proof.Machine

/-- The distance m of a load from its target, |delta| of R47. -/
def loadDistance (load target : Nat) : Nat := if load ≤ target then target - load else load - target

theorem loadDistance_of_le {load target : Nat} (h : load ≤ target) :
    loadDistance load target = target - load := if_pos h

theorem loadDistance_of_lt {load target : Nat} (h : target < load) :
    loadDistance load target = load - target := if_neg (Nat.not_le.mpr h)

theorem smooth_eq (k load target : Nat) :
    smooth k load target =
      if load ≤ target then load + smoothStep k (loadDistance load target)
      else load - smoothStep k (loadDistance load target) := by
  unfold smooth loadDistance
  split <;> rfl

@[simp] theorem smoothStep_zero (m : Nat) : smoothStep 0 m = m := rfl

@[simp] theorem smoothStep_succ (j m : Nat) : smoothStep (j + 1) m = (m + 2 ^ j) / 2 ^ (j + 1) := rfl

/-- The step is the nearest integer to m ÷ 2^k: with half a divisor added, the quotient is rounded down. -/
theorem smoothStep_rounds {k : Nat} (hk : 1 ≤ k) (m : Nat) :
    2 ^ k * smoothStep k m ≤ m + 2 ^ (k - 1) ∧ m + 2 ^ (k - 1) < 2 ^ k * (smoothStep k m + 1) := by
  obtain ⟨j, rfl⟩ := Nat.exists_eq_add_of_le' hk
  exact ⟨Nat.mul_div_le .., Nat.lt_mul_div_succ _ (Nat.two_pow_pos _)⟩

/-- A step is 0 exactly within the rest band. -/
theorem smoothStep_eq_zero_iff {k : Nat} (hk : 1 ≤ k) (m : Nat) : smoothStep k m = 0 ↔ m < 2 ^ (k - 1) := by
  obtain ⟨j, rfl⟩ := Nat.exists_eq_add_of_le' hk
  have halves : 2 ^ (j + 1) = 2 ^ j + 2 ^ j := by rw [Nat.pow_succ, Nat.mul_two]
  rw [smoothStep_succ, Nat.div_eq_zero_iff_lt (Nat.two_pow_pos _), halves, Nat.add_lt_add_iff_right,
    Nat.add_sub_cancel]

/-- The half added before the division never lifts the step above m, since 2^(k−1) is less than 2^k. -/
theorem smoothStep_le (k m : Nat) : smoothStep k m ≤ m := by
  cases k with
  | zero => exact Nat.le_of_eq (smoothStep_zero m)
  | succ j =>
    have below : m + 2 ^ j < (m + 1) * 2 ^ (j + 1) := calc
      m + 2 ^ j < m + 2 ^ (j + 1) := Nat.add_lt_add_left (Nat.pow_lt_pow_succ Nat.one_lt_two) m
      _ ≤ m * 2 ^ (j + 1) + 2 ^ (j + 1) :=
        Nat.add_le_add_right (Nat.le_mul_of_pos_right m (Nat.two_pow_pos _)) _
      _ = (m + 1) * 2 ^ (j + 1) := (Nat.succ_mul ..).symm
    exact Nat.le_of_lt_succ ((Nat.div_lt_iff_lt_mul (Nat.two_pow_pos _)).mpr below)

/-- A smoothing step leaves L between its previous value and the target, because the step is at most the distance. -/
theorem smooth_between (k load target : Nat) :
    min load target ≤ smooth k load target ∧ smooth k load target ≤ max load target := by
  have bound := smoothStep_le k (loadDistance load target)
  rw [smooth_eq]
  rcases Nat.lt_or_ge target load with falls | rises
  · rw [loadDistance_of_lt falls] at bound ⊢
    rw [if_neg (Nat.not_le.mpr falls)]
    omega
  · rw [loadDistance_of_le rises] at bound ⊢
    rw [if_pos rises]
    omega

theorem smooth_le {load target limit : Nat} (k : Nat) (hl : load ≤ limit) (ht : target ≤ limit) :
    smooth k load target ≤ limit :=
  Nat.le_trans (smooth_between k load target).2 (Nat.max_le.mpr ⟨hl, ht⟩)

/-- Settles O22: the statement's step is `smoothStep` at `loadDistance`, and each clause is one of their lemmas. -/
theorem smoothingStep : Obligations.SmoothingStep := by
  intro k load target _ hload htarget
  have between := smooth_between k load target
  exact ⟨smooth_eq k load target, smoothStep_le k _, fun hk => smoothStep_eq_zero_iff hk _,
    fun hk => smoothStep_rounds hk _, between.1, between.2, smooth_le k hload htarget⟩

end Sys2Proof.Machine
end

section
/-! The check of a reply frame, and the frames that are discarded (R138, R139, R192). -/

namespace Sys2Proof.Machine

/-- The outcome's value in a reply frame (section 12.7). -/
def ReplyOutcome.code : ReplyOutcome → Nat
  | .ack => 0
  | .busy => 1
  | .nak => 2
  | .fault => 3

/-- The radio state's value in a reply frame (section 12.7). -/
def RadioState.code : RadioState → Nat
  | .on => 0
  | .light => 1
  | .dark => 2
  | .fault => 3

@[simp] theorem replyOutcomeOf_code (o : ReplyOutcome) : replyOutcomeOf o.code = some o := by cases o <;> rfl

theorem replyOutcomeOf_eq_some_iff {n : Nat} {o : ReplyOutcome} : replyOutcomeOf n = some o ↔ o.code = n := by
  constructor
  · intro h
    unfold replyOutcomeOf at h
    split at h <;> cases h <;> rfl
  · rintro rfl
    exact replyOutcomeOf_code o

@[simp] theorem radioStateOf_code (q : RadioState) : radioStateOf q.code = some q := by cases q <;> rfl

theorem radioStateOf_eq_some_iff {n : Nat} {q : RadioState} : radioStateOf n = some q ↔ q.code = n := by
  constructor
  · intro h
    unfold radioStateOf at h
    split at h <;> cases h <;> rfl
  · rintro rfl
    exact radioStateOf_code q

theorem ReplyOutcome.code_le (o : ReplyOutcome) : o.code ≤ 3 := by cases o <;> decide

theorem RadioState.code_le (q : RadioState) : q.code ≤ 3 := by cases q <;> decide

theorem ReplyOutcome.code_inj {o p : ReplyOutcome} : o.code = p.code ↔ o = p :=
  ⟨fun h => Option.some.inj (by rw [← replyOutcomeOf_code o, h, replyOutcomeOf_code]), congrArg ReplyOutcome.code⟩

theorem RadioState.code_inj {q p : RadioState} : q.code = p.code ↔ q = p :=
  ⟨fun h => Option.some.inj (by rw [← radioStateOf_code q, h, radioStateOf_code]), congrArg RadioState.code⟩

theorem ReplyOutcome.exists_code_eq {n : Nat} (h : n ≤ 3) : ∃ o : ReplyOutcome, o.code = n :=
  match n, h with
  | 0, _ => ⟨.ack, rfl⟩
  | 1, _ => ⟨.busy, rfl⟩
  | 2, _ => ⟨.nak, rfl⟩
  | 3, _ => ⟨.fault, rfl⟩

theorem RadioState.exists_code_eq {n : Nat} (h : n ≤ 3) : ∃ q : RadioState, q.code = n :=
  match n, h with
  | 0, _ => ⟨.on, rfl⟩
  | 1, _ => ⟨.light, rfl⟩
  | 2, _ => ⟨.dark, rfl⟩
  | 3, _ => ⟨.fault, rfl⟩

/-- What the check accepts, and the fields it reads: outcome and radio state are those whose values stand in bytes 1
and 2. -/
theorem parseReply_eq_some_iff {frame : List Byte} {r : Reply} :
    parseReply frame = some r ↔
      (frame.length = 6 ∧ byteSum frame % 256 = 0) ∧ r.outcome.code = byteAt frame 1 ∧
        r.radio.code = byteAt frame 2 ∧ r.tag = (frame.getD 0 0#8).setWidth 4 ∧ r.users = le16 frame 3 := by
  rw [← replyOutcomeOf_eq_some_iff, ← radioStateOf_eq_some_iff]
  obtain ⟨tag, outcome, radio, users⟩ := r
  unfold parseReply
  split
  next sums =>
    simp only [sums, true_and]
    split
    next o q ho hq =>
      simp only [ho, hq, Option.some.injEq, Reply.mk.injEq]
      constructor
      · rintro ⟨htag, houtcome, hradio, husers⟩
        exact ⟨houtcome, hradio, htag.symm, husers.symm⟩
      · rintro ⟨houtcome, hradio, htag, husers⟩
        exact ⟨htag.symm, houtcome, hradio, husers.symm⟩
    next unnamed =>
      simp only [reduceCtorEq, false_iff]
      rintro ⟨ho, hq, _⟩
      exact unnamed _ _ ho hq
  next hcheck => simp [hcheck]

theorem exec_radioReply (i : Site) (frame : List Byte) (s : State) :
    exec (.radioReply i frame) s = execRadioReply i frame s := rfl

/-- A frame without a reply to the live command is only counted. -/
theorem exec_radioReply_of_not_live {s : State} {i : Site} {frame : List Byte}
    (h : ∀ r : Reply, parseReply frame = some r → (s.channel i).liveTag ≠ some r.tag) :
    exec (.radioReply i frame) s = .next s.countLate := by
  rw [exec_radioReply]
  unfold execRadioReply
  split
  next r hr => rw [if_neg (h r hr)]
  next => rfl

/-- Settles O42: a reply that is read back from a discarded frame would contradict each of the reasons to discard it, and
a frame in range is read by the values of its outcome and radio state. -/
theorem replyDiscarded : Obligations.ReplyDiscarded := by
  intro s i frame
  constructor
  · intro discarded
    refine exec_radioReply_of_not_live fun r parsed live => ?_
    obtain ⟨⟨length, sum⟩, outcome, radio, tag, _⟩ := parseReply_eq_some_iff.mp parsed
    rcases discarded with short | badSum | noOutcome | noRadio | notLive
    · exact short length
    · exact badSum sum
    · exact absurd (outcome ▸ r.outcome.code_le) (Nat.not_le.mpr noOutcome)
    · exact absurd (radio ▸ r.radio.code_le) (Nat.not_le.mpr noRadio)
    · exact notLive (tag ▸ live)
  · intro length sum outcomeRange radioRange
    obtain ⟨o, ho⟩ := ReplyOutcome.exists_code_eq outcomeRange
    obtain ⟨q, hq⟩ := RadioState.exists_code_eq radioRange
    rw [← ho, ← hq]
    exact ⟨⟨(frame.getD 0 0#8).setWidth 4, o, q, le16 frame 3⟩,
      parseReply_eq_some_iff.mpr ⟨⟨length, sum⟩, ho, hq, rfl, rfl⟩, rfl, rfl,
      ReplyOutcome.code_inj.symm, ReplyOutcome.code_inj.symm, ReplyOutcome.code_inj.symm,
      RadioState.code_inj.symm, RadioState.code_inj.symm, RadioState.code_inj.symm⟩

end Sys2Proof.Machine
end

section
/-! Lanes in agreement (R121, R122, R124, R131): the carriers that a lane asks, and the operations that keep each asked once. -/

namespace Sys2Proof.Machine

/-! ## Lists without repetition: the package has no Mathlib to take these from -/

theorem eq_of_nodup_map {α β : Type} {f : α → β} {l : List α} (nodup : (l.map f).Nodup) {x y : α} (hx : x ∈ l) (hy : y ∈ l)
    (same : f x = f y) : x = y := by
  induction l with
  | nil => cases hx
  | cons a l ih =>
    obtain ⟨fresh, nodup⟩ := List.nodup_cons.mp nodup
    rcases List.mem_cons.mp hx with rfl | inx <;> rcases List.mem_cons.mp hy with rfl | iny
    · rfl
    · exact absurd (same ▸ List.mem_map_of_mem iny) fresh
    · exact absurd (same ▸ List.mem_map_of_mem inx) fresh
    · exact ih nodup inx iny

theorem nodup_flatMap_iff {α β : Type} {f : α → List β} {l : List α} :
    (l.flatMap f).Nodup ↔ (∀ a ∈ l, (f a).Nodup) ∧ l.Pairwise fun a b => ∀ x ∈ f a, x ∉ f b := by
  refine List.pairwise_flatMap.trans (and_congr_right fun _ => ?_)
  constructor <;> refine List.Pairwise.imp fun {a b} apart x hx => ?_
  · exact fun hy => apart x hx x hy rfl
  · exact fun y hy same => apart x hx (same ▸ hy)

/-! ## Wants and the command outstanding -/

theorem Cluster.mem_queue_of_wantOf {w : Cluster} {c : Carrier} {x : Want} (h : w.wantOf c = some x) :
    x ∈ (w.lane (siteOf c)).queue ∧ x.carrier = c :=
  ⟨List.mem_of_find?_eq_some h, by simpa using List.find?_some h⟩

theorem Cluster.wantOf_eq_none_iff {w : Cluster} {c : Carrier} :
    w.wantOf c = none ↔ ∀ x ∈ (w.lane (siteOf c)).queue, x.carrier ≠ c := by
  simp [Cluster.wantOf, List.find?_eq_none]

theorem Cluster.isOutstanding_iff {w : Cluster} {c : Carrier} :
    w.isOutstanding c = true ↔ ∃ o, (w.lane (siteOf c)).outstanding = some o ∧ o.carrier = c := by
  unfold Cluster.isOutstanding
  cases (w.lane (siteOf c)).outstanding <;> simp

/-- A want of the carrier with this command stands in its lane. -/
theorem Cluster.exists_of_wants {w : Cluster} {c : Carrier} {command : RadioCommand} (h : w.wants c command = true) :
    ∃ x ∈ (w.lane (siteOf c)).queue, x.carrier = c ∧ x.command = command := by
  unfold Cluster.wants at h
  split at h
  · next x hx =>
    obtain ⟨hm, hc⟩ := Cluster.mem_queue_of_wantOf hx
    exact ⟨x, hm, hc, by simpa using h⟩
  · cases h

theorem Lane.mem_carriers {l : Lane} {c : Carrier} :
    c ∈ l.carriers ↔ (∃ o, l.outstanding = some o ∧ o.carrier = c) ∨ ∃ x ∈ l.queue, x.carrier = c := by
  simp [Lane.carriers]

theorem Cluster.unasked_iff {w : Cluster} {c : Carrier} : w.Unasked c ↔ c ∉ (w.lane (siteOf c)).carriers := by
  unfold Cluster.Unasked
  rw [Lane.mem_carriers, Cluster.wantOf_eq_none_iff, ← Bool.not_eq_true, Cluster.isOutstanding_iff]
  rw [not_or, not_exists, and_comm]
  simp only [not_exists, not_and, ne_eq]

/-- The command outstanding in a sound lane is the only thing asked of its carrier. -/
theorem Lane.Sound.not_queued {i : Site} {l : Lane} (h : l.Sound i) {o : Outstanding} (ho : l.outstanding = some o) :
    ∀ x ∈ l.queue, x.carrier ≠ o.carrier := by
  intro x hx hc
  obtain ⟨hn, _⟩ := h
  simp only [Lane.carriers, ho, Option.toList_some, List.map_cons, List.map_nil, List.cons_append, List.nil_append,
    List.nodup_cons] at hn
  exact hn.1 (hc ▸ List.mem_map_of_mem hx)

/-- A lane that asks a part of what a sound lane asks, in its order, is sound. -/
theorem Lane.Sound.of_sublist {i : Site} {l m : Lane} (h : l.Sound i) (hs : m.carriers.Sublist l.carriers) : m.Sound i :=
  ⟨h.1.sublist hs, fun c hc => h.2 c (hs.mem hc)⟩

theorem Lane.Sound.filter {i : Site} {l : Lane} (h : l.Sound i) (f : Want → Bool) :
    Lane.Sound i { l with queue := l.queue.filter f } :=
  h.of_sublist ((List.Sublist.refl _).append (List.filter_sublist.map _))

theorem Lane.Sound.ended {i : Site} {l : Lane} (h : l.Sound i) : l.ended.Sound i :=
  h.of_sublist (by simp [Lane.carriers, Lane.ended])

/-- A want joins a sound lane that asks nothing of its carrier. -/
theorem Lane.Sound.append {i : Site} {l : Lane} (h : l.Sound i) {c : Carrier} (hi : siteOf c = i) (hc : c ∉ l.carriers)
    (command : RadioCommand) (wait attempt : Nat) : (l.append c command wait attempt).Sound i := by
  have e : (l.append c command wait attempt).carriers = l.carriers ++ [c] := by simp [Lane.carriers, Lane.append]
  unfold Lane.Sound
  rw [e]
  refine ⟨List.nodup_append.mpr ⟨h.1, by simp, by simpa using fun a ha (g : a = c) => hc (g ▸ ha)⟩, fun d hd => ?_⟩
  rcases List.mem_append.mp hd with hd | hd
  · exact h.2 d hd
  · rw [List.mem_singleton.mp hd, hi]

theorem Cluster.LanesSound.dropWant {w : Cluster} (h : w.LanesSound) (c : Carrier) : (w.dropWant c).LanesSound := by
  intro i
  rw [Cluster.lane_dropWant]
  split
  · exact (h i).filter _
  · exact h i

theorem Cluster.LanesSound.retire {w : Cluster} (h : w.LanesSound) (i : Site) : (w.retire i).LanesSound := by
  intro j
  rw [Cluster.lane_retire]
  split
  · exact (h j).ended
  · exact h j

/-- The lane of the site after a want that was not already there has joined (R124). -/
theorem Cluster.lane_joinWant (w : Cluster) (c : Carrier) (command : RadioCommand) (wait attempt : Nat) (i : Site)
    (h : ¬(w.isOutstanding c = true ∨ w.wants c command = true)) :
    (w.joinWant c command wait attempt).lane i =
      if siteOf c = i then ((w.dropWant c).lane i).append c command wait attempt else w.lane i := by
  unfold Cluster.joinWant
  rw [if_neg (by simpa using h), Cluster.lane_setLane]
  split
  · next hi => rw [hi]
  · next hi => rw [Cluster.lane_dropWant, if_neg hi]

theorem Cluster.unasked_dropWant {w : Cluster} {c : Carrier} (h : w.isOutstanding c = false) : (w.dropWant c).Unasked c :=
  ⟨Cluster.wantOf_dropWant_self w c, by rw [Cluster.isOutstanding_dropWant, h]⟩

theorem Cluster.LanesSound.joinWant {w : Cluster} (h : w.LanesSound) (c : Carrier) (command : RadioCommand)
    (wait attempt : Nat) : (w.joinWant c command wait attempt).LanesSound := by
  by_cases g : w.isOutstanding c = true ∨ w.wants c command = true
  · rwa [Cluster.joinWant_eq_self w wait attempt g]
  · intro i
    rw [Cluster.lane_joinWant w c command wait attempt i g]
    split
    · next hi =>
      subst hi
      have free := Cluster.unasked_iff.mp (Cluster.unasked_dropWant (w := w) (c := c) (by simpa using fun o => g (.inl o)))
      exact (h.dropWant c (siteOf c)).append rfl free command wait attempt
    · exact h i

/-- What the lanes ask after a want has joined: what they asked, or the joined command. -/
theorem Cluster.mem_queue_joinWant {w : Cluster} {c : Carrier} {command : RadioCommand} {wait attempt : Nat} {i : Site}
    {x : Want} (h : x ∈ ((w.joinWant c command wait attempt).lane i).queue) :
    x ∈ (w.lane i).queue ∨ (x.carrier = c ∧ x.command = command) := by
  by_cases g : w.isOutstanding c = true ∨ w.wants c command = true
  · rw [Cluster.joinWant_eq_self w wait attempt g] at h
    exact .inl h
  · rw [Cluster.lane_joinWant w c command wait attempt i g] at h
    split at h
    · next hi =>
      rw [Cluster.lane_dropWant, if_pos hi] at h
      rcases List.mem_append.mp h with h | h
      · exact .inl (List.mem_filter.mp h).1
      · rw [List.mem_singleton.mp h]
        exact .inr ⟨rfl, rfl⟩
    · exact .inl h

@[simp] theorem Cluster.outstanding_dropWant (w : Cluster) (c : Carrier) (i : Site) :
    ((w.dropWant c).lane i).outstanding = (w.lane i).outstanding := by
  rw [Cluster.lane_dropWant]
  split <;> rfl

@[simp] theorem Cluster.outstanding_joinWant (w : Cluster) (c : Carrier) (command : RadioCommand) (wait attempt : Nat)
    (i : Site) : ((w.joinWant c command wait attempt).lane i).outstanding = (w.lane i).outstanding :=
  (Cluster.joinWant_spec w c command wait attempt).2.1 i

@[simp] theorem Cluster.outstanding_want (w : Cluster) (c : Carrier) (command : RadioCommand) (i : Site) :
    ((w.want c command).lane i).outstanding = (w.lane i).outstanding := Cluster.outstanding_joinWant ..

theorem Cluster.mem_queue_dropWant {w : Cluster} {c : Carrier} {i : Site} {x : Want}
    (h : x ∈ ((w.dropWant c).lane i).queue) : x ∈ (w.lane i).queue := by
  rw [Cluster.lane_dropWant] at h
  split at h
  · exact (List.mem_filter.mp h).1
  · exact h

theorem Cluster.mem_queue_retire {w : Cluster} {i j : Site} {x : Want} :
    x ∈ ((w.retire i).lane j).queue ↔ x ∈ (w.lane j).queue := by
  rw [Cluster.lane_retire]
  split <;> rfl

theorem Cluster.outstanding_retire (w : Cluster) (i j : Site) :
    ((w.retire i).lane j).outstanding = if i = j then none else (w.lane j).outstanding := by
  rw [Cluster.lane_retire]
  split <;> rfl

/-- A want that joins is no other carrier's. -/
theorem Cluster.wantOf_joinWant_ne (w : Cluster) {c d : Carrier} (hcd : c ≠ d) (command : RadioCommand)
    (wait attempt : Nat) : (w.joinWant c command wait attempt).wantOf d = w.wantOf d := by
  by_cases g : w.isOutstanding c = true ∨ w.wants c command = true
  · rw [Cluster.joinWant_eq_self w wait attempt g]
  · refine Eq.trans ?_ (Cluster.wantOf_dropWant_ne w hcd)
    unfold Cluster.wantOf
    rw [Cluster.lane_joinWant w c command wait attempt _ g]
    split
    · simp [Lane.append, List.find?_append, hcd]
    · next hi => rw [Cluster.lane_dropWant, if_neg hi]

theorem Cluster.wantOf_want_ne (w : Cluster) {c d : Carrier} (hcd : c ≠ d) (command : RadioCommand) :
    (w.want c command).wantOf d = w.wantOf d := Cluster.wantOf_joinWant_ne w hcd command 0 1

@[simp] theorem Cluster.isOutstanding_joinWant (w : Cluster) (c d : Carrier) (command : RadioCommand)
    (wait attempt : Nat) : (w.joinWant c command wait attempt).isOutstanding d = w.isOutstanding d := by
  simp only [Cluster.isOutstanding, Cluster.outstanding_joinWant]

@[simp] theorem Cluster.isOutstanding_want (w : Cluster) (c d : Carrier) (command : RadioCommand) :
    (w.want c command).isOutstanding d = w.isOutstanding d := Cluster.isOutstanding_joinWant ..

/-- A carrier without a command outstanding has the command wanted once it has been asked for. -/
theorem Cluster.wants_joinWant_self (w : Cluster) {c : Carrier} (h : w.isOutstanding c = false) (command : RadioCommand)
    (wait attempt : Nat) : (w.joinWant c command wait attempt).wants c command = true := by
  by_cases g : w.wants c command = true
  · rw [Cluster.joinWant_eq_self w wait attempt (.inr g), g]
  · unfold Cluster.wants Cluster.wantOf
    rw [Cluster.lane_joinWant w c command wait attempt _ (by simp [h, g]), if_pos rfl, Cluster.lane_dropWant, if_pos rfl]
    have none : ((w.lane (siteOf c)).queue.filter fun x => x.carrier != c).find? (fun x => x.carrier == c) = none := by
      simp [List.find?_eq_none]
    simp only [Lane.append, List.find?_append, none, Option.none_or]
    simp

end Sys2Proof.Machine
end

section
/-! Coherence with some carriers left out of account: an event takes a carrier's entry away before its state follows, and in
between all the others agree (R25, R27, R28, R84, R121). -/

namespace Sys2Proof.Machine

/-- The owner of a stack that is not empty may be in this state (R27). -/
abbrev Context.Awake (x : Context) : Prop := (x.state = .serving ∧ x.reserved = false) ∨ x.state = .faulted

/-- Coherence of all carriers but those of X, which hold no entry; the phases of the entries apart. -/
structure Cluster.AgreeBut (w : Cluster) (X : Carrier → Prop) : Prop where
  lanes : w.LanesSound
  nodup : ∀ k : Carrier, ((w.stack k).map Entry.carrier).Nodup
  covered : ∀ c : Carrier, ¬X c → (w.ctx c).sleeps = true → (w.ctx c).cfg.cover.isSome
  stands : ∀ c k : Carrier, w.standsOn c k = true ↔ ¬X c ∧ (w.ctx c).sleeps = true ∧ (w.ctx c).cfg.cover = some k
  owners : ∀ k : Carrier, ¬X k → w.stack k ≠ [] → (w.ctx k).Awake
  marks : ∀ c : Carrier, ¬X c → (w.ctx c).reserved = true → (w.ctx c).state = .serving
  wants : ∀ i : Site, ∀ x ∈ (w.lane i).queue, ¬X x.carrier →
    x.command.fitsWanted (w.ctx x.carrier) = true ∧
      (x.command = .raise → (w.ctx x.carrier).state = .light → w.isReturning x.carrier = true)
  sent : ∀ (i : Site) (o : Outstanding), (w.lane i).outstanding = some o → ¬X o.carrier →
    o.command.fitsSent (w.ctx o.carrier) = true

/-- Coherence of all carriers but those of X, which hold no entry. -/
structure Cluster.CoherentBut (w : Cluster) (X : Carrier → Prop) : Prop extends w.AgreeBut X where
  phases : w.PhasesFit

theorem Cluster.coherent_iff (w : Cluster) : w.Coherent ↔ w.CoherentBut fun _ => False := by
  constructor
  · rintro ⟨lanes, entries, owners, marks, phases, wants, sent⟩
    exact
      { lanes
        nodup := fun c => (entries c).2.1
        covered := fun c _ => (entries c).1
        stands := fun c k => by simpa using (entries c).2.2 k
        owners := fun k _ => owners k
        marks := fun c _ => marks c
        phases
        wants := fun i x hx _ => wants i x hx
        sent := fun i o ho _ => sent i o (by simp [ho]) }
  · intro h
    exact ⟨h.lanes, fun c => ⟨h.covered c id, h.nodup c, fun k => by simpa using h.stands c k⟩, fun k => h.owners k id,
      fun c => h.marks c id, h.phases, fun i x hx => h.wants i x hx id,
      fun i o ho => h.sent i o (by simpa using ho) id⟩

/-! ## Entries -/

theorem Cluster.standsOn_iff {w : Cluster} {c k : Carrier} : w.standsOn c k = true ↔ ∃ e ∈ w.stack k, e.carrier = c := by
  simp [Cluster.standsOn]

theorem Cluster.standsOn_of_mem {w : Cluster} {k : Carrier} {e : Entry} (h : e ∈ w.stack k) :
    w.standsOn e.carrier k = true := Cluster.standsOn_iff.mpr ⟨e, h, rfl⟩

section
variable {w : Cluster} {X : Carrier → Prop}

theorem Cluster.CoherentBut.mono (h : w.CoherentBut X) {Y : Carrier → Prop} (hXY : ∀ c, X c ↔ Y c) : w.CoherentBut Y := by
  have : X = Y := funext fun c => propext (hXY c)
  exact this ▸ h

/-- An entry's carrier is in account, sleeps, and has the owner as its cover. -/
theorem Cluster.AgreeBut.of_mem (h : w.AgreeBut X) {k : Carrier} {e : Entry} (he : e ∈ w.stack k) :
    ¬X e.carrier ∧ (w.ctx e.carrier).sleeps = true ∧ (w.ctx e.carrier).cfg.cover = some k :=
  (h.stands e.carrier k).mp (Cluster.standsOn_of_mem he)

/-- Two entries of one carrier are one. -/
theorem Cluster.AgreeBut.entry_unique (h : w.AgreeBut X) {k l : Carrier} {e f : Entry} (he : e ∈ w.stack k)
    (hf : f ∈ w.stack l) (hc : e.carrier = f.carrier) : k = l ∧ e = f := by
  obtain ⟨_, _, hk⟩ := h.of_mem he
  obtain ⟨_, _, hl⟩ := h.of_mem hf
  have hkl : k = l := by
    rw [hc, hl] at hk
    exact (Option.some.inj hk).symm
  subst hkl
  exact ⟨rfl, eq_of_nodup_map (h.nodup k) he hf hc⟩

/-- The host of an entry's carrier is the owner of the stack. -/
theorem Cluster.AgreeBut.hostOf_eq (h : w.AgreeBut X) {k : Carrier} {e : Entry} (he : e ∈ w.stack k) :
    w.hostOf e.carrier = some k := by
  refine Cluster.hostOf_unique w fun j => ?_
  obtain ⟨hx, hs, hk⟩ := h.of_mem he
  rw [h.stands e.carrier j, hk, Option.some.injEq]
  exact ⟨fun g => g.2.2.symm, fun g => ⟨hx, hs, g.symm⟩⟩

theorem Cluster.mem_of_entryOf {c : Carrier} {e : Entry} (h : w.entryOf c = some e) :
    ∃ k, w.hostOf c = some k ∧ e ∈ w.stack k ∧ e.carrier = c := by
  unfold Cluster.entryOf at h
  obtain ⟨k, hk, he⟩ := Option.bind_eq_some_iff.mp h
  exact ⟨k, hk, List.mem_of_find?_eq_some he, by simpa using List.find?_some he⟩

/-- The entry that is found for a carrier is the one on whatever stack. -/
theorem Cluster.AgreeBut.entryOf_eq (h : w.AgreeBut X) {k : Carrier} {e : Entry} (he : e ∈ w.stack k) :
    w.entryOf e.carrier = some e := by
  unfold Cluster.entryOf
  rw [h.hostOf_eq he, Option.bind_some]
  cases hf : (w.stack k).find? fun f => f.carrier == e.carrier with
  | none => exact absurd (List.find?_eq_none.mp hf e he) (by simp)
  | some f =>
    have hc : f.carrier = e.carrier := by simpa using List.find?_some hf
    rw [(h.entry_unique (List.mem_of_find?_eq_some hf) he hc).2]

theorem Cluster.AgreeBut.isReturning_iff (h : w.AgreeBut X) (c : Carrier) :
    w.isReturning c = true ↔ ∃ k, ∃ e ∈ w.stack k, e.carrier = c ∧ e.phase = .returning := by
  unfold Cluster.isReturning
  constructor
  · intro g
    split at g
    · next e he =>
      obtain ⟨k, _, hm, hc⟩ := Cluster.mem_of_entryOf he
      exact ⟨k, e, hm, hc, by simpa using g⟩
    · cases g
  · rintro ⟨k, e, he, rfl, hp⟩
    rw [h.entryOf_eq he]
    simpa using hp

theorem Cluster.AgreeBut.holdsActive_iff (h : w.AgreeBut X) (c : Carrier) :
    w.holdsActive c = true ↔ ∃ k, ∃ e ∈ w.stack k, e.carrier = c ∧ e.phase ≠ .returning := by
  unfold Cluster.holdsActive
  constructor
  · intro g
    split at g
    · next e he =>
      obtain ⟨k, _, hm, hc⟩ := Cluster.mem_of_entryOf he
      exact ⟨k, e, hm, hc, by simpa using g⟩
    · cases g
  · rintro ⟨k, e, he, rfl, hp⟩
    rw [h.entryOf_eq he]
    simpa using hp

theorem Cluster.holdsEntry_eq_false_iff {c : Carrier} : w.holdsEntry c = false ↔ ∀ k, w.standsOn c k = false := by
  rw [← Cluster.hostOf_none]
  simp [Cluster.holdsEntry]

/-- A carrier stands on a stack exactly when it is in account and sleeps. -/
theorem Cluster.AgreeBut.holdsEntry_iff (h : w.AgreeBut X) (c : Carrier) :
    w.holdsEntry c = true ↔ ¬X c ∧ (w.ctx c).sleeps = true := by
  rw [← Bool.not_eq_false, Cluster.holdsEntry_eq_false_iff]
  simp only [Classical.not_forall, Bool.not_eq_false]
  constructor
  · rintro ⟨k, hk⟩
    exact ⟨((h.stands c k).mp hk).1, ((h.stands c k).mp hk).2.1⟩
  · rintro ⟨hx, hs⟩
    obtain ⟨k, hk⟩ := Option.isSome_iff_exists.mp (h.covered c hx hs)
    exact ⟨k, (h.stands c k).mpr ⟨hx, hs, hk⟩⟩

/-- The owner of a stack that is not empty holds no entry itself. -/
theorem Context.sleeps_of_awake {x : Context} (h : x.Awake) : x.sleeps = false := by
  rcases h with ⟨hs, hr⟩ | hs <;> simp [Context.sleeps, CarrierState.inSleepPath, *]

/-! ## Clusters that agree in all that coherence speaks of -/

/-- The two clusters agree in stacks, in what the lanes ask, and in state, reserved-sleep mark and cover of every carrier. -/
structure Cluster.Alike (w v : Cluster) : Prop where
  stack : ∀ k : Carrier, v.stack k = w.stack k
  queue : ∀ i : Site, (v.lane i).queue.map (fun x => (x.carrier, x.command)) =
    (w.lane i).queue.map fun x => (x.carrier, x.command)
  outstanding : ∀ i : Site, (v.lane i).outstanding = (w.lane i).outstanding
  state : ∀ c : Carrier, (v.ctx c).state = (w.ctx c).state
  reserved : ∀ c : Carrier, (v.ctx c).reserved = (w.ctx c).reserved
  cover : ∀ c : Carrier, (v.ctx c).cfg.cover = (w.ctx c).cfg.cover

theorem Cluster.Alike.refl (w : Cluster) : w.Alike w := ⟨fun _ => rfl, fun _ => rfl, fun _ => rfl, fun _ => rfl,
  fun _ => rfl, fun _ => rfl⟩

theorem Cluster.Alike.trans {u v w : Cluster} (h : u.Alike v) (g : v.Alike w) : u.Alike w where
  stack k := (g.stack k).trans (h.stack k)
  queue i := (g.queue i).trans (h.queue i)
  outstanding i := (g.outstanding i).trans (h.outstanding i)
  state c := (g.state c).trans (h.state c)
  reserved c := (g.reserved c).trans (h.reserved c)
  cover c := (g.cover c).trans (h.cover c)

theorem RadioCommand.fitsWanted_congr {x y : Context} (hs : y.state = x.state) (hr : y.reserved = x.reserved)
    (command : RadioCommand) : command.fitsWanted y = command.fitsWanted x := by
  cases command <;> simp [RadioCommand.fitsWanted, hs, hr]

theorem RadioCommand.fitsSent_congr {x y : Context} (hs : y.state = x.state) (command : RadioCommand) :
    command.fitsSent y = command.fitsSent x := by
  cases command <;> simp [RadioCommand.fitsSent, hs]

theorem Cluster.isReturning_congr {v : Cluster} (h : ∀ k, v.stack k = w.stack k) (c : Carrier) :
    v.isReturning c = w.isReturning c := by
  simp [Cluster.isReturning, Cluster.entryOf, Cluster.hostOf, h]

theorem Cluster.Alike.coherentBut {v : Cluster} (a : w.Alike v) (h : w.CoherentBut X) : v.CoherentBut X := by
  have sleeps (c : Carrier) : (v.ctx c).sleeps = (w.ctx c).sleeps := by simp [Context.sleeps, a.state, a.reserved]
  have asked (i : Site) : (v.lane i).carriers = (w.lane i).carriers := by
    have q := congrArg (List.map Prod.fst) (a.queue i)
    simp only [List.map_map] at q
    simp only [Lane.carriers, a.outstanding]
    exact congrArg _ q
  refine ⟨⟨fun i => ?_, fun k => ?_, fun c hx => ?_, fun c k => ?_, fun k hx => ?_, fun c hx => ?_,
    fun i x hx hX => ?_, fun i o ho hX => ?_⟩, fun k e he => a.state _ ▸ h.phases k e (a.stack k ▸ he)⟩
  · unfold Lane.Sound
    rw [asked i]
    exact h.lanes i
  · rw [a.stack k]; exact h.nodup k
  · rw [sleeps, a.cover]; exact h.covered c hx
  · rw [Cluster.standsOn, a.stack, sleeps, a.cover]; exact h.stands c k
  · rw [a.stack, Context.Awake, a.state, a.reserved]; exact h.owners k hx
  · rw [a.state, a.reserved]; exact h.marks c hx
  · obtain ⟨y, hy, hxy⟩ := List.mem_map.mp (a.queue i ▸ List.mem_map_of_mem (f := fun z : Want => (z.carrier, z.command)) hx)
    obtain ⟨hc, hcmd⟩ := Prod.mk.inj hxy
    rw [← hc, ← hcmd, a.state, Cluster.isReturning_congr a.stack,
      RadioCommand.fitsWanted_congr (a.state _) (a.reserved _)]
    exact h.wants i y hy (hc ▸ hX)
  · rw [RadioCommand.fitsSent_congr (a.state _)]
    exact h.sent i o (a.outstanding i ▸ ho) hX

theorem Cluster.Alike.coherent {v : Cluster} (a : w.Alike v) (h : w.Coherent) : v.Coherent :=
  v.coherent_iff.mpr (a.coherentBut (w.coherent_iff.mp h))

/-- An edit of a context that keeps its state, its reserved-sleep mark and its cover. -/
theorem Cluster.alike_setCtx (w : Cluster) (c : Carrier) (x : Context) (hs : x.state = (w.ctx c).state)
    (hr : x.reserved = (w.ctx c).reserved) (hk : x.cfg.cover = (w.ctx c).cfg.cover) : w.Alike (w.setCtx c x) := by
  refine ⟨fun _ => rfl, fun _ => rfl, fun _ => rfl, fun d => ?_, fun d => ?_, fun d => ?_⟩
  all_goals
    rw [Cluster.ctx_setCtx]
    split
    · next h => subst h; assumption
    · rfl

theorem Cluster.alike_editCtx (w : Cluster) (c : Carrier) (f : Context → Context)
    (hs : (f (w.ctx c)).state = (w.ctx c).state) (hr : (f (w.ctx c)).reserved = (w.ctx c).reserved)
    (hk : (f (w.ctx c)).cfg.cover = (w.ctx c).cfg.cover) : w.Alike (w.editCtx c f) :=
  Cluster.alike_setCtx w c _ hs hr hk

theorem Cluster.alike_markDirty (w : Cluster) (c : Carrier) : w.Alike (w.markDirty c) :=
  Cluster.alike_setCtx w c _ rfl rfl rfl

theorem Cluster.alike_markAllDirty (w : Cluster) : w.Alike w.markAllDirty :=
  ⟨fun _ => rfl, fun _ => rfl, fun _ => rfl, fun c => by simp, fun c => by simp, fun c => by simp⟩

theorem Cluster.alike_editAll (w : Cluster) (f : Context → Context) (hs : ∀ x, (f x).state = x.state)
    (hr : ∀ x, (f x).reserved = x.reserved) (hk : ∀ x, (f x).cfg.cover = x.cfg.cover) : w.Alike (w.editAll f) :=
  ⟨fun _ => rfl, fun _ => rfl, fun _ => rfl, fun c => by simp [hs], fun c => by simp [hr], fun c => by simp [hk]⟩

/-- Only notices, PROBE records, outcomes and channels differ. -/
theorem Cluster.alike_of_tables {v : Cluster} (hc : v.contexts = w.contexts) (hs : v.coverStacks = w.coverStacks)
    (hl : v.lanes = w.lanes) : w.Alike v := by
  refine ⟨fun k => ?_, fun i => ?_, fun i => ?_, fun c => ?_, fun c => ?_, fun c => ?_⟩ <;>
    simp [Cluster.stack, Cluster.lane, Cluster.ctx, hc, hs, hl]

/-! ## Wants and commands -/

theorem Cluster.CoherentBut.dropWant (h : w.CoherentBut X) (c : Carrier) : (w.dropWant c).CoherentBut X where
  lanes := h.lanes.dropWant c
  nodup := h.nodup
  covered := h.covered
  stands := h.stands
  owners := h.owners
  marks := h.marks
  phases := h.phases
  wants i x hx := h.wants i x (Cluster.mem_queue_dropWant hx)
  sent i o ho := h.sent i o (by rwa [Cluster.outstanding_dropWant] at ho)

theorem Cluster.CoherentBut.retire (h : w.CoherentBut X) (i : Site) : (w.retire i).CoherentBut X where
  lanes := h.lanes.retire i
  nodup := h.nodup
  covered := h.covered
  stands := h.stands
  owners := h.owners
  marks := h.marks
  phases := h.phases
  wants j x hx := h.wants j x (Cluster.mem_queue_retire.mp hx)
  sent j o ho := by
    rw [Cluster.outstanding_retire] at ho
    split at ho
    · cases ho
    · exact h.sent j o ho

theorem Cluster.CoherentBut.abandon (h : w.CoherentBut X) (c : Carrier) : (w.abandon c).CoherentBut X := by
  unfold Cluster.abandon
  split
  · exact h.retire _
  · exact h

/-- A want joins for a carrier left out of account, or whose state its command needs. -/
theorem Cluster.CoherentBut.joinWant (h : w.CoherentBut X) {c : Carrier} {command : RadioCommand} (wait attempt : Nat)
    (fits : ¬X c → command.fitsWanted (w.ctx c) = true ∧
      (command = .raise → (w.ctx c).state = .light → w.isReturning c = true)) :
    (w.joinWant c command wait attempt).CoherentBut X := by
  have same : ∀ d, (w.joinWant c command wait attempt).isReturning d = w.isReturning d := fun d =>
    Cluster.isReturning_congr (fun k => Cluster.stack_joinWant ..) d
  refine ⟨⟨h.lanes.joinWant c command wait attempt, fun k => ?_, fun d => ?_, fun d k => ?_, fun k => ?_, fun d => ?_,
    fun i x hx hX => ?_, fun i o ho hX => ?_⟩, fun k e he => ?_⟩
  · rw [Cluster.stack_joinWant]; exact h.nodup k
  · rw [Cluster.ctx_joinWant]; exact h.covered d
  · rw [Cluster.standsOn, Cluster.stack_joinWant, Cluster.ctx_joinWant]; exact h.stands d k
  · rw [Cluster.stack_joinWant, Cluster.ctx_joinWant]; exact h.owners k
  · rw [Cluster.ctx_joinWant]; exact h.marks d
  · rw [Cluster.ctx_joinWant, same]
    rcases Cluster.mem_queue_joinWant hx with hx | ⟨hc, hcmd⟩
    · exact h.wants i x hx hX
    · rw [hc, hcmd]; exact fits (hc ▸ hX)
  · rw [Cluster.outstanding_joinWant] at ho
    rw [Cluster.ctx_joinWant]
    exact h.sent i o ho hX
  · rw [Cluster.stack_joinWant] at he
    rw [Cluster.ctx_joinWant]
    exact h.phases k e he

/-! ## Contexts -/

/-- A context takes a value of the same cover that sleeps when it did, fits its stack, its wants and its command. -/
theorem Cluster.AgreeBut.setCtx (h : w.AgreeBut X) {c : Carrier} {x : Context}
    (sleeps : x.sleeps = (w.ctx c).sleeps) (cover : x.sleeps = true → x.cfg.cover = (w.ctx c).cfg.cover)
    (owner : w.stack c ≠ [] → x.Awake) (mark : x.reserved = true → x.state = .serving)
    (want : ∀ y ∈ (w.lane (siteOf c)).queue, y.carrier = c → y.command.fitsWanted x = true ∧
      (y.command = .raise → x.state = .light → w.isReturning c = true))
    (sent : ∀ o, (w.lane (siteOf c)).outstanding = some o → o.carrier = c → o.command.fitsSent x = true) :
    (w.setCtx c x).AgreeBut X := by
  have same : ∀ d, (w.setCtx c x).isReturning d = w.isReturning d := fun d => Cluster.isReturning_congr (fun k => rfl) d
  have site : ∀ i, c ∈ (w.lane i).carriers → i = siteOf c := fun i hc => ((h.lanes i).2 c hc).symm
  refine ⟨h.lanes, h.nodup, fun d hX => ?_, fun d k => ?_, fun k hX hs => ?_, fun d hX => ?_,
    fun i y hy hX => ?_, fun i o ho hX => ?_⟩
  · rw [Cluster.ctx_setCtx]
    split
    · next hd =>
      subst hd
      intro hs
      rw [cover hs]
      exact h.covered _ hX (sleeps ▸ hs)
    · exact h.covered d hX
  · rw [Cluster.ctx_setCtx]
    refine (h.stands d k).trans (and_congr_right fun _ => ?_)
    split
    · next hd =>
      subst hd
      rw [sleeps]
      exact and_congr_right fun hs => by rw [cover (sleeps.trans hs)]
    · rfl
  · rw [Cluster.ctx_setCtx]
    split
    · next hd => subst hd; exact owner hs
    · exact h.owners k hX hs
  · rw [Cluster.ctx_setCtx]
    split
    · exact mark
    · exact h.marks d hX
  · rw [Cluster.ctx_setCtx, same]
    split
    · next hd =>
      have hi := site i (Lane.mem_carriers.mpr (.inr ⟨y, hy, hd.symm⟩))
      subst hi
      rw [← hd]
      exact want y hy hd.symm
    · exact h.wants i y hy hX
  · rw [Cluster.ctx_setCtx]
    split
    · next hd =>
      have hi := site i (Lane.mem_carriers.mpr (.inl ⟨o, ho, hd.symm⟩))
      subst hi
      exact sent o ho hd.symm
    · exact h.sent i o ho hX

/-- A context takes a value of the same cover that sleeps when it did, fits its stack, its entry, its wants and its command. -/
theorem Cluster.CoherentBut.setCtx (h : w.CoherentBut X) {c : Carrier} {x : Context}
    (sleeps : x.sleeps = (w.ctx c).sleeps) (cover : x.sleeps = true → x.cfg.cover = (w.ctx c).cfg.cover)
    (owner : w.stack c ≠ [] → x.Awake) (mark : x.reserved = true → x.state = .serving)
    (phase : ∀ k, ∀ e ∈ w.stack k, e.carrier = c → e.phase.fits x.state = true)
    (want : ∀ y ∈ (w.lane (siteOf c)).queue, y.carrier = c → y.command.fitsWanted x = true ∧
      (y.command = .raise → x.state = .light → w.isReturning c = true))
    (sent : ∀ o, (w.lane (siteOf c)).outstanding = some o → o.carrier = c → o.command.fitsSent x = true) :
    (w.setCtx c x).CoherentBut X := by
  refine ⟨h.toAgreeBut.setCtx sleeps cover owner mark want sent, fun k e he => ?_⟩
  rw [Cluster.ctx_setCtx]
  split
  · next hd => exact phase k e he hd.symm
  · exact h.phases k e he

/-- The context of a carrier left out of account may take any value. -/
theorem Cluster.CoherentBut.setCtx_left (h : w.CoherentBut X) {c : Carrier} (hc : X c) (x : Context) :
    (w.setCtx c x).CoherentBut X := by
  have same : ∀ d, (w.setCtx c x).isReturning d = w.isReturning d := fun d => Cluster.isReturning_congr (fun k => rfl) d
  have ne {d : Carrier} (hd : ¬X d) : (w.setCtx c x).ctx d = w.ctx d :=
    Cluster.ctx_setCtx_ne w (by rintro rfl; exact hd hc) x
  refine ⟨⟨h.lanes, h.nodup, fun d hX => ?_, fun d k => ?_, fun k hX hs => ?_, fun d hX => ?_,
    fun i y hy hX => ?_, fun i o ho hX => ?_⟩, fun k e he => ?_⟩
  · rw [ne hX]; exact h.covered d hX
  · exact (h.stands d k).trans (and_congr_right fun hX => by rw [ne hX])
  · rw [ne hX]; exact h.owners k hX hs
  · rw [ne hX]; exact h.marks d hX
  · rw [ne hX, same]; exact h.wants i y hy hX
  · rw [ne hX]; exact h.sent i o ho hX
  · rw [ne (h.of_mem he).1]; exact h.phases k e he

/-- A carrier comes into account again: it does not sleep, fits its stack and mark, and nothing is asked of it. -/
theorem Cluster.CoherentBut.readmit {c : Carrier} (h : w.CoherentBut fun d => d = c ∨ X d)
    (sleeps : (w.ctx c).sleeps = false) (owner : w.stack c ≠ [] → (w.ctx c).Awake)
    (mark : (w.ctx c).reserved = true → (w.ctx c).state = .serving)
    (unasked : w.Unasked c) : w.CoherentBut X := by
  have idle : ∀ i, c ∉ (w.lane i).carriers := fun i hc => by
    have hi := (h.lanes i).2 c hc
    subst hi
    exact Cluster.unasked_iff.mp unasked hc
  have or_of {d : Carrier} (hd : d ≠ c) (hX : ¬X d) : ¬(d = c ∨ X d) := fun g => g.elim hd hX
  refine ⟨⟨h.lanes, h.nodup, fun d hX hs => ?_, fun d k => ?_, fun k hX hs => ?_, fun d hX hr => ?_,
    fun i y hy hX => ?_, fun i o ho hX => ?_⟩, h.phases⟩
  · exact h.covered d (or_of (fun g => by simp [g, sleeps] at hs) hX) hs
  · refine (h.stands d k).trans ⟨fun ⟨g, r⟩ => ⟨fun hX => g (.inr hX), r⟩, fun ⟨hX, hs, hk⟩ => ⟨?_, hs, hk⟩⟩
    exact or_of (fun g => by simp [g, sleeps] at hs) hX
  · by_cases hk : k = c
    · subst hk; exact owner hs
    · exact h.owners k (or_of hk hX) hs
  · by_cases hd : d = c
    · subst hd; exact mark hr
    · exact h.marks d (or_of hd hX) hr
  · exact h.wants i y hy (or_of (fun g => idle i (Lane.mem_carriers.mpr (.inr ⟨y, hy, g⟩))) hX)
  · exact h.sent i o ho (or_of (fun g => idle i (Lane.mem_carriers.mpr (.inl ⟨o, ho, g⟩))) hX)

/-! ## Entries changed and removed -/

/-- What stood on a stack stands there after an entry has changed, as it was or changed. -/
theorem Cluster.AgreeBut.mem_editEntry_of_mem (h : w.AgreeBut X) (c : Carrier) (f : Entry → Entry) {k : Carrier} {e : Entry}
    (he : e ∈ w.stack k) : (if e.carrier = c then f e else e) ∈ (w.editEntry c f).stack k := by
  rw [Cluster.stack_editEntry]
  by_cases hc : e.carrier = c
  · rw [if_pos (hc ▸ h.hostOf_eq he)]
    exact List.mem_map.mpr ⟨e, he, rfl⟩
  · rw [if_neg hc]
    split
    · exact List.mem_map.mpr ⟨e, he, by rw [if_neg hc]⟩
    · exact he

/-- What stands on a stack after an entry has changed stood there, or is what the change made. -/
theorem Cluster.AgreeBut.mem_editEntry_iff (h : w.AgreeBut X) (c : Carrier) (f : Entry → Entry) {k : Carrier} {e : Entry} :
    e ∈ (w.editEntry c f).stack k ↔ ∃ e' ∈ w.stack k, e = if e'.carrier = c then f e' else e' := by
  refine ⟨fun he => ?_, fun ⟨e', he', q⟩ => q ▸ h.mem_editEntry_of_mem c f he'⟩
  rw [Cluster.stack_editEntry] at he
  split at he
  · obtain ⟨e', he', rfl⟩ := List.mem_map.mp he
    exact ⟨e', he', rfl⟩
  · next hk =>
    refine ⟨e, he, ?_⟩
    rw [if_neg]
    rintro rfl
    exact hk (h.hostOf_eq he)

/-- The entries change where they stand: each keeps its carrier, and RETURNING stays. -/
theorem Cluster.AgreeBut.restack (h : w.AgreeBut X) {v : Cluster} (ctx : ∀ c, v.ctx c = w.ctx c)
    (lane : ∀ i, v.lane i = w.lane i) (map : ∀ k, (v.stack k).map Entry.carrier = (w.stack k).map Entry.carrier)
    (returning : ∀ k, ∀ e ∈ w.stack k, e.phase = .returning →
      ∃ e' ∈ v.stack k, e'.carrier = e.carrier ∧ e'.phase = .returning) : v.AgreeBut X := by
  have stands (d k : Carrier) : v.standsOn d k = w.standsOn d k := by
    have g : ∀ u : Cluster, u.standsOn d k = ((u.stack k).map Entry.carrier).any fun x => x == d := fun u => by
      simp [Cluster.standsOn, List.any_map, Function.comp_def]
    rw [g, g, map]
  have nodup : ∀ k, ((v.stack k).map Entry.carrier).Nodup := fun k => by rw [map]; exact h.nodup k
  have back {d : Carrier} (hd : w.isReturning d = true) : v.isReturning d = true := by
    obtain ⟨k, e, he, rfl, hp⟩ := (h.isReturning_iff d).mp hd
    obtain ⟨e', he', hc, hp'⟩ := returning k e he hp
    have host : v.hostOf e.carrier = some k := by
      refine Cluster.hostOf_unique _ fun j => ?_
      rw [stands]
      obtain ⟨hx, hs, hk⟩ := h.of_mem he
      rw [h.stands, hk, Option.some.injEq]
      exact ⟨fun g => g.2.2.symm, fun g => ⟨hx, hs, g.symm⟩⟩
    have find : (v.stack k).find? (fun g => g.carrier == e.carrier) = some e' := by
      cases hf : (v.stack k).find? fun g => g.carrier == e.carrier with
      | none => exact absurd (List.find?_eq_none.mp hf e' he') (by simp [hc])
      | some g =>
        have hg : g.carrier = e.carrier := by simpa using List.find?_some hf
        rw [eq_of_nodup_map (nodup k) (List.mem_of_find?_eq_some hf) he' (hg.trans hc.symm)]
    simp [Cluster.isReturning, Cluster.entryOf, host, find, hp']
  refine ⟨fun i => lane i ▸ h.lanes i, nodup, fun d => ctx d ▸ h.covered d, fun d k => ?_, fun k hX hs => ?_,
    fun d => ctx d ▸ h.marks d, fun i y hy hX => ?_, fun i o ho => ?_⟩
  · rw [stands, ctx]; exact h.stands d k
  · rw [ctx]
    refine h.owners k hX fun g => hs ?_
    rw [← List.map_eq_nil_iff (f := Entry.carrier), map, g, List.map_nil]
  · rw [lane] at hy
    rw [ctx]
    exact ⟨(h.wants i y hy hX).1, fun a b => back ((h.wants i y hy hX).2 a b)⟩
  · rw [lane] at ho
    rw [ctx]
    exact h.sent i o ho

/-- An entry changes as R83 lets it: it keeps its carrier, and RETURNING stays. -/
theorem Cluster.AgreeBut.editEntry (h : w.AgreeBut X) {c : Carrier} {f : Entry → Entry}
    (carrier : ∀ e, (f e).carrier = e.carrier)
    (returning : ∀ k, ∀ e ∈ w.stack k, e.carrier = c → e.phase = .returning → (f e).phase = .returning) :
    (w.editEntry c f).AgreeBut X := by
  refine h.restack (Cluster.ctx_editEntry w c f) (Cluster.lane_editEntry w c f) (fun k => ?_) fun k e he hp =>
    ⟨_, h.mem_editEntry_of_mem c f he, ?_, ?_⟩
  · rw [Cluster.stack_editEntry]
    split
    · rw [List.map_map]
      refine List.map_congr_left fun e _ => ?_
      dsimp only [Function.comp]
      split
      · exact carrier e
      · rfl
    · rfl
  · split
    · exact carrier e
    · rfl
  · split
    · next hc => exact returning k e he hc hp
    · exact hp

/-- An entry changes as R83 lets it, and its phase fits its carrier. -/
theorem Cluster.CoherentBut.editEntry (h : w.CoherentBut X) {c : Carrier} {f : Entry → Entry}
    (carrier : ∀ e, (f e).carrier = e.carrier)
    (phase : ∀ k, ∀ e ∈ w.stack k, e.carrier = c → (f e).phase.fits (w.ctx c).state = true)
    (returning : ∀ k, ∀ e ∈ w.stack k, e.carrier = c → e.phase = .returning → (f e).phase = .returning) :
    (w.editEntry c f).CoherentBut X := by
  refine ⟨h.toAgreeBut.editEntry carrier returning, fun k e he => ?_⟩
  rw [Cluster.ctx_editEntry]
  obtain ⟨e', he', rfl⟩ := (h.mem_editEntry_iff c f).mp he
  split
  · next hc => rw [carrier, hc]; exact phase k e' he' hc
  · exact h.phases k e' he'

/-- The entries of one stack change where they stand: each keeps its carrier and fits it, and RETURNING stays. -/
theorem Cluster.CoherentBut.mapStack (h : w.CoherentBut X) {k : Carrier} {f : Entry → Entry}
    (carrier : ∀ e, (f e).carrier = e.carrier) (phase : ∀ e st, e.phase.fits st = true → (f e).phase.fits st = true)
    (returning : ∀ e, e.phase = .returning → (f e).phase = .returning) :
    (w.setStack k ((w.stack k).map f)).CoherentBut X := by
  refine ⟨h.restack (fun _ => rfl) (fun _ => rfl) (fun l => ?_) fun l e he hp => ?_, fun l e he => ?_⟩
  · rw [Cluster.stack_setStack]
    split
    · next hl =>
      rw [hl, List.map_map]
      exact List.map_congr_left fun e _ => carrier e
    · rfl
  · rw [Cluster.stack_setStack]
    split
    · next hl =>
      subst hl
      exact ⟨f e, List.mem_map_of_mem he, carrier e, returning e hp⟩
    · exact ⟨e, he, rfl, hp⟩
  · rw [Cluster.stack_setStack] at he
    rw [Cluster.ctx_setStack]
    split at he
    · obtain ⟨e', he', rfl⟩ := List.mem_map.mp he
      rw [carrier]
      exact phase e' _ (h.phases k e' he')
    · exact h.phases l e he

end

end Sys2Proof.Machine
end

section
/-! Coherence kept by the operations on cover stacks: removal, wake requests, unwinding, the entry into FAULTED, the push
(section 5, R31, R35). -/

namespace Sys2Proof.Machine

/-- In a list without two entries of a carrier, removing the first of it removes every one. -/
theorem eraseP_carrier_eq_filter {es : List Entry} (h : (es.map Entry.carrier).Nodup) (c : Carrier) :
    (es.eraseP fun e => e.carrier == c) = es.filter fun e => e.carrier != c := by
  induction es with
  | nil => rfl
  | cons e es ih =>
    rw [List.map_cons, List.nodup_cons] at h
    by_cases hc : e.carrier = c
    · have rest : es.filter (fun f => f.carrier != c) = es :=
        List.filter_eq_self.mpr fun f hf => by
          have : f.carrier ≠ e.carrier := fun g => h.1 (g ▸ List.mem_map_of_mem hf)
          simpa [hc] using this
      simp [hc, rest]
    · simp [hc, ih h.2]

section
variable {w : Cluster} {X : Carrier → Prop}

/-- A carrier that stands on no stack may be left out of account. -/
theorem Cluster.CoherentBut.leave (h : w.CoherentBut X) {c : Carrier} (free : ∀ k, w.standsOn c k = false) :
    w.CoherentBut fun d => d = c ∨ X d where
  lanes := h.lanes
  nodup := h.nodup
  covered d hX := h.covered d fun g => hX (.inr g)
  stands d k := by
    constructor
    · intro g
      obtain ⟨hX, r⟩ := (h.stands d k).mp g
      exact ⟨fun q => q.elim (fun e => by rw [e, free] at g; cases g) hX, r⟩
    · rintro ⟨hX, r⟩
      exact (h.stands d k).mpr ⟨fun g => hX (.inr g), r⟩
  owners k hX := h.owners k fun g => hX (.inr g)
  marks d hX := h.marks d fun g => hX (.inr g)
  phases := h.phases
  wants i x hx hX := h.wants i x hx fun g => hX (.inr g)
  sent i o ho hX := h.sent i o ho fun g => hX (.inr g)

/-- The entry of a carrier leaves its stack; the carrier is left out of account. -/
theorem Cluster.CoherentBut.takeEntry (h : w.CoherentBut X) {c k : Carrier} (hk : w.hostOf c = some k) :
    (w.setStack k ((w.stack k).eraseP fun e => e.carrier == c)).CoherentBut fun d => d = c ∨ X d := by
  obtain ⟨e, he, rfl⟩ := Cluster.standsOn_iff.mp (Cluster.hostOf_some w hk)
  rw [eraseP_carrier_eq_filter (h.nodup k)]
  have mem {l : Carrier} {f : Entry} :
      f ∈ (w.setStack k ((w.stack k).filter fun f => f.carrier != e.carrier)).stack l ↔
        f ∈ w.stack l ∧ f.carrier ≠ e.carrier := by
    rw [Cluster.stack_setStack]
    split
    · next hl => subst hl; simp
    · next hl => exact ⟨fun hf => ⟨hf, fun g => hl (h.entry_unique he hf g.symm).1⟩, And.left⟩
  have nodup : ∀ l, (((w.setStack k ((w.stack k).filter fun f => f.carrier != e.carrier)).stack l).map
      Entry.carrier).Nodup := fun l => by
    rw [Cluster.stack_setStack]
    split
    · exact (h.nodup k).sublist (List.filter_sublist.map _)
    · exact h.nodup l
  have out {d : Carrier} (hX : ¬(d = e.carrier ∨ X d)) : ¬X d := fun g => hX (.inr g)
  have find {d : Carrier} (hd : d ≠ e.carrier) (hr : w.isReturning d = true) :
      (w.setStack k ((w.stack k).filter fun f => f.carrier != e.carrier)).isReturning d = true := by
    obtain ⟨l, f, hf, rfl, hp⟩ := (h.isReturning_iff d).mp hr
    have hf' := mem.mpr ⟨hf, hd⟩
    have host : (w.setStack k ((w.stack k).filter fun f => f.carrier != e.carrier)).hostOf f.carrier = some l := by
      refine Cluster.hostOf_unique _ fun j => ⟨fun g => ?_, fun g => g ▸ Cluster.standsOn_of_mem hf'⟩
      obtain ⟨f', hm, hc⟩ := Cluster.standsOn_iff.mp g
      exact (h.entry_unique (mem.mp hm).1 hf hc).1
    cases hq : ((w.setStack k ((w.stack k).filter fun f => f.carrier != e.carrier)).stack l).find?
        fun g => g.carrier == f.carrier with
    | none => exact absurd (List.find?_eq_none.mp hq f hf') (by simp)
    | some f' =>
      have hc : f'.carrier = f.carrier := by simpa using List.find?_some hq
      have : f' = f := eq_of_nodup_map (nodup l) (List.mem_of_find?_eq_some hq) hf' hc
      simp [Cluster.isReturning, Cluster.entryOf, host, hq, this, hp]
  refine ⟨⟨h.lanes, nodup, fun d hX => h.covered d (out hX), fun d l => ?_, fun l hX hs => h.owners l (out hX) ?_,
    fun d hX => h.marks d (out hX), fun i x hx hX => ?_, fun i o ho hX => h.sent i o ho (out hX)⟩,
    fun l f hf => h.phases l f (mem.mp hf).1⟩
  · constructor
    · intro g
      obtain ⟨f, hf, rfl⟩ := Cluster.standsOn_iff.mp g
      obtain ⟨hm, hne⟩ := mem.mp hf
      obtain ⟨hX, r⟩ := h.of_mem hm
      exact ⟨fun q => q.elim hne hX, r⟩
    · rintro ⟨hX, r⟩
      obtain ⟨f, hf, rfl⟩ := Cluster.standsOn_iff.mp ((h.stands d l).mpr ⟨out hX, r⟩)
      exact Cluster.standsOn_of_mem (mem.mpr ⟨hf, fun g => hX (.inl g)⟩)
  · intro g
    rw [Cluster.stack_setStack] at hs
    split at hs
    · next hl => subst hl; simp [g] at hs
    · exact hs g
  · obtain ⟨fits, ret⟩ := h.wants i x hx (out hX)
    exact ⟨fits, fun a b => find (fun g => hX (.inl g)) (ret a b)⟩

/-- A carrier that does not sleep has no entry. -/
theorem Cluster.CoherentBut.no_entry (h : w.CoherentBut X) {c : Carrier} (hs : (w.ctx c).sleeps = false) (k : Carrier) :
    ∀ e ∈ w.stack k, e.carrier ≠ c := by
  intro e he hc
  obtain ⟨_, g, _⟩ := h.of_mem he
  rw [hc, hs] at g
  cases g

/-- A context that does not sleep takes another that does not, and that fits the wants and the command of its carrier. -/
theorem Cluster.CoherentBut.setCtx_awake (h : w.CoherentBut X) {c : Carrier} {x : Context}
    (old : (w.ctx c).sleeps = false) (new : x.sleeps = false) (owner : w.stack c ≠ [] → x.Awake)
    (mark : x.reserved = true → x.state = .serving)
    (want : ∀ y ∈ (w.lane (siteOf c)).queue, y.carrier = c → y.command.fitsWanted x = true)
    (sent : ∀ o, (w.lane (siteOf c)).outstanding = some o → o.carrier = c → o.command.fitsSent x = true) :
    (w.setCtx c x).CoherentBut X := by
  refine h.setCtx (new.trans old.symm) (fun g => by rw [new] at g; cases g) owner mark
    (fun k e he hc => absurd hc (h.no_entry old k e he)) (fun y hy hc => ⟨want y hy hc, fun _ hl => ?_⟩) sent
  simp [Context.sleeps, hl, CarrierState.inSleepPath] at new

/-- A FAULTED carrier with an empty stack is queried afresh (R36). -/
theorem Cluster.CoherentBut.relink (h : w.CoherentBut X) {k : Carrier} (hf : (w.ctx k).state = .faulted)
    (he : w.stack k = []) : (w.relink k).CoherentBut X := by
  unfold Cluster.relink
  refine Cluster.CoherentBut.joinWant ?_ 0 1 fun _ => ⟨by simp [RadioCommand.fitsWanted], fun g => (nomatch g)⟩
  by_cases hX : X k
  · exact h.setCtx_left hX _
  · have nomark : (w.ctx k).reserved = false := by
      refine Classical.byContradiction fun g => ?_
      have := h.marks k hX (by simpa using g)
      simp [hf] at this
    refine h.setCtx_awake (by simp [Context.sleeps, CarrierState.inSleepPath, hf])
      (by simp [Context.sleeps, CarrierState.inSleepPath]) (fun g => absurd he g) (by simp [nomark])
      (fun y hy hc => ?_) (fun o ho hc => ?_)
    · have := (h.wants _ y hy (hc ▸ hX)).1
      rw [hc] at this
      cases hcmd : y.command <;> simp [RadioCommand.fitsWanted, hcmd, hf] at this
    · have := h.sent _ o ho (hc ▸ hX)
      rw [hc] at this
      cases hcmd : o.command <;> simp [RadioCommand.fitsSent, hcmd, hf] at this

theorem Cluster.CoherentBut.stackEmptied (h : w.CoherentBut X) {k : Carrier} (he : w.stack k = []) :
    (w.stackEmptied k).CoherentBut X := by
  unfold Cluster.stackEmptied
  dsimp only
  split
  · exact (Cluster.alike_editCtx w k _ rfl rfl rfl).coherentBut h
  · split
    · next g => exact h.relink g.1 he
    · exact h

/-- A removal leaves its carrier out of account (R91, R92). -/
theorem Cluster.CoherentBut.removeEntry (h : w.CoherentBut X) (c : Carrier) :
    (w.removeEntry c).CoherentBut fun d => d = c ∨ X d := by
  unfold Cluster.removeEntry
  split
  · next hn => exact h.leave ((Cluster.hostOf_none w c).mp hn)
  · next k hk =>
    have g := (Cluster.alike_markDirty _ c).coherentBut ((Cluster.alike_markDirty _ k).coherentBut (h.takeEntry hk))
    dsimp only
    split
    · next he => exact g.stackEmptied he
    · exact g

/-! ## What a removal leaves -/

@[simp] theorem Cluster.state_markDirty (w : Cluster) (c d : Carrier) :
    ((w.markDirty c).ctx d).state = (w.ctx d).state := by
  rw [Cluster.ctx_markDirty]
  split
  · next h => rw [h]
  · rfl

@[simp] theorem Cluster.cause_markDirty (w : Cluster) (c d : Carrier) :
    ((w.markDirty c).ctx d).cause = (w.ctx d).cause := by
  rw [Cluster.ctx_markDirty]
  split
  · next h => rw [h]
  · rfl

/-- The owner of a stack that has lost an entry (R91, R92): dirty; where the stack is empty now, a SERVING owner's wake-dwell
count is 0, and one that is FAULTED with cause LINK, its link UP, is UNKNOWN. -/
def Context.handedOn (x : Context) (emptied up : Bool) : Context :=
  if emptied = true ∧ x.state = .faulted ∧ x.cause = some .link ∧ up = true then
    { x with state := .unknown, cls := .absent, probeOrigin := none, sleepCount := 0, wakeCount := 0, dirty := true }
  else { x with dirty := true, wakeCount := if emptied = true ∧ x.state = .serving then 0 else x.wakeCount }

/-- The owner is one that hands on to a QUERY when its stack is empty (R92). -/
def Cluster.Relinkable (w : Cluster) (k : Carrier) : Prop :=
  (w.ctx k).state = .faulted ∧ (w.ctx k).cause = some .link ∧ (w.channel (siteOf k)).up = true

@[simp] theorem Cluster.stack_relink (w : Cluster) (c d : Carrier) : (w.relink c).stack d = w.stack d := by
  simp [Cluster.relink]

@[simp] theorem Cluster.stack_stackEmptied (w : Cluster) (c d : Carrier) : (w.stackEmptied c).stack d = w.stack d := by
  unfold Cluster.stackEmptied
  dsimp only
  split
  · rfl
  · split
    · exact Cluster.stack_relink ..
    · rfl

/-- An emptied stack hands on through its owner alone. -/
theorem Cluster.ctx_stackEmptied (w : Cluster) (k d : Carrier) (dirty : (w.ctx k).dirty = true) :
    (w.stackEmptied k).ctx d = if k = d then (w.ctx k).handedOn true (w.channel (siteOf k)).up else w.ctx d := by
  unfold Cluster.stackEmptied Context.handedOn
  dsimp only
  split
  · next hs =>
    rw [Cluster.ctx_editCtx]
    split
    · simp [hs, Context.edit, dirty]
    · rfl
  · next hs =>
    split
    · next hf =>
      rw [Cluster.relink, Cluster.ctx_want, Cluster.ctx_editCtx]
      split
      · obtain ⟨hf, hc, hu⟩ := hf
        simp [hf, hc, hu, Context.edit, Context.enter, dirty]
      · rfl
    · next hf =>
      split
      · next hd =>
        subst hd
        rw [if_neg (by simpa using hf)]
        simp [hs, ← dirty]
      · rfl

/-- The wants after a stack has emptied: only its owner may have a QUERY joined. -/
theorem Cluster.wantOf_stackEmptied (w : Cluster) (k d : Carrier) (h : k = d → ¬w.Relinkable k) :
    (w.stackEmptied k).wantOf d = w.wantOf d := by
  unfold Cluster.stackEmptied
  dsimp only
  split
  · rfl
  · split
    · next g =>
      rw [Cluster.relink, Cluster.wantOf_want_ne _ fun e => h e g]
      rfl
    · rfl

@[simp] theorem Cluster.outstanding_stackEmptied (w : Cluster) (k : Carrier) (i : Site) :
    ((w.stackEmptied k).lane i).outstanding = (w.lane i).outstanding := by
  unfold Cluster.stackEmptied
  dsimp only
  split
  · rfl
  · split
    · rw [Cluster.relink, Cluster.outstanding_want]
      rfl
    · rfl

theorem Cluster.removeEntry_of_none {c : Carrier} (h : w.hostOf c = none) : w.removeEntry c = w := by
  simp [Cluster.removeEntry, h]

/-- Only the host's stack loses the entry. -/
theorem Cluster.stack_removeEntry (w : Cluster) (c d : Carrier) :
    (w.removeEntry c).stack d =
      if w.hostOf c = some d then (w.stack d).eraseP fun e => e.carrier == c else w.stack d := by
  unfold Cluster.removeEntry
  split
  · next h => simp [h]
  · next k h =>
    have g : (((w.setStack k ((w.stack k).eraseP fun e => e.carrier == c)).markDirty k).markDirty c).stack d =
        if w.hostOf c = some d then (w.stack d).eraseP fun e => e.carrier == c else w.stack d := by
      rw [Cluster.stack_markDirty, Cluster.stack_markDirty, Cluster.stack_setStack, h]
      by_cases hd : k = d
      · subst hd; simp
      · simp [hd]
    dsimp only
    split
    · rw [Cluster.stack_stackEmptied, g]
    · exact g

@[simp] theorem Cluster.outstanding_removeEntry (w : Cluster) (c : Carrier) (i : Site) :
    ((w.removeEntry c).lane i).outstanding = (w.lane i).outstanding := by
  unfold Cluster.removeEntry
  split
  · rfl
  · dsimp only
    split
    · rw [Cluster.outstanding_stackEmptied]
      rfl
    · rfl

/-- The contexts after a removal: the carrier is dirty, the owner hands on, and every other is as it was (R91, R92). -/
theorem Cluster.ctx_removeEntry {c k : Carrier} (hk : w.hostOf c = some k) (hkc : k ≠ c) (d : Carrier) :
    (w.removeEntry c).ctx d =
      if d = c then { w.ctx c with dirty := true }
      else if d = k then
        (w.ctx k).handedOn ((w.removeEntry c).stack k).isEmpty (w.channel (siteOf k)).up
      else w.ctx d := by
  rw [Cluster.stack_removeEntry, if_pos hk]
  unfold Cluster.removeEntry
  simp only [hk, Cluster.stack_markDirty, Cluster.stack_setStack_self]
  generalize ((w.stack k).eraseP fun e => e.carrier == c) = es
  have base (d : Carrier) : (((w.setStack k es).markDirty k).markDirty c).ctx d =
      if d = c then { w.ctx c with dirty := true }
      else if d = k then { w.ctx k with dirty := true } else w.ctx d := by
    rw [Cluster.ctx_markDirty, Cluster.ctx_markDirty, Cluster.ctx_markDirty]
    simp only [hkc, if_false, Cluster.ctx_setStack, eq_comm (a := c), eq_comm (a := k)]
  split
  · next he =>
    rw [Cluster.ctx_stackEmptied _ _ _ (by rw [base]; simp [hkc]), he]
    by_cases hd : k = d
    · subst hd
      rw [if_pos rfl, if_neg hkc, if_pos rfl, ← he, base, if_neg hkc, if_pos rfl, he]
      rfl
    · rw [if_neg hd, ← he, base]
      simp [Ne.symm hd]
  · next he =>
    rw [base]
    have : es.isEmpty = false := by simpa using he
    simp [Context.handedOn, this]

/-- The wants after a removal: only the owner may have a QUERY joined. -/
theorem Cluster.wantOf_removeEntry {c : Carrier} (d : Carrier) (h : w.hostOf c = some d → ¬w.Relinkable d) :
    (w.removeEntry c).wantOf d = w.wantOf d := by
  unfold Cluster.removeEntry
  split
  · rfl
  · next k hk =>
    dsimp only
    split
    · rw [Cluster.wantOf_stackEmptied]
      · rfl
      · rintro rfl
        have := h hk
        simpa [Cluster.Relinkable] using this
    · rfl

/-! ## Wake requests -/

/-- The entry of a carrier on its way through a sleep goes RETURNING (R32). -/
theorem Cluster.CoherentBut.turnBack (h : w.CoherentBut X) {c : Carrier} (hs : (w.ctx c).state.inSleepPath = true)
    (r : Reason) : (w.turnBack c r).CoherentBut X := by
  unfold Cluster.turnBack
  refine (Cluster.alike_markDirty _ c).coherentBut ((Cluster.alike_editCtx _ c _ rfl rfl rfl).coherentBut ?_)
  refine h.editEntry ?_ ?_ ?_
  · exact fun e => rfl
  · exact fun k e he hc => hs
  · exact fun k e he hc hp => rfl

/-- A carrier whose entry has gone RETURNING is found so. -/
theorem Cluster.CoherentBut.isReturning_turnBack (h : w.CoherentBut X) {c : Carrier}
    (hs : (w.ctx c).state.inSleepPath = true) (ha : w.holdsActive c = true) (r : Reason) :
    (w.turnBack c r).isReturning c = true := by
  obtain ⟨k, e, he, rfl, _⟩ := (h.holdsActive_iff c).mp ha
  refine ((h.turnBack hs r).isReturning_iff e.carrier).mpr ⟨k, { e with phase := .returning, reason := r }, ?_, rfl, rfl⟩
  simp only [Cluster.turnBack, Cluster.stack_markDirty, Cluster.stack_editCtx, Cluster.stack_editEntry]
  rw [if_pos (h.hostOf_eq he)]
  exact List.mem_map.mpr ⟨e, he, by simp⟩

theorem Cluster.ctx_turnBack_state (w : Cluster) (c : Carrier) (r : Reason) (d : Carrier) :
    ((w.turnBack c r).ctx d).state = (w.ctx d).state := by
  simp only [Cluster.turnBack, Cluster.ctx_markDirty, Cluster.ctx_editCtx]
  split <;> simp_all

/-- A command that ends a sleep is wanted for a carrier whose entry goes RETURNING (R31, R32). -/
theorem Cluster.CoherentBut.turnBack_want (h : w.CoherentBut X) {c : Carrier} {command : RadioCommand}
    (hs : (w.ctx c).state.inSleepPath = true) (ha : w.holdsActive c = true) (r : Reason)
    (fits : ∀ x : Context, x.state = (w.ctx c).state → command.fitsWanted x = true) :
    ((w.turnBack c r).want c command).CoherentBut X :=
  (h.turnBack hs r).joinWant 0 1 fun _ =>
    ⟨fits _ (Cluster.ctx_turnBack_state w c r c), fun _ _ => h.isReturning_turnBack hs ha r⟩

/-- A cancelled reservation leaves its carrier SERVING without entry, mark or want (R31, R33). -/
theorem Cluster.CoherentBut.cancelReservation (h : w.CoherentBut X) {c : Carrier} (hs : (w.ctx c).state = .serving)
    (hr : (w.ctx c).reserved = true) (r : Reason) : (w.cancelReservation c r).CoherentBut X := by
  unfold Cluster.cancelReservation
  refine (Cluster.alike_markDirty _ c).coherentBut ?_
  have g := ((h.dropWant c).removeEntry c).setCtx_left (c := c) (.inl rfl)
    ((((w.dropWant c).removeEntry c).ctx c).edit fun x =>
      { x.startResleep with reserved := false, lastReason := some r })
  by_cases hX : X c
  · exact g.mono fun d => ⟨fun q => q.elim (fun e => e ▸ hX) id, .inr⟩
  -- The owner that loses the entry is another carrier, so the state of c is still that of w.
  have sleeps : (w.ctx c).sleeps = true := by simp [Context.sleeps, hs, hr]
  have awake : ¬(w.ctx c).Awake := fun q => by rw [Context.sleeps_of_awake q] at sleeps; cases sleeps
  have bare : w.stack c = [] := by
    refine Classical.byContradiction fun q => ?_
    exact awake (h.owners c hX q)
  have unsent : w.isOutstanding c = false := by
    refine Classical.byContradiction fun q => ?_
    obtain ⟨o, ho, hc⟩ := Cluster.isOutstanding_iff.mp (by simpa using q)
    have := h.sent _ o ho (hc ▸ hX)
    rw [hc] at this
    cases hcmd : o.command <;> simp [RadioCommand.fitsSent, hcmd, hs] at this
  obtain ⟨k, hk⟩ := Option.isSome_iff_exists.mp ((h.holdsEntry_iff c).mpr ⟨hX, sleeps⟩)
  have hkc : k ≠ c := by
    rintro rfl
    have stands := Cluster.hostOf_some w hk
    simp [Cluster.standsOn, bare] at stands
  have hk' : (w.dropWant c).hostOf c = some k := hk
  have ctx : ((w.dropWant c).removeEntry c).ctx c = { w.ctx c with dirty := true } := by
    rw [Cluster.ctx_removeEntry hk' hkc, if_pos rfl]
    rfl
  refine g.readmit ?_ ?_ ?_ ⟨?_, ?_⟩
  · simp [ctx, Context.sleeps, hs, CarrierState.inSleepPath, Context.startResleep]
  · rw [Cluster.stack_setCtx, Cluster.stack_removeEntry, if_neg (by rw [hk']; simpa using hkc)]
    exact fun q => absurd bare q
  · simp
  · refine (Cluster.wantOf_removeEntry c fun q => ?_).trans (Cluster.wantOf_dropWant_self w c)
    exact absurd (Option.some.inj (hk.symm.trans q)) hkc
  · unfold Cluster.isOutstanding at unsent ⊢
    rwa [Cluster.lane_setCtx, Cluster.outstanding_removeEntry, Cluster.outstanding_dropWant]

/-- A wake request keeps the coherence of all in account (R31). -/
theorem Cluster.CoherentBut.wakeRequest (h : w.CoherentBut X) (c : Carrier) (r : Reason) :
    (w.wakeRequest c r).CoherentBut X := by
  have turn {st : CarrierState} (hst : (w.ctx c).state = st) (hs : st.inSleepPath = true) :
      (if w.holdsActive c = true then w.turnBack c r else w).CoherentBut X := by
    split
    · exact h.turnBack (hst ▸ hs) r
    · exact h
  have wanted {st : CarrierState} (hst : (w.ctx c).state = st) (hs : st.inSleepPath = true) (command : RadioCommand)
      (fits : ∀ x : Context, x.state = st → command.fitsWanted x = true) :
      (if w.holdsActive c = true then (w.turnBack c r).want c command else w).CoherentBut X := by
    split
    · next ha => exact h.turnBack_want (hst ▸ hs) ha r (hst ▸ fits)
    · exact h
  unfold Cluster.wakeRequest
  split
  · next hs =>
    split
    · next hr => exact h.cancelReservation hs hr r
    · exact h
  · next hs =>
    split
    · next ha =>
      split
      · exact h.turnBack_want (hs ▸ rfl) ha r fun x hx => by simp [RadioCommand.fitsWanted, hx, hs]
      · exact h.turnBack (hs ▸ rfl) r
    · exact h
  · next hs => exact turn hs rfl
  · next hs => exact turn hs rfl
  · next hs => exact turn hs rfl
  · next hs => exact wanted hs rfl .raise fun x hx => by simp [RadioCommand.fitsWanted, hx]
  · next hs => exact wanted hs rfl .warm fun x hx => by simp [RadioCommand.fitsWanted, hx]
  all_goals exact h

theorem Cluster.CoherentBut.wakeAll (h : w.CoherentBut X) (cs : List Carrier) (r : Reason) :
    (w.wakeAll cs r).CoherentBut X := by
  unfold Cluster.wakeAll
  induction cs generalizing w with
  | nil => exact h
  | cons c cs ih => exact ih (h.wakeRequest c r)

theorem Cluster.CoherentBut.unwind (h : w.CoherentBut X) (k : Carrier) (r : Reason) : (w.unwind k r).CoherentBut X :=
  h.wakeAll _ r

theorem Cluster.CoherentBut.unwindAll (h : w.CoherentBut X) (r : Reason) : (w.unwindAll r).CoherentBut X := by
  unfold Cluster.unwindAll
  induction carriers generalizing w with
  | nil => exact h
  | cons k ks ih => exact ih (h.unwind k r)

end

end Sys2Proof.Machine
end

section
/-! What a wake request does to contexts, wants and commands, whatever the cluster; and coherence kept by the entry into
FAULTED and by the end of a query (R31, R35, R92). -/

namespace Sys2Proof.Machine

/-- What wake requests do to one context (R31, R32, R33, R91, R92): it is marked dirty, a sleeper's reason is recorded, a
reservation is cancelled, an owner hands on. -/
inductive Context.Roused : Context → Context → Prop
  | refl (x : Context) : Roused x x
  | trans {x y z : Context} : Roused x y → Roused y z → Roused x z
  | dirtied (x : Context) : Roused x { x with dirty := true }
  | noted (x : Context) (r : Reason) : x.state.inSleepPath = true →
      Roused x (x.edit fun y => { y with lastReason := some r })
  | cancelled (x : Context) (r : Reason) : x.state = .serving →
      Roused x (x.edit fun y => { y.startResleep with reserved := false, lastReason := some r })
  | counted (x : Context) : x.state = .serving → Roused x (x.edit fun y => { y with wakeCount := 0 })
  | relinked (x : Context) : x.state = .faulted → x.cause = some .link →
      Roused x (x.edit fun y => { y.enter .unknown with cls := .absent, probeOrigin := none })

namespace Context.Roused

theorem state {x y : Context} (h : Roused x y) : y.state = x.state ∨ (x.state = .faulted ∧ y.state = .unknown) := by
  induction h with
  | trans _ _ ih jh =>
    rcases jh with j | ⟨j, j'⟩
    · rw [j]; exact ih
    · rcases ih with i | ⟨i, i'⟩
      · exact .inr ⟨i ▸ j, j'⟩
      · rw [i'] at j; cases j
  | relinked x hs _ => exact .inr ⟨hs, rfl⟩
  | refl | dirtied | noted | cancelled | counted => exact .inl rfl

theorem reserved {x y : Context} (h : Roused x y) (hx : x.reserved = false) : y.reserved = false := by
  induction h with
  | trans _ _ ih jh => exact jh (ih hx)
  | cancelled => rfl
  | refl | dirtied | noted | counted | relinked => exact hx

theorem cfg {x y : Context} (h : Roused x y) : y.cfg = x.cfg := by
  induction h with
  | trans _ _ ih jh => exact jh.trans ih
  | refl | dirtied | noted | cancelled | counted | relinked => rfl

theorem cause {x y : Context} (h : Roused x y) : y.cause = x.cause := by
  induction h with
  | trans _ _ ih jh => exact jh.trans ih
  | refl | dirtied | noted | cancelled | counted | relinked => rfl

end Context.Roused

section
variable (w : Cluster)

theorem Cluster.roused_markDirty (c d : Carrier) : Context.Roused (w.ctx d) ((w.markDirty c).ctx d) := by
  rw [Cluster.ctx_markDirty]
  split
  · next h => exact h ▸ .dirtied _
  · exact .refl _

theorem Cluster.roused_stackEmptied (k d : Carrier) : Context.Roused (w.ctx d) ((w.stackEmptied k).ctx d) := by
  unfold Cluster.stackEmptied
  dsimp only
  split
  · next hs =>
    rw [Cluster.ctx_editCtx]
    split
    · next h => exact h ▸ .counted _ hs
    · exact .refl _
  · split
    · next hf =>
      rw [Cluster.relink, Cluster.ctx_want, Cluster.ctx_editCtx]
      split
      · next h => exact h ▸ .relinked _ hf.1 hf.2.1
      · exact .refl _
    · exact .refl _

theorem Cluster.roused_removeEntry (c d : Carrier) : Context.Roused (w.ctx d) ((w.removeEntry c).ctx d) := by
  unfold Cluster.removeEntry
  split
  · exact .refl _
  · next k _ =>
    have g := (Cluster.roused_markDirty (w.setStack k ((w.stack k).eraseP fun e => e.carrier == c)) k d).trans
      (Cluster.roused_markDirty _ c d)
    dsimp only
    split
    · exact g.trans (Cluster.roused_stackEmptied _ k d)
    · exact g

theorem Cluster.roused_turnBack {c : Carrier} (hs : (w.ctx c).state.inSleepPath = true) (r : Reason) (d : Carrier) :
    Context.Roused (w.ctx d) ((w.turnBack c r).ctx d) := by
  refine .trans ?_ (Cluster.roused_markDirty _ c d)
  rw [Cluster.ctx_editCtx, Cluster.ctx_editEntry, Cluster.ctx_editEntry]
  split
  · next h => exact h ▸ .noted _ r hs
  · exact .refl _

theorem Cluster.roused_cancelReservation {c : Carrier} (hs : (w.ctx c).state = .serving) (r : Reason) (d : Carrier) :
    Context.Roused (w.ctx d) ((w.cancelReservation c r).ctx d) := by
  have g (d : Carrier) : Context.Roused (w.ctx d) (((w.dropWant c).removeEntry c).ctx d) :=
    Cluster.roused_removeEntry (w.dropWant c) c d
  refine .trans (.trans (g d) ?_) (Cluster.roused_markDirty _ c d)
  rw [Cluster.ctx_editCtx]
  split
  · next h =>
    refine h ▸ .cancelled _ r ?_
    rcases (g c).state with q | ⟨q, _⟩
    · rw [q, hs]
    · rw [hs] at q; cases q
  · exact .refl _

/-- A wake request rouses contexts, and does nothing else to them. -/
theorem Cluster.roused_wakeRequest (c : Carrier) (r : Reason) (d : Carrier) :
    Context.Roused (w.ctx d) ((w.wakeRequest c r).ctx d) := by
  have turn {st : CarrierState} (hst : (w.ctx c).state = st) (hs : st.inSleepPath = true) :=
    Cluster.roused_turnBack w (hst ▸ hs) r d
  unfold Cluster.wakeRequest
  split
  · next hs =>
    split
    · exact Cluster.roused_cancelReservation w hs r d
    · exact .refl _
  all_goals
    next hs =>
    repeat' split
    all_goals try rw [Cluster.ctx_want]
    all_goals first
      | exact .refl _
      | exact turn hs rfl

theorem Cluster.roused_wakeAll (cs : List Carrier) (r : Reason) (d : Carrier) :
    Context.Roused (w.ctx d) ((w.wakeAll cs r).ctx d) := by
  unfold Cluster.wakeAll
  induction cs generalizing w with
  | nil => exact .refl _
  | cons c cs ih => exact (Cluster.roused_wakeRequest w c r d).trans (ih _)

theorem Cluster.roused_unwindAll (r : Reason) (d : Carrier) : Context.Roused (w.ctx d) ((w.unwindAll r).ctx d) := by
  unfold Cluster.unwindAll
  induction carriers generalizing w with
  | nil => exact .refl _
  | cons k ks ih => exact (Cluster.roused_wakeAll w _ r d).trans (ih _)

/-! ## Commands and the wants of other carriers -/

@[simp] theorem Cluster.outstanding_turnBack (c : Carrier) (r : Reason) (i : Site) :
    ((w.turnBack c r).lane i).outstanding = (w.lane i).outstanding := by simp [Cluster.turnBack]

@[simp] theorem Cluster.outstanding_cancelReservation (c : Carrier) (r : Reason) (i : Site) :
    ((w.cancelReservation c r).lane i).outstanding = (w.lane i).outstanding := by simp [Cluster.cancelReservation]

/-- A wake request ends no command. -/
@[simp] theorem Cluster.outstanding_wakeRequest (c : Carrier) (r : Reason) (i : Site) :
    ((w.wakeRequest c r).lane i).outstanding = (w.lane i).outstanding := by
  unfold Cluster.wakeRequest
  repeat' split
  all_goals simp

@[simp] theorem Cluster.outstanding_wakeAll (cs : List Carrier) (r : Reason) (i : Site) :
    ((w.wakeAll cs r).lane i).outstanding = (w.lane i).outstanding := by
  unfold Cluster.wakeAll
  induction cs generalizing w with
  | nil => rfl
  | cons c cs ih => rw [List.foldl_cons, ih, Cluster.outstanding_wakeRequest]

@[simp] theorem Cluster.outstanding_unwindAll (r : Reason) (i : Site) :
    ((w.unwindAll r).lane i).outstanding = (w.lane i).outstanding := by
  unfold Cluster.unwindAll
  induction carriers generalizing w with
  | nil => rfl
  | cons k ks ih => rw [List.foldl_cons, ih, Cluster.unwind, Cluster.outstanding_wakeAll]

@[simp] theorem Cluster.wantOf_turnBack (c : Carrier) (r : Reason) (d : Carrier) :
    (w.turnBack c r).wantOf d = w.wantOf d := by simp [Cluster.turnBack, Cluster.wantOf]

theorem Cluster.wantOf_cancelReservation_ne {c d : Carrier} (r : Reason) (hcd : c ≠ d) (hr : ¬w.Relinkable d) :
    (w.cancelReservation c r).wantOf d = w.wantOf d := by
  have g := Cluster.wantOf_removeEntry (w := w.dropWant c) (c := c) d fun _ => hr
  exact g.trans (Cluster.wantOf_dropWant_ne w hcd)

/-- A wake request leaves the wants of other carriers, but of an owner that hands on (R92). -/
theorem Cluster.wantOf_wakeRequest_ne {c d : Carrier} (r : Reason) (hcd : c ≠ d) (hr : ¬w.Relinkable d) :
    (w.wakeRequest c r).wantOf d = w.wantOf d := by
  unfold Cluster.wakeRequest
  repeat' split
  all_goals simp [Cluster.wantOf_want_ne _ hcd, Cluster.wantOf_cancelReservation_ne w r hcd hr]

theorem Cluster.channel_wakeRequest (c : Carrier) (r : Reason) (i : Site) :
    (w.wakeRequest c r).channel i = w.channel i := (Cluster.onlyCarriers_wakeRequest w c r).channel i

theorem Cluster.not_relinkable_wakeRequest {d : Carrier} (h : ¬w.Relinkable d) (c : Carrier) (r : Reason) :
    ¬(w.wakeRequest c r).Relinkable d := by
  rintro ⟨hs, hc, hu⟩
  have g := Cluster.roused_wakeRequest w c r d
  refine h ⟨?_, g.cause ▸ hc, Cluster.channel_wakeRequest w c r _ ▸ hu⟩
  rcases g.state with q | ⟨_, q⟩
  · rw [← q, hs]
  · rw [hs] at q; cases q

/-- Wake requests to other carriers leave a carrier's want, unless it is an owner that hands on. -/
theorem Cluster.wantOf_wakeAll_ne {cs : List Carrier} {d : Carrier} (r : Reason) (hd : d ∉ cs) (hr : ¬w.Relinkable d) :
    (w.wakeAll cs r).wantOf d = w.wantOf d := by
  unfold Cluster.wakeAll
  induction cs generalizing w with
  | nil => rfl
  | cons c cs ih =>
    rw [List.mem_cons, not_or] at hd
    rw [List.foldl_cons, ih _ hd.2 (Cluster.not_relinkable_wakeRequest w hr c r),
      Cluster.wantOf_wakeRequest_ne w r (Ne.symm hd.1) hr]

end

/-! ## The entry into FAULTED -/

section
variable {w : Cluster} {X : Carrier → Prop}

theorem Cluster.alike_closeProbes (w : Cluster) : w.Alike w.closeProbes := Cluster.alike_of_tables rfl rfl rfl

theorem Cluster.alike_endQuery (w : Cluster) (c : Carrier) (answered : Bool) : w.Alike (w.endQuery c answered) := by
  rw [(Cluster.endQuery_spec w c answered).1]
  exact Cluster.alike_of_tables rfl rfl rfl

theorem Cluster.alike_notify (w : Cluster) (n : Notice) : w.Alike (w.notify n) := Cluster.alike_of_tables rfl rfl rfl

theorem Cluster.unasked_abandon (w : Cluster) (c : Carrier) : ((w.abandon c).dropWant c).Unasked c := by
  refine Cluster.unasked_dropWant ?_
  unfold Cluster.abandon
  split
  · simp [Cluster.isOutstanding, Cluster.outstanding_retire]
  · simp [*]

@[simp] theorem Cluster.ctx_endQuery (w : Cluster) (c : Carrier) (answered : Bool) (d : Carrier) :
    (w.endQuery c answered).ctx d = w.ctx d := by
  rw [(Cluster.endQuery_spec w c answered).1]
  rfl

@[simp] theorem Cluster.channel_endQuery (w : Cluster) (c : Carrier) (answered : Bool) (i : Site) :
    (w.endQuery c answered).channel i = w.channel i := by
  rw [(Cluster.endQuery_spec w c answered).1]
  rfl

theorem Cluster.up_retire (w : Cluster) (i j : Site) : ((w.retire i).channel j).up = (w.channel j).up := by
  rw [Cluster.channel_retire]
  split <;> rfl

theorem Cluster.up_abandon (w : Cluster) (c : Carrier) (i : Site) : ((w.abandon c).channel i).up = (w.channel i).up := by
  unfold Cluster.abandon
  split
  · exact Cluster.up_retire ..
  · rfl

/-- A carrier that enters FAULTED comes out coherent, with nothing asked of it (R35). -/
theorem Cluster.CoherentBut.enterFaulted (h : w.CoherentBut X) {c : Carrier} (cause : FaultCause)
    (hc : ¬w.Relinkable c) : (w.enterFaulted c cause).CoherentBut X := by
  have h1 : (((w.endQuery c false).abandon c).dropWant c).CoherentBut X :=
    (((Cluster.alike_endQuery w c false).coherentBut h).abandon c).dropWant c
  have free := Cluster.unasked_abandon (w.endQuery c false) c
  have still : ¬(((w.endQuery c false).abandon c).dropWant c).Relinkable c := by
    simpa [Cluster.Relinkable, Cluster.up_abandon] using hc
  generalize hw1 : ((w.endQuery c false).abandon c).dropWant c = w1 at h1 free still
  have h2 := (h1.removeEntry c).setCtx_left (c := c) (.inl rfl)
    (((w1.removeEntry c).ctx c).edit fun x => { x with reserved := false })
  have free2 : ((w1.removeEntry c).editCtx c fun x => { x with reserved := false }).Unasked c := by
    refine ⟨(Cluster.wantOf_removeEntry c fun _ => still).trans free.1, ?_⟩
    have := free.2
    unfold Cluster.isOutstanding at this ⊢
    rwa [Cluster.lane_editCtx, Cluster.outstanding_removeEntry]
  have still2 : ¬((w1.removeEntry c).editCtx c fun x => { x with reserved := false }).Relinkable c := by
    rintro ⟨hs, hk, hu⟩
    rw [Cluster.ctx_editCtx_self] at hs hk
    have g := Cluster.roused_removeEntry w1 c c
    refine still ⟨?_, g.cause ▸ hk, (Cluster.onlyCarriers_removeEntry w1 c).channel _ ▸ hu⟩
    rcases g.state with q | ⟨_, q⟩
    · exact q ▸ hs
    · exact absurd (q.symm.trans hs) (by decide)
  change Cluster.CoherentBut ((w1.removeEntry c).editCtx c fun x => { x with reserved := false }) _ at h2
  have bare : (((w1.removeEntry c).editCtx c fun x => { x with reserved := false }).ctx c).reserved = false := by simp
  generalize hw2 : (w1.removeEntry c).editCtx c (fun x => { x with reserved := false }) = w2 at h2 free2 still2 bare
  have away : c ∉ (w2.stack c).reverse.map Entry.carrier := by
    intro g
    obtain ⟨e, he, hec⟩ := List.mem_map.mp g
    exact (h2.of_mem (List.mem_reverse.mp he)).1 (.inl hec)
  have free3 : (w2.unwind c .coverLost).Unasked c := by
    refine ⟨(Cluster.wantOf_wakeAll_ne w2 .coverLost away still2).trans free2.1, ?_⟩
    have := free2.2
    unfold Cluster.isOutstanding at this ⊢
    rwa [Cluster.unwind, Cluster.outstanding_wakeAll]
  have bare3 := (Cluster.roused_wakeAll w2 ((w2.stack c).reverse.map Entry.carrier) .coverLost c).reserved bare
  have h4 := (h2.unwind c .coverLost).setCtx_left (c := c) (.inl rfl)
    (((w2.unwind c .coverLost).ctx c).edit fun x => { x.enter .faulted with lightRun := 0, cause := some cause })
  have h5 : ((w2.unwind c .coverLost).editCtx c fun x =>
      { x.enter .faulted with lightRun := 0, cause := some cause }).CoherentBut X := by
    refine h4.readmit ?_ ?_ ?_ free3
    · simp [Context.sleeps, CarrierState.inSleepPath]
    · exact fun _ => .inr (by simp)
    · intro g
      have : ((w2.unwind c .coverLost).ctx c).reserved = true := by simpa using g
      rw [Cluster.unwind, bare3] at this
      cases this
  have e : w.enterFaulted c cause = (((w2.unwind c .coverLost).editCtx c fun x =>
      { x.enter .faulted with lightRun := 0, cause := some cause }).notify .fault).markDirty c := by
    rw [← hw2, ← hw1]
    rfl
  rw [e]
  exact (Cluster.alike_markDirty _ c).coherentBut ((Cluster.alike_notify _ .fault).coherentBut h5)

end

end Sys2Proof.Machine
end

section
/-! Coherence kept by a grant, by every reply and timeout, and by the link events (sections 7.5, 8.2, 8.4 and 8.5). -/

namespace Sys2Proof.Machine

section
variable {w : Cluster} {X : Carrier → Prop}

/-! ## A grant -/

/-- A command becomes the outstanding one of a lane that has none, for a carrier that nothing is asked of. -/
theorem Cluster.CoherentBut.setOutstanding (h : w.CoherentBut X) {i : Site} {o : Outstanding} (hi : siteOf o.carrier = i)
    (free : o.carrier ∉ (w.lane i).carriers) (idle : (w.lane i).outstanding = none)
    (fits : o.command.fitsSent (w.ctx o.carrier) = true) :
    (w.setLane i { w.lane i with outstanding := some o }).CoherentBut X := by
  have queue (j : Site) : ((w.setLane i { w.lane i with outstanding := some o }).lane j).queue = (w.lane j).queue := by
    rw [Cluster.lane_setLane]
    split
    · next hj => subst hj; rfl
    · rfl
  refine ⟨⟨fun j => ?_, h.nodup, h.covered, h.stands, h.owners, h.marks, fun j x hx => h.wants j x (queue j ▸ hx),
    fun j p hp hX => ?_⟩, h.phases⟩
  · rw [Cluster.lane_setLane]
    split
    · next hj =>
      subst hj
      have e : (w.lane i).carriers = (w.lane i).queue.map Want.carrier := by simp [Lane.carriers, idle]
      obtain ⟨hn, hs⟩ := h.lanes i
      rw [e] at free hn hs
      refine ⟨List.nodup_cons.mpr ⟨free, hn⟩, fun c hc => ?_⟩
      rcases List.mem_cons.mp hc with rfl | hc
      · exact hi
      · exact hs c hc
    · exact h.lanes j
  · rw [Cluster.lane_setLane] at hp
    split at hp
    · cases hp; exact fits
    · exact h.sent j p hp hX

/-- The send leaves a command that fits the state it leads to (R130). -/
theorem fitsSent_atSend {command : RadioCommand} {x : Context} (h : command.fitsWanted x = true) :
    command.fitsSent (x.atSend command) = true := by
  cases hs : x.state <;> cases command <;>
    simp_all [RadioCommand.fitsWanted, RadioCommand.fitsSent, Context.atSend, sendState]

theorem sleeps_atSend {command : RadioCommand} {x : Context} (h : command.fitsWanted x = true)
    (mark : x.reserved = true → x.state = .serving) : (x.atSend command).sleeps = x.sleeps := by
  cases hs : x.state <;> cases command <;>
    simp_all [RadioCommand.fitsWanted, Context.atSend, sendState, Context.sleeps, CarrierState.inSleepPath]

/-- An entry that fits its carrier fits it at the send too (R84, R130). -/
theorem fits_atSend {command : RadioCommand} {x : Context} {p : EntryPhase} (h : command.fitsWanted x = true)
    (hp : p.fits x.state = true) (hr : command = .raise → x.state = .light → p = .returning) :
    p.fits (x.atSend command).state = true := by
  cases hs : x.state <;> cases command <;> cases p <;>
    simp_all [RadioCommand.fitsWanted, Context.atSend, sendState, EntryPhase.fits, CarrierState.inSleepPath]

theorem mark_atSend {command : RadioCommand} {x : Context} (h : command.fitsWanted x = true)
    (mark : x.reserved = true → x.state = .serving) :
    (x.atSend command).reserved = true → (x.atSend command).state = .serving := by
  cases hs : x.state <;> cases command <;>
    simp_all [RadioCommand.fitsWanted, Context.atSend, sendState]

/-- Nothing is wanted for a carrier that may own entries. -/
theorem not_awake_of_fitsWanted {command : RadioCommand} {x : Context} (h : command.fitsWanted x = true) : ¬x.Awake := by
  rintro (⟨hs, hr⟩ | hs) <;> cases command <;> simp [RadioCommand.fitsWanted, *] at h

@[simp] theorem Context.cfg_atSend (command : RadioCommand) (x : Context) : (x.atSend command).cfg = x.cfg := by
  unfold Context.atSend
  dsimp only
  split <;> split <;> rfl

/-- A grant of a want that stands in a lane with no command outstanding keeps coherence (R130). -/
theorem Cluster.CoherentBut.send (h : w.CoherentBut fun _ => False) {i : Site} {x : Want} (hx : x ∈ (w.lane i).queue)
    (idle : (w.lane i).outstanding = none) (t : Timeouts) : (w.send i x t).CoherentBut fun _ => False := by
  have hi : siteOf x.carrier = i := (h.lanes i).2 _ (Lane.mem_carriers.mpr (.inr ⟨x, hx, rfl⟩))
  subst hi
  obtain ⟨fits, ret⟩ := h.wants _ x hx id
  have mark := h.marks x.carrier id
  have free : (w.dropWant x.carrier).Unasked x.carrier :=
    Cluster.unasked_dropWant (by simp [Cluster.isOutstanding, idle])
  have h1 := (h.dropWant x.carrier).setCtx (c := x.carrier)
    (x := ((w.dropWant x.carrier).ctx x.carrier).edit (Context.atSend x.command))
    (by simpa [Context.sleeps] using sleeps_atSend fits mark) (fun _ => by simp)
    (fun hs => absurd (h.owners _ id hs) (not_awake_of_fitsWanted fits))
    (by simpa using mark_atSend fits mark)
    (fun k e he hc => by
      have hp := h.phases k e he
      rw [hc] at hp
      refine fits_atSend fits hp fun hcmd hl => ?_
      obtain ⟨l, f, hf, hfc, hfp⟩ := (h.isReturning_iff _).mp (ret hcmd hl)
      rwa [(h.entry_unique he hf (hc.trans hfc.symm)).2])
    (fun y hy hc => absurd hc (Cluster.wantOf_eq_none_iff.mp free.1 y hy))
    (fun o ho hc => by rw [Cluster.outstanding_dropWant, idle] at ho; cases ho)
  have h2 := h1.setOutstanding (i := siteOf x.carrier)
    (o := { carrier := x.carrier, command := x.command, attempt := x.attempt, tag := (w.channel (siteOf x.carrier)).nextTag })
    rfl (Cluster.unasked_iff.mp free) (by rw [Cluster.lane_setCtx, Cluster.outstanding_dropWant, idle])
    (by rw [Cluster.ctx_setCtx_self]; exact fitsSent_atSend fits)
  refine Cluster.Alike.coherentBut ?_ h2
  refine ⟨fun _ => rfl, fun j => ?_, fun j => ?_, fun d => ?_, fun d => ?_, fun d => ?_⟩
  · rw [Cluster.lane_send, Cluster.lane_setLane, Cluster.lane_setCtx, Cluster.lane_setCtx, Cluster.lane_dropWant,
      Cluster.lane_dropWant]
    split <;> simp [*]
  · rw [Cluster.lane_send, Cluster.lane_setLane]
    split
    · rfl
    · rw [Cluster.lane_setCtx, Cluster.outstanding_dropWant]
  all_goals
    rw [Cluster.ctx_send, Cluster.ctx_setLane, Cluster.ctx_setCtx]
    split
    · next hd => subst hd; rfl
    · rfl

/-- A want that is granted stands in its lane, with no command outstanding there (R127, R128). -/
theorem Cluster.mem_of_grantChoice {i : Site} {rs : RunState} {x : Want} (h : w.grantChoice i rs = some x) :
    x ∈ (w.lane i).queue ∧ (w.lane i).outstanding = none := by
  obtain ⟨idle, _, hx⟩ := Cluster.grantChoice_spec h
  have picked {k : WantClass} (hk : (w.lane i).pick rs k = some x) : x ∈ (w.lane i).queue :=
    List.mem_of_find?_eq_some (Lane.pick_spec hk).2
  refine ⟨?_, idle⟩
  unfold Lane.choose at hx
  rcases Option.or_eq_some_iff.mp hx with g | ⟨_, g⟩
  · exact picked g
  · rcases Option.or_eq_some_iff.mp g with g | ⟨_, g⟩
    · exact picked g
    · exact picked g

theorem Cluster.CoherentBut.testGrant (h : w.CoherentBut fun _ => False) (i : Site) (rs : RunState) (t : Timeouts) :
    (w.testGrant i rs t).CoherentBut fun _ => False := by
  unfold Cluster.testGrant
  split
  · next x hx => exact h.send (Cluster.mem_of_grantChoice hx).1 (Cluster.mem_of_grantChoice hx).2 t
  · exact h

/-! ## Replies -/

/-- The command of carrier c has ended: nothing is asked of it, and its state is one in which the command was out. -/
structure Cluster.Freed (w : Cluster) (c : Carrier) (command : RadioCommand) : Prop where
  coherent : w.CoherentBut fun _ => False
  unasked : w.Unasked c
  fits : command.fitsSent (w.ctx c) = true

theorem Cluster.freed_retire (h : w.CoherentBut fun _ => False) {i : Site} {o : Outstanding}
    (ho : (w.lane i).outstanding = some o) : (w.retire i).Freed o.carrier o.command := by
  have hi : siteOf o.carrier = i := (h.lanes i).2 _ (Lane.mem_carriers.mpr (.inl ⟨o, ho, rfl⟩))
  subst hi
  refine ⟨h.retire _, Cluster.unasked_retire w (Cluster.wantOf_eq_none_iff.mpr ?_), h.sent _ o ho id⟩
  exact (h.lanes _).not_queued ho

/-- A carrier that nothing is asked of takes another state. -/
theorem Cluster.CoherentBut.setCtx_unasked (h : w.CoherentBut X) {c : Carrier} {x : Context} (free : w.Unasked c)
    (sleeps : x.sleeps = (w.ctx c).sleeps) (cover : x.sleeps = true → x.cfg.cover = (w.ctx c).cfg.cover)
    (owner : w.stack c ≠ [] → x.Awake) (mark : x.reserved = true → x.state = .serving)
    (phase : ∀ k, ∀ e ∈ w.stack k, e.carrier = c → e.phase.fits x.state = true) : (w.setCtx c x).CoherentBut X :=
  h.setCtx sleeps cover owner mark phase (fun y hy hc => absurd hc (Cluster.wantOf_eq_none_iff.mp free.1 y hy))
    fun o ho hc => by
      have := Cluster.isOutstanding_iff.mpr ⟨o, ho, hc⟩
      rw [free.2] at this
      cases this

/-- The owner of a stack is not on its way through a sleep. -/
theorem Cluster.AgreeBut.bare_of_sleeps (h : w.AgreeBut X) {c : Carrier} (hX : ¬X c) (hs : (w.ctx c).sleeps = true) :
    w.stack c = [] := by
  refine Classical.byContradiction fun q => ?_
  rw [Context.sleeps_of_awake (h.owners c hX q)] at hs
  cases hs

theorem Cluster.AgreeBut.bare_of_state (h : w.AgreeBut X) {c : Carrier} (hX : ¬X c) (hs : (w.ctx c).state ≠ .serving)
    (hf : (w.ctx c).state ≠ .faulted) : w.stack c = [] := by
  refine Classical.byContradiction fun q => ?_
  rcases h.owners c hX q with ⟨g, _⟩ | g
  · exact hs g
  · exact hf g

theorem Cluster.AgreeBut.unmarked (h : w.AgreeBut X) {c : Carrier} (hX : ¬X c) (hs : (w.ctx c).state ≠ .serving) :
    (w.ctx c).reserved = false := by
  refine Classical.byContradiction fun q => ?_
  exact hs (h.marks c hX (by simpa using q))

/-- On its way through a sleep, a carrier that nothing is asked of enters another state of the way that its entry fits. -/
theorem Cluster.CoherentBut.enterState (h : w.CoherentBut fun _ => False) {c : Carrier} {f : Context → Context}
    (free : w.Unasked c) (old : (w.ctx c).state.inSleepPath = true) (new : (f (w.ctx c)).state.inSleepPath = true)
    (reserved : (f (w.ctx c)).reserved = (w.ctx c).reserved) (cover : (f (w.ctx c)).cfg.cover = (w.ctx c).cfg.cover)
    (phase : ∀ p : EntryPhase, p.fits (w.ctx c).state = true → p.fits (f (w.ctx c)).state = true) :
    (w.editCtx c f).CoherentBut fun _ => False := by
  have sleeps : (w.ctx c).sleeps = true := by simp [Context.sleeps, old]
  have still : (w.ctx c).reserved = false := h.unmarked id fun g => by simp [g, CarrierState.inSleepPath] at old
  refine h.setCtx_unasked free ?_ (fun _ => cover) (fun g => absurd (h.bare_of_sleeps id sleeps) g) ?_ ?_
  · rw [sleeps]
    simp [Context.sleeps, new]
  · simp [reserved, still]
  · exact fun k e he hc => phase e.phase (hc ▸ h.phases k e he)

/-- A carrier out of a sleep that nothing is asked of enters another state out of a sleep. -/
theorem Cluster.CoherentBut.enterAwake (h : w.CoherentBut fun _ => False) {c : Carrier} {f : Context → Context}
    (free : w.Unasked c) (old : (w.ctx c).sleeps = false) (new : (f (w.ctx c)).sleeps = false)
    (owner : w.stack c ≠ [] → (f (w.ctx c)).Awake)
    (mark : (f (w.ctx c)).reserved = true → (f (w.ctx c)).state = .serving) :
    (w.editCtx c f).CoherentBut fun _ => False :=
  h.setCtx_unasked free (new.trans old.symm) (fun g => absurd g (by simpa [Context.sleeps] using new)) owner mark
    fun k e he hc => absurd hc (h.no_entry old k e he)

theorem Cluster.Unasked.editCtx {c : Carrier} (h : w.Unasked c) (f : Context → Context) :
    (w.editCtx c f).Unasked c := h

/-- A carrier comes back to SERVING (R142, R146, R147). -/
theorem Cluster.Freed.backToServing {c : Carrier} {command : RadioCommand} (h : w.Freed c command)
    (bare : w.stack c = []) (mark : (w.ctx c).reserved = false) (state : (w.ctx c).state ≠ .faulted)
    {f : Context → Context} (hs : ∀ x, (f x).state = x.state) (hr : ∀ x, (f x).reserved = x.reserved) :
    (w.backToServing c f).CoherentBut fun _ => False := by
  have g := (h.coherent.removeEntry c).setCtx_left (c := c) (.inl rfl)
    (((w.removeEntry c).ctx c).edit fun x => f (x.enter .serving).startResleep)
  have reserved := (Cluster.roused_removeEntry w c c).reserved mark
  refine g.readmit ?_ ?_ ?_ ⟨?_, ?_⟩
  · simp [Context.sleeps, hs, hr, Context.startResleep, CarrierState.inSleepPath, reserved]
  · intro q
    rw [Cluster.stack_setCtx, Cluster.stack_removeEntry, bare] at q
    simp at q
  · simp [hr, Context.startResleep, reserved]
  · exact (Cluster.wantOf_removeEntry c fun _ q => state q.1).trans h.unasked.1
  · have := h.unasked.2
    unfold Cluster.isOutstanding at this ⊢
    rwa [Cluster.lane_setCtx, Cluster.outstanding_removeEntry]

theorem Cluster.Freed.fault {c : Carrier} {command : RadioCommand} (h : w.Freed c command) (cause : FaultCause) :
    (w.enterFaulted c cause).CoherentBut fun _ => False := by
  refine h.coherent.enterFaulted cause fun q => ?_
  have := h.fits
  cases command <;> simp [RadioCommand.fitsSent, q.1] at this

theorem Cluster.CoherentBut.want_of (h : w.CoherentBut X) {c : Carrier} {command : RadioCommand} (wait attempt : Nat)
    (fits : command.fitsWanted (w.ctx c) = true)
    (raise : command = .raise → (w.ctx c).state = .light → w.isReturning c = true) :
    (w.joinWant c command wait attempt).CoherentBut X :=
  h.joinWant wait attempt fun _ => ⟨fits, raise⟩

end

end Sys2Proof.Machine
end

section
/-! Coherence kept by the replies, command by command, and by timeouts and link events (sections 8.2, 8.4 and 8.5). -/

namespace Sys2Proof.Machine

section
variable {w : Cluster} {c : Carrier}

namespace Cluster.Freed

theorem not_serving {command : RadioCommand} (h : w.Freed c command) : (w.ctx c).state ≠ .serving := fun g => by
  have := h.fits
  cases command <;> simp [RadioCommand.fitsSent, g] at this

theorem not_faulted {command : RadioCommand} (h : w.Freed c command) : (w.ctx c).state ≠ .faulted := fun g => by
  have := h.fits
  cases command <;> simp [RadioCommand.fitsSent, g] at this

theorem bare {command : RadioCommand} (h : w.Freed c command) : w.stack c = [] :=
  h.coherent.bare_of_state id h.not_serving h.not_faulted

theorem unmarked {command : RadioCommand} (h : w.Freed c command) : (w.ctx c).reserved = false :=
  h.coherent.unmarked id h.not_serving

/-- The carrier comes back to SERVING. -/
theorem back {command : RadioCommand} (h : w.Freed c command) {f : Context → Context} (hs : ∀ x, (f x).state = x.state)
    (hr : ∀ x, (f x).reserved = x.reserved) : (w.backToServing c f).CoherentBut fun _ => False :=
  h.backToServing h.bare h.unmarked h.not_faulted hs hr

theorem want {command next : RadioCommand} (h : w.Freed c command) (fits : next.fitsWanted (w.ctx c) = true)
    (raise : next = .raise → (w.ctx c).state = .light → w.isReturning c = true) :
    (w.want c next).CoherentBut fun _ => False :=
  h.coherent.want_of 0 1 fits raise

/-! ## GATE and SHED -/

theorem abandonDrain {command : RadioCommand} (h : w.Freed c command) (r : Reason) :
    (w.abandonDrain c r).CoherentBut fun _ => False := by
  refine h.back (fun x => ?_) fun x => ?_ <;> split <;> rfl

end Cluster.Freed

theorem Cluster.CoherentBut.gateReply {o : Outstanding} (h : w.Freed o.carrier .gate) (r : Reply) :
    (w.gateReply o r).CoherentBut fun _ => False := by
  have hs : (w.ctx o.carrier).state = .draining := by simpa [RadioCommand.fitsSent] using h.fits
  unfold Cluster.gateReply
  split
  · split
    · exact h.want (by simp [RadioCommand.fitsWanted, hs]) nofun
    · exact h.want (by simp [RadioCommand.fitsWanted, hs]) nofun
  · exact h.abandonDrain _
  · exact h.abandonDrain _
  · exact h.fault _

/-- A drain turned back: the entry goes RETURNING and OPEN is wanted (R143, R144). -/
theorem Cluster.CoherentBut.turnBack_reopen {X : Carrier → Prop} (h : w.CoherentBut X) (hs : (w.ctx c).state = .draining)
    (r : Reason) : ((w.turnBack c r).want c .reopen).CoherentBut X := by
  refine (h.turnBack (by rw [hs]; rfl) r).want_of 0 1 ?_ nofun
  simp [RadioCommand.fitsWanted, Cluster.ctx_turnBack_state, hs]

theorem Cluster.CoherentBut.shedAgain {o : Outstanding} (h : w.Freed o.carrier .shed) (p : Policy) :
    (w.shedAgain p o).CoherentBut fun _ => False := by
  have hs : (w.ctx o.carrier).state = .draining := by simpa [RadioCommand.fitsSent] using h.fits
  unfold Cluster.shedAgain
  split
  · exact h.coherent.want_of _ _ (by simp [RadioCommand.fitsWanted, hs]) nofun
  · exact h.coherent.turnBack_reopen hs _

theorem Cluster.CoherentBut.shedReply {o : Outstanding} (h : w.Freed o.carrier .shed) (p : Policy) (r : Reply) :
    (w.shedReply p o r).CoherentBut fun _ => False := by
  have hs : (w.ctx o.carrier).state = .draining := by simpa [RadioCommand.fitsSent] using h.fits
  have opens : (w.want o.carrier .reopen).CoherentBut fun _ => False :=
    h.want (by simp [RadioCommand.fitsWanted, hs]) nofun
  unfold Cluster.shedReply
  split
  · split
    · exact opens
    · split
      · exact h.want (by simp [RadioCommand.fitsWanted, hs]) nofun
      · exact .shedAgain h p
  · split
    · exact opens
    · exact .shedAgain h p
  · exact h.fault _
  · exact h.fault _

/-! ## LOWER and DARKEN -/

theorem EntryPhase.fits_draining_of_lowering {p : EntryPhase} (h : p.fits .lowering = true) : p.fits .draining = true := by
  cases p <;> first | rfl | cases h

/-- The asleep states and the ways between them are those of the same phases (R84). -/
theorem EntryPhase.fits_of_asleep {p : EntryPhase} {st st' : CarrierState} (hst : st = .deepening ∨ st = .warming)
    (hst' : st' = .light ∨ st' = .dark) (h : p.fits st = true) : p.fits st' = true := by
  rcases hst with rfl | rfl <;> rcases hst' with rfl | rfl <;> cases p <;> first | rfl | cases h

/-- A lowered entry fits LIGHT (R84, R87). -/
theorem Entry.fits_lowered (e : Entry) (settle : Nat) (h : e.phase.fits .lowering = true) :
    (e.lowered settle).phase.fits .light = true := by
  unfold Entry.lowered
  split
  · dsimp only
    split <;> rfl
  · cases hp : e.phase <;> simp_all [EntryPhase.fits, CarrierState.inSleepPath]

@[simp] theorem Entry.carrier_lowered (e : Entry) (settle : Nat) : (e.lowered settle).carrier = e.carrier := by
  unfold Entry.lowered
  split <;> rfl

theorem Entry.lowered_returning {e : Entry} (settle : Nat) (h : e.phase = .returning) :
    (e.lowered settle).phase = .returning := by
  simp [Entry.lowered, h]

/-- A carrier whose entry is RETURNING is found so after the entry has changed. -/
theorem Cluster.AgreeBut.isReturning_editEntry {X : Carrier → Prop} (h : w.AgreeBut X) {f : Entry → Entry}
    (carrier : ∀ e, (f e).carrier = e.carrier) (returning : ∀ e, e.phase = .returning → (f e).phase = .returning)
    (hr : w.isReturning c = true) : (w.editEntry c f).isReturning c = true := by
  obtain ⟨k, e, he, hc, hp⟩ := (h.isReturning_iff c).mp hr
  have := h.mem_editEntry_of_mem c f he
  rw [if_pos hc] at this
  exact ((h.editEntry carrier fun _ e _ _ => returning e).isReturning_iff c).mpr
    ⟨k, f e, this, (carrier e).trans hc, returning e hp⟩

theorem Cluster.CoherentBut.lowered (h : w.Freed c .lower) (p : Policy) :
    (w.lowered p c).CoherentBut fun _ => False := by
  have hs : (w.ctx c).state = .lowering := by simpa [RadioCommand.fitsSent] using h.fits
  have sleeps : (w.ctx c).sleeps = true := by simp [Context.sleeps, CarrierState.inSleepPath, hs]
  let u := w.editCtx c fun x => { x.enter .light with sleepsTonight := x.sleepsTonight + 1, lightRun := 0 }
  have h1 : u.AgreeBut fun _ => False := by
    refine h.coherent.toAgreeBut.setCtx ?_ (fun _ => rfl) (fun g => absurd h.bare g) ?_ ?_ ?_
    · rw [sleeps]
      simp [Context.sleeps, CarrierState.inSleepPath]
    · simp [h.unmarked]
    · exact fun y hy hc => absurd hc (Cluster.wantOf_eq_none_iff.mp h.unasked.1 y hy)
    · intro o ho hc
      have := Cluster.isOutstanding_iff.mpr ⟨o, ho, hc⟩
      rw [h.unasked.2] at this
      cases this
  have light : (u.ctx c).state = .light := by simp [u]
  have h2 : (u.editEntry c (Entry.lowered p.settle)).CoherentBut fun _ => False := by
    refine ⟨h1.editEntry (fun e => e.carrier_lowered _) fun _ e _ _ => e.lowered_returning _, fun k e he => ?_⟩
    rw [Cluster.ctx_editEntry]
    obtain ⟨e', he', rfl⟩ := (h1.mem_editEntry_iff c _).mp he
    have old := h.coherent.phases k e' he'
    split
    · next hc =>
      rw [hc, hs] at old
      rw [Entry.carrier_lowered, hc, light]
      exact e'.fits_lowered _ old
    · next hc =>
      rw [Cluster.ctx_editCtx_ne _ (Ne.symm hc)]
      exact old
  unfold Cluster.lowered
  dsimp only
  split
  · next hr =>
    refine h2.want_of 0 1 (by simp [RadioCommand.fitsWanted, light]) fun _ _ => ?_
    refine h1.isReturning_editEntry (fun e => e.carrier_lowered _) (fun e => e.lowered_returning _) ?_
    exact hr
  · have deep : ((u.editEntry c (Entry.lowered p.settle)).want c .darken).CoherentBut fun _ => False :=
      h2.want_of 0 1 (by simp [RadioCommand.fitsWanted, light]) nofun
    repeat' split
    all_goals first
      | exact deep
      | exact h2

theorem Cluster.CoherentBut.lowerReply {o : Outstanding} (h : w.Freed o.carrier .lower) (p : Policy) (r : Reply) :
    (w.lowerReply p o r).CoherentBut fun _ => False := by
  have hs : (w.ctx o.carrier).state = .lowering := by simpa [RadioCommand.fitsSent] using h.fits
  unfold Cluster.lowerReply
  split
  · exact .lowered h p
  · have h1 : (w.editCtx o.carrier (Context.enter .draining)).CoherentBut fun _ => False :=
      h.coherent.enterState h.unasked (by rw [hs]; rfl) rfl rfl rfl fun p hp => EntryPhase.fits_draining_of_lowering (hs ▸ hp)
    dsimp only
    split
    · exact h1.want_of 0 1 (by simp [RadioCommand.fitsWanted]) nofun
    · exact h1.turnBack_reopen (by simp) _
  · exact h.fault _
  · exact h.fault _

theorem Cluster.CoherentBut.darkenReply {o : Outstanding} (h : w.Freed o.carrier .darken) (r : Reply) :
    (w.darkenReply o r).CoherentBut fun _ => False := by
  have hs : (w.ctx o.carrier).state = .deepening := by simpa [RadioCommand.fitsSent] using h.fits
  have light : (w.editCtx o.carrier fun x => { x.enter .light with lightRun := 0, deepenDeclined := true }).CoherentBut
      fun _ => False :=
    h.coherent.enterState h.unasked (by rw [hs]; rfl) rfl rfl rfl fun p hp =>
      EntryPhase.fits_of_asleep (.inl rfl) (.inl rfl) (hs ▸ hp)
  have back : (let v := w.editCtx o.carrier fun x => { x.enter .light with lightRun := 0, deepenDeclined := true }
      if w.isReturning o.carrier then v.want o.carrier .raise else v).CoherentBut fun _ => False := by
    dsimp only
    split
    · next hr => exact light.want_of 0 1 (by simp [RadioCommand.fitsWanted]) fun _ _ => hr
    · exact light
  unfold Cluster.darkenReply
  dsimp only
  split
  · have dark : (w.editCtx o.carrier (Context.enter .dark)).CoherentBut fun _ => False :=
      h.coherent.enterState h.unasked (by rw [hs]; rfl) rfl rfl rfl fun p hp =>
        EntryPhase.fits_of_asleep (.inl rfl) (.inr rfl) (hs ▸ hp)
    have deep := dark.editEntry (c := o.carrier) (f := fun e => { e with depth := .dark }) (fun _ => rfl)
      (fun k e he hc => hc ▸ dark.phases k e he) fun _ _ _ _ hp => hp
    split
    · exact deep.want_of 0 1 (by simp [RadioCommand.fitsWanted]) nofun
    · exact deep
  · exact back
  · exact back
  · exact h.fault _

/-! ## WARM, RAISE, OPEN and QUERY -/

/-- A carrier on its way up from LIGHT has an entry that is RETURNING (R84). -/
theorem Cluster.CoherentBut.isReturning_of_raising (h : w.CoherentBut fun _ => False)
    (hs : (w.ctx c).state = .raising) : w.isReturning c = true := by
  have sleeps : (w.ctx c).sleeps = true := by simp [Context.sleeps, CarrierState.inSleepPath, hs]
  obtain ⟨k, hk⟩ := Option.isSome_iff_exists.mp ((h.holdsEntry_iff c).mpr ⟨id, sleeps⟩)
  obtain ⟨e, he, hc⟩ := Cluster.standsOn_iff.mp (Cluster.hostOf_some w hk)
  refine (h.isReturning_iff c).mpr ⟨k, e, he, hc, ?_⟩
  have := h.phases k e he
  rw [hc, hs] at this
  cases hp : e.phase <;> simp_all [EntryPhase.fits]

theorem Cluster.CoherentBut.busyRetry {o : Outstanding} (h : w.Freed o.carrier o.command)
    (hcmd : o.command = .warm ∨ o.command = .raise ∨ o.command = .reopen ∨ o.command = .query) (p : Policy) :
    (w.busyRetry p o).CoherentBut fun _ => False := by
  unfold Cluster.busyRetry
  split
  · let f : Context → Context := fun x =>
      if restingState o.command x.state = x.state then x else x.enter (restingState o.command x.state)
    -- A carrier that is back in a state of the way has left it by the command that was out.
    have rested {st : CarrierState} (hst : restingState o.command (w.ctx o.carrier).state = st)
        (ne : st ≠ (w.ctx o.carrier).state) : f (w.ctx o.carrier) = (w.ctx o.carrier).enter st := by
      dsimp only [f]
      rw [hst, if_neg ne]
    have stays (hst : restingState o.command (w.ctx o.carrier).state = (w.ctx o.carrier).state) :
        f (w.ctx o.carrier) = w.ctx o.carrier := if_pos hst
    have again (same : f (w.ctx o.carrier) = w.ctx o.carrier) (fits : o.command.fitsWanted (w.ctx o.carrier) = true)
        (nl : (w.ctx o.carrier).state ≠ .light) :
        ((w.editCtx o.carrier f).joinWant o.carrier o.command p.busyBackoff (o.attempt + 1)).CoherentBut
          fun _ => False := by
      have alike := Cluster.alike_editCtx w o.carrier f (by rw [same]) (by rw [same]) (by rw [same])
      refine (alike.coherentBut h.coherent).want_of _ _ ?_ fun _ hl => absurd (alike.state _ ▸ hl) nl
      rwa [RadioCommand.fitsWanted_congr (alike.state _) (alike.reserved _)]
    have fits := h.fits
    rcases hcmd with hc | hc | hc | hc
    · rcases (by simpa [hc, RadioCommand.fitsSent] using fits : (w.ctx o.carrier).state = .warming ∨
          (w.ctx o.carrier).state = .stray) with hs | hs
      · have e := rested (st := .dark) (by simp [restingState, hc, hs]) (by simp [hs])
        refine (h.coherent.enterState h.unasked (f := f) (by rw [hs]; rfl) (by rw [e]; rfl) (by rw [e]; rfl)
          (by rw [e]; rfl) fun p hp => e ▸ EntryPhase.fits_of_asleep (.inr rfl) (.inr rfl) (hs ▸ hp)).want_of _ _ ?_
          (by simp [hc])
        simp [hc, RadioCommand.fitsWanted, e]
      · exact again (stays (by simp [restingState, hc, hs])) (by simp [hc, RadioCommand.fitsWanted, hs]) (by simp [hs])
    · rcases (by simpa [hc, RadioCommand.fitsSent] using fits : (w.ctx o.carrier).state = .raising ∨
          (w.ctx o.carrier).state = .stray) with hs | hs
      · have e := rested (st := .light) (by simp [restingState, hc, hs]) (by simp [hs])
        refine (h.coherent.enterState h.unasked (f := f) (by rw [hs]; rfl) (by rw [e]; rfl) (by rw [e]; rfl)
          (by rw [e]; rfl) ?_).want_of _ _ ?_ fun _ _ => h.coherent.isReturning_of_raising hs
        · rw [e, hs]
          intro p hp
          cases p <;> simp_all [EntryPhase.fits, CarrierState.inSleepPath]
        · simp [hc, RadioCommand.fitsWanted, e]
      · exact again (stays (by simp [restingState, hc, hs])) (by simp [hc, RadioCommand.fitsWanted, hs]) (by simp [hs])
    · have hs : (w.ctx o.carrier).state = .draining := by simpa [hc, RadioCommand.fitsSent] using fits
      exact again (stays (by simp [restingState, hc])) (by simp [hc, RadioCommand.fitsWanted, hs]) (by simp [hs])
    · have hs : (w.ctx o.carrier).state = .unknown := by simpa [hc, RadioCommand.fitsSent] using fits
      exact again (stays (by simp [restingState, hc])) (by simp [hc, RadioCommand.fitsWanted, hs]) (by simp [hs])
  · exact h.fault _

theorem Cluster.CoherentBut.warmReply {o : Outstanding} (h : w.Freed o.carrier o.command) (hc : o.command = .warm)
    (p : Policy) (r : Reply) : (w.warmReply p o r).CoherentBut fun _ => False := by
  have hs : (w.ctx o.carrier).state = .warming ∨ (w.ctx o.carrier).state = .stray := by
    simpa [hc, RadioCommand.fitsSent] using h.fits
  unfold Cluster.warmReply
  dsimp only
  split
  · split
    · next stray =>
      exact ((Cluster.alike_editCtx w o.carrier _ rfl rfl rfl).coherentBut h.coherent).want_of 0 1
        (by simp [RadioCommand.fitsWanted, stray]) (by simp [stray])
    · next stray =>
      have warming := hs.resolve_right stray
      have light : (w.editCtx o.carrier fun x => { x.enter .light with lightRun := 0 }).CoherentBut fun _ => False :=
        h.coherent.enterState h.unasked (by rw [warming]; rfl) rfl rfl rfl fun p hp =>
          EntryPhase.fits_of_asleep (.inr rfl) (.inl rfl) (warming ▸ hp)
      split
      · next hr => exact light.want_of 0 1 (by simp [RadioCommand.fitsWanted]) fun _ _ => hr
      · exact light
  · exact .busyRetry h (.inl hc) p
  · exact h.fault _
  · exact h.fault _

theorem Cluster.CoherentBut.raiseReply {o : Outstanding} (h : w.Freed o.carrier o.command) (hc : o.command = .raise)
    (p : Policy) (r : Reply) : (w.raiseReply p o r).CoherentBut fun _ => False := by
  unfold Cluster.raiseReply
  split
  · exact h.back (fun _ => rfl) fun _ => rfl
  · exact .busyRetry h (.inr (.inl hc)) p
  · exact h.fault _
  · exact h.fault _

theorem Cluster.CoherentBut.openReply {o : Outstanding} (h : w.Freed o.carrier o.command) (hc : o.command = .reopen)
    (p : Policy) (r : Reply) : (w.openReply p o r).CoherentBut fun _ => False := by
  unfold Cluster.openReply
  split
  · exact h.back (fun _ => rfl) fun _ => rfl
  · exact .busyRetry h (.inr (.inr (.inl hc))) p
  · exact h.fault _
  · exact h.fault _

/-- The end of a query leaves a carrier freed. -/
theorem Cluster.Freed.endQuery {command : RadioCommand} (h : w.Freed c command) (answered : Bool) :
    (w.endQuery c answered).Freed c command := by
  have e := (Cluster.endQuery_spec w c answered).1
  refine ⟨(Cluster.alike_endQuery w c answered).coherentBut h.coherent, ?_, by simpa using h.fits⟩
  rw [e]
  exact h.unasked

theorem Cluster.CoherentBut.queryReply {o : Outstanding} (h : w.Freed o.carrier o.command) (hc : o.command = .query)
    (p : Policy) (r : Reply) : (w.queryReply p o r).CoherentBut fun _ => False := by
  have g := h.endQuery true
  have hs : (w.ctx o.carrier).state = .unknown := by simpa [hc, RadioCommand.fitsSent] using h.fits
  have old : (((w.endQuery o.carrier true).ctx o.carrier).sleeps) = false := by
    simp [Context.sleeps, CarrierState.inSleepPath, hs]
  have stray (step : StrayStep) {command : RadioCommand} (fits : command = .raise ∨ command = .warm) :
      (w.becomeStray o.carrier step command).CoherentBut fun _ => False := by
    refine (g.coherent.enterAwake (f := fun x => { x.enter .stray with strayStep := some step }) g.unasked old ?_
      (fun q => absurd g.bare q) ?_).want_of 0 1 ?_ ?_
    · simp [Context.sleeps, CarrierState.inSleepPath]
    · exact fun q => absurd q (by simpa using h.unmarked)
    · rcases fits with rfl | rfl <;> simp [RadioCommand.fitsWanted]
    · simp
  unfold Cluster.queryReply
  dsimp only
  split
  · split
    · refine g.coherent.enterAwake g.unasked old ?_ (fun q => absurd g.bare q) fun _ => rfl
      simp [Context.sleeps, CarrierState.inSleepPath, h.unmarked]
    · exact stray _ (.inl rfl)
    · exact stray _ (.inr rfl)
    · exact h.fault _
  · exact .busyRetry h (.inr (.inr (.inr hc))) p
  · exact h.fault _
  · exact h.fault _

/-- Every reply keeps coherence (R139). -/
theorem Cluster.CoherentBut.takeReply (h : w.CoherentBut fun _ => False) (p : Policy) (i : Site) (r : Reply) :
    (w.takeReply p i r).CoherentBut fun _ => False := by
  unfold Cluster.takeReply
  split
  · next o ho =>
    have freed := Cluster.freed_retire h ho
    unfold Cluster.handleReply
    split
    · next hc => exact .gateReply (hc ▸ freed) r
    · next hc => exact .shedReply (hc ▸ freed) p r
    · next hc => exact .lowerReply (hc ▸ freed) p r
    · next hc => exact .darkenReply (hc ▸ freed) r
    · next hc => exact .warmReply freed hc p r
    · next hc => exact .raiseReply freed hc p r
    · next hc => exact .openReply freed hc p r
    · next hc => exact .queryReply freed hc p r
  · exact h.retire i

/-- A timeout keeps coherence (R137). -/
theorem Cluster.CoherentBut.commandTimeout (h : w.CoherentBut fun _ => False) (i : Site) :
    (w.commandTimeout i).CoherentBut fun _ => False := by
  unfold Cluster.commandTimeout
  split
  · next o ho => exact (Cluster.freed_retire h ho).fault _
  · exact h.retire i

/-! ## Link events -/

theorem mem_carriersOf {i : Site} : c ∈ carriersOf i ↔ siteOf c = i := by
  simp [carriersOf, mem_carriers]

theorem Cluster.up_enterFaulted (w : Cluster) (c : Carrier) (cause : FaultCause) (i : Site) :
    ((w.enterFaulted c cause).channel i).up = (w.channel i).up := by
  simp [Cluster.enterFaulted, (Cluster.onlyCarriers_unwind ..).channel, (Cluster.onlyCarriers_removeEntry ..).channel,
    Cluster.up_abandon]

theorem Cluster.up_faultByLink (w : Cluster) (c : Carrier) (i : Site) :
    ((w.faultByLink c).channel i).up = (w.channel i).up := by
  unfold Cluster.faultByLink
  split
  · rfl
  · exact Cluster.up_enterFaulted ..

/-- The managed carriers of a site whose link is DOWN enter FAULTED one after the other. -/
theorem Cluster.CoherentBut.faultAll {i : Site} (cs : List Carrier) (hcs : ∀ c ∈ cs, siteOf c = i) :
    ∀ {w : Cluster}, (w.CoherentBut fun _ => False) → (w.channel i).up = false →
      (cs.foldl Cluster.faultByLink w).CoherentBut fun _ => False := by
  induction cs with
  | nil => exact fun h _ => h
  | cons c cs ih =>
    intro w h hu
    refine ih (fun d hd => hcs d (List.mem_cons_of_mem _ hd)) ?_ ((Cluster.up_faultByLink w c i).trans hu)
    unfold Cluster.faultByLink
    split
    · exact h
    · exact h.enterFaulted _ fun q => by rw [Cluster.Relinkable, hcs c List.mem_cons_self, hu] at q; cases q.2.2

theorem Cluster.alike_setChannel (w : Cluster) (i : Site) (x : Channel) : w.Alike (w.setChannel i x) :=
  Cluster.alike_of_tables rfl rfl rfl

theorem Cluster.CoherentBut.linkDown (h : w.CoherentBut fun _ => False) (i : Site) :
    (w.linkDown i).CoherentBut fun _ => False := by
  have h1 := (Cluster.alike_setChannel w i { w.channel i with up := false }).coherentBut h
  unfold Cluster.linkDown
  dsimp only
  refine .faultAll (i := i) (carriersOf i) (fun c hc => mem_carriersOf.mp hc) ?_ ?_
  · split
    · exact h1.retire i
    · exact h1
  · split
    · rw [Cluster.up_retire, Cluster.channel_setChannel_self]
    · rw [Cluster.channel_setChannel_self]

theorem Cluster.CoherentBut.relinkIfFree (h : w.CoherentBut fun _ => False) (c : Carrier) :
    (w.relinkIfFree c).CoherentBut fun _ => False := by
  unfold Cluster.relinkIfFree
  split
  · next g => exact h.relink g.1 g.2.2
  · exact h

theorem Cluster.CoherentBut.linkUp (h : w.CoherentBut fun _ => False) (i : Site) :
    (w.linkUp i).CoherentBut fun _ => False := by
  unfold Cluster.linkUp
  have h1 := (Cluster.alike_setChannel w i { w.channel i with up := true }).coherentBut h
  generalize w.setChannel i { w.channel i with up := true } = v at h1
  induction carriersOf i generalizing v with
  | nil => exact h1
  | cons c cs ih => exact ih _ (h1.relinkIfFree c)

end

end Sys2Proof.Machine
end

section
/-! The sleep test and the decision visit (section 6): what an admitting verdict says, and coherence kept. -/

namespace Sys2Proof.Machine

section
variable {w : Cluster}

/-! ## The verdicts -/

/-- The phases that permit a sleep, in the words of the statements (R109, R117). -/
theorem SleepMode.windowOk_iff (m : SleepMode) (ph : Option WindowPhase) :
    m.windowOk ph = true ↔ ph = some .opened ∨ (ph = some .shallow ∧ m ≠ .directed true) := by
  rcases ph with _ | ph
  · simp [SleepMode.windowOk]
  · cases ph <;> simp [SleepMode.windowOk]

/-- A cover is eligible under the conditions of R81. -/
theorem Cluster.coverRefusal_eq_none_iff (w : Cluster) (c k : Carrier) :
    w.coverRefusal c k = none ↔ (w.ctx k).cfg.present = true ∧ k ≠ c ∧ (w.ctx k).state = .serving ∧
      (w.ctx k).reserved = false ∧ w.holdsEntry k = false ∧ ((w.ctx k).cls = .fresh ∨ (w.ctx k).cls = .clipped) := by
  unfold Cluster.coverRefusal
  dsimp only
  split
  · simp [*]
  · split
    · simp [*]
    · split
      · next h => rcases h with h | h <;> simp [h]
      · next h =>
        rw [not_or, Classical.not_not, Bool.not_eq_true] at h
        split
        · simp [*]
        · cases hc : (w.ctx k).cls <;> simp_all [LoadClass.trusted]

/-- The ceiling is kept exactly where the projection of a trusted cover is at most it (R59). -/
theorem ceilingComparison_iff {x : Context} (es : List Entry) (a : Nat) (h : x.cls = .fresh ∨ x.cls = .clipped) :
    (ceilingComparison x es a = .below ∨ ceilingComparison x es a = .atLimit) ↔
      projection x es a ≤ 16 * x.cfg.absorbLimit := by
  unfold ceilingComparison compareLoad
  rcases h with h | h
  all_goals
    simp only [h, compareOrdered]
    split
    · simp
      omega
    · split
      · simp
        omega
      · simp
        omega

/-- A cover takes the candidate under conditions 10 to 12 (R111). -/
theorem Cluster.coverVerdict_admitted {c k cover : Carrier} {a : Nat} (h : w.coverVerdict c cover = .admitted k a) :
    cover = k ∧ w.coverRefusal c k = none ∧ a = absorbedLoad (w.ctx c) (w.ctx k) ∧
      projection (w.ctx k) (w.stack k) (absorbedLoad (w.ctx c) (w.ctx k)) ≤ 16 * (w.ctx k).cfg.absorbLimit ∧
        (w.stack k).length < 8 := by
  unfold Cluster.coverVerdict at h
  split at h
  · cases h
  · cases h
  · next free =>
    obtain ⟨_, _, _, _, _, trusted⟩ := (Cluster.coverRefusal_eq_none_iff w c cover).mp free
    have ceiling := ceilingComparison_iff (w.stack cover) (absorbedLoad (w.ctx c) (w.ctx cover)) trusted
    dsimp only at h
    split at h
    · cases h
    · cases h
    all_goals
      next hc =>
      split at h
      · cases h
      · next hl =>
        cases h
        exact ⟨rfl, free, rfl, ceiling.mp (by simp [hc]), by simpa [stackCapacity] using hl⟩

/-- A verdict admits under the twelve conditions alone (R108 to R111, R117). -/
theorem Cluster.admits_of_verdict {t : TestSetting} {m : SleepMode} {c k : Carrier} {a : Nat}
    (h : w.sleepVerdict t m c = .admitted k a) :
    w.Admits t m c k ∧ a = absorbedLoad (w.ctx c) (w.ctx k) := by
  unfold Cluster.sleepVerdict at h
  dsimp only at h
  split at h
  · cases h
  next window =>
  split at h
  · cases h
  next failsafe =>
  split at h
  · cases h
  next resleep =>
  split at h
  · cases h
  next budget =>
  split at h
  · cases h
  next cover hcover =>
  split at h
  · cases h
  next users =>
  split at h
  · cases h
  · cases h
  · cases h
  next below =>
  split at h
  · cases h
  next dwell =>
  obtain ⟨rfl, free, ha, ceiling, room⟩ := Cluster.coverVerdict_admitted h
  obtain ⟨present, other, serving, unmarked, entry, trusted⟩ := (Cluster.coverRefusal_eq_none_iff w c cover).mp free
  have fresh : (w.ctx c).cls = .fresh ∧ (w.ctx c).load < 16 * (w.ctx c).cfg.sleepLimit := by
    unfold sleepComparison at below
    cases hc : (w.ctx c).cls <;> simp [hc, compareLoad] at below
    refine ⟨rfl, ?_⟩
    unfold compareOrdered at below
    split at below
    · assumption
    · split at below <;> cases below
  refine ⟨⟨(m.windowOk_iff _).mp (by simpa using window), by simpa using failsafe, by omega, by omega, hcover, by omega,
    fresh.1, fresh.2, fun hm => ?_, present, other, serving, unmarked, entry, trusted, ceiling, room⟩, ha⟩
  have late : ¬bump 255 (w.ctx c).sleepCount < (w.ctx c).cfg.sleepDwell := fun g => dwell ⟨hm, g⟩
  unfold bump at late
  omega

/-- Where the twelve conditions hold the verdict admits. -/
theorem Cluster.verdict_of_admits {t : TestSetting} {m : SleepMode} {c k : Carrier} (h : w.Admits t m c k) :
    w.sleepVerdict t m c = .admitted k (absorbedLoad (w.ctx c) (w.ctx k)) := by
  obtain ⟨window, failsafe, resleep, budget, cover, users, fresh, load, dwell, present, other, serving, unmarked, entry,
    trusted, ceiling, room⟩ := h
  have free := (Cluster.coverRefusal_eq_none_iff w c k).mpr ⟨present, other, serving, unmarked, entry, trusted⟩
  have below : sleepComparison (w.ctx c) = .below := by
    simp [sleepComparison, fresh, compareLoad, compareOrdered, load]
  have full : ¬stackCapacity ≤ (w.stack k).length := by simpa [stackCapacity] using room
  have late : ¬(m = .pass ∧ bump 255 (w.ctx c).sleepCount < (w.ctx c).cfg.sleepDwell) := fun ⟨hm, g⟩ => by
    have := dwell hm
    unfold bump at g
    omega
  unfold Cluster.sleepVerdict
  dsimp only
  rw [if_neg (by rw [Bool.not_eq_false]; exact (m.windowOk_iff _).mpr window), if_neg (by simp [failsafe]),
    if_neg (by omega), if_neg (by omega)]
  simp only [cover, below]
  rw [if_neg (by omega), if_neg late]
  unfold Cluster.coverVerdict
  simp only [free]
  rcases (ceilingComparison_iff (w.stack k) _ trusted).mpr ceiling with g | g <;> simp [g, full]

/-! ## Coherence -/

/-- A SERVING carrier that nothing is asked of, its mark set, gains an entry on the stack of its cover (R85). -/
theorem Cluster.CoherentBut.push (h : w.CoherentBut fun _ => False) {c k : Carrier} {e : Entry} (hs : (w.ctx c).state = .serving)
    (hr : (w.ctx c).reserved = false) (hc : (w.ctx c).cfg.cover = some k) (bare : w.stack c = []) (hkc : k ≠ c)
    (owner : (w.ctx k).Awake) (he : e.carrier = c) (hp : e.phase = .reserved) {x : Context} (xs : x.state = .serving)
    (xr : x.reserved = true) (xc : x.cfg.cover = some k) :
    ((w.setCtx c x).setStack k (w.stack k ++ [e])).CoherentBut fun _ => False := by
  have idle : (w.ctx c).sleeps = false := by simp [Context.sleeps, CarrierState.inSleepPath, hs, hr]
  have sleeps : x.sleeps = true := by simp [Context.sleeps, xs, xr]
  have free := h.no_entry idle
  have unwanted : ∀ i, ∀ y ∈ (w.lane i).queue, y.carrier ≠ c := fun i y hy g => by
    have := (h.wants i y hy id).1
    rw [g] at this
    cases hcmd : y.command <;> simp [RadioCommand.fitsWanted, hcmd, hs, hr] at this
  have unsent : ∀ i o, (w.lane i).outstanding = some o → o.carrier ≠ c := fun i o ho g => by
    have := h.sent i o ho id
    rw [g] at this
    cases hcmd : o.command <;> simp [RadioCommand.fitsSent, hcmd, hs] at this
  have ctx {d : Carrier} (hd : d ≠ c) : (w.setCtx c x).ctx d = w.ctx d := Cluster.ctx_setCtx_ne w (Ne.symm hd) x
  have mem {l : Carrier} {f : Entry} : f ∈ ((w.setCtx c x).setStack k (w.stack k ++ [e])).stack l ↔
      f ∈ w.stack l ∨ (f = e ∧ l = k) := by
    rw [Cluster.stack_setStack]
    split
    · next hl => subst hl; simp
    · next hl => simp [Ne.symm hl]
  have ret {d : Carrier} (hd : d ≠ c) (g : w.isReturning d = true) :
      ((w.setCtx c x).setStack k (w.stack k ++ [e])).isReturning d = true := by
    obtain ⟨l, f, hf, rfl, hfp⟩ := (h.isReturning_iff d).mp g
    have host : ((w.setCtx c x).setStack k (w.stack k ++ [e])).hostOf f.carrier = some l := by
      refine Cluster.hostOf_unique _ fun j => ⟨fun q => ?_, fun q => q ▸ Cluster.standsOn_of_mem (mem.mpr (.inl hf))⟩
      obtain ⟨f', hm, hfc⟩ := Cluster.standsOn_iff.mp q
      rcases mem.mp hm with hm | ⟨rfl, _⟩
      · exact (h.entry_unique hm hf hfc).1
      · exact absurd (hfc.symm.trans he) hd
    have find : (((w.setCtx c x).setStack k (w.stack k ++ [e])).stack l).find? (fun g => g.carrier == f.carrier) =
        some f := by
      have old : (w.stack l).find? (fun g => g.carrier == f.carrier) = some f := by
        have := h.entryOf_eq hf
        rwa [Cluster.entryOf, h.hostOf_eq hf] at this
      rw [Cluster.stack_setStack]
      split
      · next hl =>
        subst hl
        rw [List.find?_append, old]
        rfl
      · exact old
    simp [Cluster.isReturning, Cluster.entryOf, host, find, hfp]
  refine ⟨⟨h.lanes, fun l => ?_, fun d _ hd => ?_, fun d l => ?_, fun l _ hl => ?_, fun d _ hd => ?_, fun i y hy _ => ?_,
    fun i o ho _ => ?_⟩, fun l f hf => ?_⟩
  · rw [Cluster.stack_setStack]
    split
    · rw [List.map_append, List.nodup_append]
      refine ⟨h.nodup k, by simp, fun a ha b hb g => ?_⟩
      obtain ⟨f, hf, hfa⟩ := List.mem_map.mp ha
      have hbe : b = e.carrier := by simpa using hb
      exact free k f hf (by rw [hfa, g, hbe, he])
    · exact h.nodup l
  · rw [Cluster.ctx_setStack] at hd ⊢
    by_cases g : d = c
    · rw [g, Cluster.ctx_setCtx_self, xc]; rfl
    · rw [ctx g] at hd ⊢
      exact h.covered d id hd
  · rw [Cluster.standsOn_iff, Cluster.ctx_setStack]
    by_cases g : d = c
    · subst g
      rw [Cluster.ctx_setCtx_self, xc, Option.some.injEq]
      constructor
      · rintro ⟨f, hf, hfd⟩
        rcases mem.mp hf with hf | ⟨_, hl⟩
        · exact absurd hfd (free l f hf)
        · exact ⟨id, sleeps, hl.symm⟩
      · rintro ⟨_, _, rfl⟩
        exact ⟨e, mem.mpr (.inr ⟨rfl, rfl⟩), he⟩
    · rw [ctx g, ← h.stands, Cluster.standsOn_iff]
      refine exists_congr fun f => and_congr_left fun hfd => mem.trans (or_iff_left ?_)
      rintro ⟨rfl, _⟩
      exact g (hfd.symm.trans he)
  · rw [Cluster.ctx_setStack]
    by_cases g : l = c
    · subst g
      rw [Cluster.stack_setStack_ne _ hkc, Cluster.stack_setCtx] at hl
      exact absurd bare hl
    · rw [ctx g]
      by_cases hk : k = l
      · exact hk ▸ owner
      · rw [Cluster.stack_setStack_ne _ hk] at hl
        exact h.owners l id hl
  · rw [Cluster.ctx_setStack] at hd ⊢
    by_cases g : d = c
    · rw [g, Cluster.ctx_setCtx_self, xs]
    · rw [ctx g] at hd ⊢
      exact h.marks d id hd
  · have hy' := unwanted i y hy
    rw [Cluster.ctx_setStack, ctx hy']
    exact ⟨(h.wants i y hy id).1, fun a b => ret hy' ((h.wants i y hy id).2 a b)⟩
  · rw [Cluster.ctx_setStack, ctx (unsent i o ho)]
    exact h.sent i o ho id
  · rw [Cluster.ctx_setStack]
    rcases mem.mp hf with hf | ⟨rfl, _⟩
    · rw [ctx (free l f hf)]
      exact h.phases l f hf
    · rw [he, Cluster.ctx_setCtx_self, hp, xs]
      rfl

/-- A reservation under the conditions of the sleep test keeps coherence (R85, R113). -/
theorem Cluster.CoherentBut.reserve (h : w.CoherentBut fun _ => False) {c k : Carrier} (hs : (w.ctx c).state = .serving)
    (hr : (w.ctx c).reserved = false) (hc : (w.ctx c).cfg.cover = some k) (bare : w.stack c = []) (hkc : k ≠ c)
    (owner : (w.ctx k).Awake) (a : Nat) (r : Reason) (deepen : Bool) :
    (w.reserve c k a r deepen).CoherentBut fun _ => False := by
  let e : Entry := ⟨c, .reserved, a, .none, 0, r, deepen⟩
  have pushed := h.push (e := e) hs hr hc bare hkc owner rfl rfl (x := { w.ctx c with reserved := true }) hs rfl hc
  unfold Cluster.reserve
  refine Cluster.CoherentBut.want_of (Cluster.Alike.coherentBut ?_ pushed) 0 1 ?_ nofun
  · refine ⟨fun _ => rfl, fun _ => rfl, fun _ => rfl, fun d => ?_, fun d => ?_, fun d => ?_⟩ <;>
      simp only [Cluster.ctx_markDirty, Cluster.ctx_editCtx, Cluster.ctx_setStack, Cluster.ctx_setCtx]
    all_goals by_cases hd : c = d
    all_goals by_cases hk : k = d
    all_goals first
      | (subst hd; exact absurd hk hkc)
      | (subst hd; simp [hkc])
      | (subst hk; simp [hd])
      | simp [hd, hk]
  · simp [RadioCommand.fitsWanted, Cluster.ctx_markDirty, Cluster.ctx_editCtx, hkc, hs]

theorem Cluster.alike_markUnordered (w : Cluster) (c : Carrier) (strict : Bool) : w.Alike (w.markUnordered c strict) := by
  have g := Cluster.alike_editCtx w c (fun x => { x with unorderedNow := true }) rfl rfl rfl
  unfold Cluster.markUnordered
  dsimp only
  split
  · exact g.trans (Cluster.alike_notify _ _)
  · exact g

/-- A sleep test of a candidate keeps coherence, whatever its verdict. -/
theorem Cluster.CoherentBut.sleepTest (h : w.CoherentBut fun _ => False) (t : TestSetting) (m : SleepMode) {c : Carrier}
    (hs : (w.ctx c).state = .serving) (hr : (w.ctx c).reserved = false) (bare : w.stack c = []) :
    (w.sleepTest t m c).CoherentBut fun _ => False := by
  have refused (code : RefusalCode) (n : Nat) : w.Alike (w.editCtx c (Context.refuse m code n)) :=
    Cluster.alike_editCtx w c _ rfl rfl rfl
  have raised (code : RefusalCode) : w.Alike (w.editCtx c fun x => x.refuse m code (bump 255 x.sleepCount)) :=
    Cluster.alike_editCtx w c _ rfl rfl rfl
  unfold Cluster.sleepTest
  cases hv : w.sleepVerdict t m c with
  | refusedEarly code => exact (refused code 0).coherentBut h
  | unorderedLoad => exact ((refused _ _).trans (Cluster.alike_markUnordered ..)).coherentBut h
  | refusedLate code => exact (raised code).coherentBut h
  | unorderedCover cover => exact ((raised _).trans (Cluster.alike_markUnordered ..)).coherentBut h
  | stackFull cover => exact ((raised _).trans (Cluster.alike_editCtx _ cover _ rfl rfl rfl)).coherentBut h
  | admitted k a =>
    obtain ⟨_, _, _, _, hc, _, _, _, _, _, hkc, ks, kr, _⟩ := (Cluster.admits_of_verdict hv).1
    cases m
    · exact h.reserve hs hr hc bare hkc (.inl ⟨ks, kr⟩) a _ _
    · exact h.reserve hs hr hc bare hkc (.inl ⟨ks, kr⟩) a _ _

theorem Cluster.alike_countWake (w : Cluster) (k : Carrier) (strict : Bool) : w.Alike (w.countWake k strict) := by
  unfold Cluster.countWake
  split
  · exact Cluster.alike_editCtx w k _ rfl rfl rfl
  · exact (Cluster.alike_editCtx w k _ rfl rfl rfl).trans (Cluster.alike_markUnordered ..)
  all_goals exact Cluster.alike_editCtx w k _ rfl rfl rfl

theorem Cluster.CoherentBut.wakePop {X : Carrier → Prop} (h : w.CoherentBut X) (k : Carrier) : (w.wakePop k).CoherentBut X := by
  unfold Cluster.wakePop
  split
  · exact (Cluster.alike_editCtx _ k _ rfl rfl rfl).coherentBut (h.wakeRequest _ _)
  · exact h

theorem Cluster.CoherentBut.wakeTest {X : Carrier → Prop} (h : w.CoherentBut X) (k : Carrier) (strict : Bool) :
    (w.wakeTest k strict).CoherentBut X := by
  have g := (Cluster.alike_countWake w k strict).coherentBut h
  unfold Cluster.wakeTest
  dsimp only
  split
  · exact g.wakePop k
  · exact g

theorem Cluster.CoherentBut.deepenTest {X : Carrier → Prop} (h : w.CoherentBut X) (t : TestSetting) {c : Carrier}
    (hs : (w.ctx c).state = .light) : (w.deepenTest t c).CoherentBut X := by
  unfold Cluster.deepenTest
  dsimp only
  split
  · split
    · exact h.want_of 0 1 (by simp [RadioCommand.fitsWanted, hs]) nofun
    · exact h
  · split
    · exact h.dropWant c
    · exact h

/-- One decision pass counted for an entry keeps what fits it. -/
theorem Entry.fits_ageSettle (settle : Nat) (e : Entry) (st : CarrierState) (h : e.phase.fits st = true) :
    (e.ageSettle settle).phase.fits st = true := by
  unfold Entry.ageSettle
  split
  · next hp =>
    rw [hp] at h
    dsimp only
    split <;> exact h
  · exact h

@[simp] theorem Entry.carrier_ageSettle (settle : Nat) (e : Entry) : (e.ageSettle settle).carrier = e.carrier := by
  unfold Entry.ageSettle
  split <;> rfl

theorem Entry.ageSettle_of_ne {settle : Nat} {e : Entry} (h : e.phase ≠ .settling) : e.ageSettle settle = e := by
  simp [Entry.ageSettle, h]

theorem Cluster.CoherentBut.ageSettling {X : Carrier → Prop} (h : w.CoherentBut X) (k : Carrier) (settle : Nat) :
    (w.ageSettling k settle).CoherentBut X :=
  h.mapStack (fun e => e.carrier_ageSettle settle) (fun e st => e.fits_ageSettle settle st) fun e he => by
    rw [Entry.ageSettle_of_ne (by simp [he]), he]

/-- A decision visit keeps coherence (R102). -/
theorem Cluster.CoherentBut.passVisit (h : w.CoherentBut fun _ => False) (t : TestSetting) (c : Carrier) :
    (w.passVisit t c).CoherentBut fun _ => False := by
  unfold Cluster.passVisit
  split
  rotate_left
  · exact h
  unfold Cluster.visit
  dsimp only
  have aged : (if (w.stack c).isEmpty = true then w else w.ageSettling c t.policy.settle).CoherentBut fun _ => False := by
    split
    · exact h
    · exact h.ageSettling c _
  generalize (if (w.stack c).isEmpty = true then w else w.ageSettling c t.policy.settle) = v at aged
  split
  · next hs =>
    split
    · exact aged.wakeTest c _
    · next bare =>
      split
      · exact aged
      · next hr =>
        split
        · exact aged.sleepTest t .pass hs (by simpa using hr) (by simpa using bare)
        · exact (Cluster.alike_editCtx v c _ rfl rfl rfl).coherentBut aged
  · next hs => exact aged.deepenTest t hs
  · exact aged

end

end Sys2Proof.Machine
end

section
/-! Coherence kept by the night windows, the directives' actions on one carrier, the rows of carriers, start-up and HALT
(sections 2.1, 9.4, 10 and 11). -/

namespace Sys2Proof.Machine

section
variable {w : Cluster} {X : Carrier → Prop}

/-! ## Night windows -/

theorem Cluster.alike_openEffects (w : Cluster) (n : WindowNo) : w.Alike (w.openEffects n) := by
  refine Cluster.alike_editAll w _ (fun x => ?_) (fun x => ?_) (fun x => ?_) <;> split <;> rfl

theorem Cluster.alike_countDown (w : Cluster) : w.Alike (w.editAll Context.countDown) := by
  refine Cluster.alike_editAll w _ (fun x => ?_) (fun x => ?_) (fun x => ?_) <;> unfold Context.countDown <;> split <;> rfl

theorem Cluster.alike_account (w : Cluster) : w.Alike (w.editAll Context.account) := by
  refine Cluster.alike_editAll w _ (fun x => ?_) (fun x => ?_) (fun x => ?_) <;> unfold Context.account <;> split <;>
    first | rfl | (split <;> rfl)

theorem Cluster.state_deepStop (w : Cluster) (c d : Carrier) : ((w.deepStop c).ctx d).state = (w.ctx d).state := by
  simp only [Cluster.deepStop, Cluster.ctx_want, Cluster.state_markDirty, Cluster.ctx_editCtx, Cluster.ctx_editEntry]
  split
  · next h => subst h; rfl
  · rfl

theorem Cluster.CoherentBut.deepStop (h : w.CoherentBut X) {c : Carrier} (hs : (w.ctx c).state = .dark) :
    (w.deepStop c).CoherentBut X := by
  have entry := h.editEntry (c := c) (f := fun e => { e with reason := .deepStop }) (fun _ => rfl)
    (fun k e he hc => hc ▸ h.phases k e he) fun _ _ _ _ hp => hp
  unfold Cluster.deepStop
  refine ((Cluster.alike_editCtx _ c _ rfl rfl rfl).trans (Cluster.alike_markDirty _ c)).coherentBut entry
    |>.want_of 0 1 ?_ nofun
  simp [RadioCommand.fitsWanted, hs]

theorem Cluster.CoherentBut.deepStopAll {cs : List Carrier} :
    ∀ {w : Cluster}, w.CoherentBut X → (∀ c ∈ cs, (w.ctx c).state = .dark) → (cs.foldl Cluster.deepStop w).CoherentBut X := by
  induction cs with
  | nil => exact fun h _ => h
  | cons c cs ih =>
    intro w h hs
    refine ih (h.deepStop (hs c List.mem_cons_self)) fun d hd => ?_
    rw [Cluster.state_deepStop]
    exact hs d (List.mem_cons_of_mem _ hd)

theorem Cluster.state_of_mem_darkBound {n : WindowNo} {c : Carrier} (h : c ∈ w.darkBound n) : (w.ctx c).state = .dark := by
  have := (List.mem_filter.mp h).2
  simp only [Bool.and_eq_true, beq_iff_eq] at this
  exact this.1

theorem Cluster.CoherentBut.deepStopEffects (h : w.CoherentBut X) (n : WindowNo) : (w.deepStopEffects n).CoherentBut X :=
  h.deepStopAll fun _ => Cluster.state_of_mem_darkBound

theorem Cluster.CoherentBut.followUp (h : w.CoherentBut X) (n : WindowNo) : (w.followUp n).CoherentBut X :=
  h.deepStopAll fun _ hc => Cluster.state_of_mem_darkBound (List.mem_filter.mp hc).1

/-! ## The 100 ms tick -/

theorem Cluster.alike_hundredTick (w : Cluster) : w.Alike w.hundredTick := by
  refine ⟨fun _ => rfl, fun i => ?_, fun i => ?_, fun _ => rfl, fun _ => rfl, fun _ => rfl⟩
  · simp [Lane.tick, Function.comp_def]
  · simp [Lane.tick]

/-! ## Directives -/

/-- What every action on a carrier keeps, a walk keeps. -/
theorem DirectiveRun.walk_keeps {P : Cluster → Prop} {act : Cluster → Carrier → Cluster × Bool}
    (keeps : ∀ w c, P w → P (act w c).1) (n : Nat) (w : Cluster) (d : DirectiveRun) (h : P w) :
    P (DirectiveRun.walk act n w d).1 := by
  induction n generalizing w d with
  | zero => exact h
  | succ n ih =>
    unfold DirectiveRun.walk
    split
    · refine ih _ _ ?_
      unfold DirectiveRun.step
      split
      · exact keeps w _ h
      · exact h
    · exact h

theorem Cluster.CoherentBut.holdOnCarrier (minutes : Nat) (w : Cluster) (c : Carrier) (h : w.CoherentBut X) :
    (Machine.holdOnCarrier minutes w c).1.CoherentBut X := by
  unfold Machine.holdOnCarrier
  split
  · exact h
  · exact ((Cluster.alike_editCtx w c _ rfl rfl rfl).coherentBut h).wakeRequest c _

theorem Cluster.CoherentBut.releaseHoldCarrier (w : Cluster) (c : Carrier) (h : w.CoherentBut X) :
    (Machine.releaseHoldCarrier w c).1.CoherentBut X := by
  unfold Machine.releaseHoldCarrier
  split
  · exact h
  · exact (Cluster.alike_editCtx w c _ rfl rfl rfl).coherentBut h

theorem Cluster.sleepTestable_iff (w : Cluster) (c : Carrier) : w.sleepTestable c = true ↔ w.Testable c := by
  simp [Cluster.sleepTestable, Cluster.Testable, and_assoc]

theorem Cluster.CoherentBut.sleepNowCarrier (t : TestSetting) (dark : Bool) (w : Cluster) (c : Carrier)
    (h : w.CoherentBut fun _ => False) : (Machine.sleepNowCarrier t dark w c).1.CoherentBut fun _ => False := by
  unfold Machine.sleepNowCarrier
  split
  · next g =>
    obtain ⟨_, hs, hr, bare, _⟩ := (Cluster.sleepTestable_iff w c).mp g
    exact h.sleepTest t _ hs hr bare
  · exact h

theorem Cluster.idle_iff (w : Cluster) (c : Carrier) : w.idle c = true ↔ w.Unasked c := by
  simp [Cluster.idle, Cluster.Unasked]

/-- Nothing is asked of a FAULTED or UNMANAGED carrier (R28). -/
theorem Cluster.AgreeBut.unasked_of_state (h : w.AgreeBut X) {c : Carrier} (hX : ¬X c)
    (hs : (w.ctx c).state = .faulted ∨ (w.ctx c).state = .unmanaged) : w.Unasked c := by
  refine ⟨Cluster.wantOf_eq_none_iff.mpr fun y hy hc => ?_, ?_⟩
  · have := (h.wants _ y hy (hc ▸ hX)).1
    rw [hc] at this
    rcases hs with hs | hs <;> cases hcmd : y.command <;> simp [RadioCommand.fitsWanted, hcmd, hs] at this
  · refine Classical.byContradiction fun g => ?_
    obtain ⟨o, ho, hc⟩ := Cluster.isOutstanding_iff.mp (by simpa using g)
    have := h.sent _ o ho (hc ▸ hX)
    rw [hc] at this
    rcases hs with hs | hs <;> cases hcmd : o.command <;> simp [RadioCommand.fitsSent, hcmd, hs] at this

theorem Cluster.alike_editProbe (w : Cluster) (n : Slot) (f : ProbeRecord → ProbeRecord) : w.Alike (w.editProbe n f) :=
  Cluster.alike_of_tables rfl rfl rfl

theorem Cluster.alike_placeProbe (w : Cluster) (n : Slot) : w.Alike (w.placeProbe n) :=
  Cluster.alike_of_tables rfl rfl rfl

theorem Cluster.alike_endSelection (w : Cluster) (n : Slot) : w.Alike (w.endSelection n) :=
  Cluster.alike_of_tables rfl rfl rfl

/-- A carrier taken up by a PROBE (R30, R177): UNKNOWN, with a QUERY wanted. -/
theorem Cluster.CoherentBut.takeUp (h : w.CoherentBut fun _ => False) {c : Carrier} {f : Context → Context} (free : w.Unasked c)
    (old : (w.ctx c).sleeps = false) (bare : w.stack c = []) (unmarked : (w.ctx c).reserved = false)
    (hs : (f (w.ctx c)).state = .unknown) (hr : (f (w.ctx c)).reserved = (w.ctx c).reserved) :
    ((w.editCtx c f).want c .query).CoherentBut fun _ => False := by
  refine (h.enterAwake free old ?_ (fun g => absurd bare g) ?_).want_of 0 1 ?_ nofun
  · simp [Context.sleeps, CarrierState.inSleepPath, hs]
  · simp [hr, unmarked]
  · simp [RadioCommand.fitsWanted, hs]

theorem Cluster.CoherentBut.probeCarrier (n : Slot) (w : Cluster) (c : Carrier) (h : w.CoherentBut fun _ => False) :
    (Machine.probeCarrier n w c).1.CoherentBut fun _ => False := by
  unfold Machine.probeCarrier
  dsimp only
  split
  · next g =>
    obtain ⟨hs, hr, bare, idle⟩ := g
    refine (Cluster.alike_editProbe _ n _).coherentBut (h.takeUp ((w.idle_iff c).mp idle) ?_ bare hr rfl rfl)
    simp [Context.sleeps, CarrierState.inSleepPath, hs, hr]
  · split
    · exact ((Cluster.alike_editCtx w c _ rfl rfl rfl).trans (Cluster.alike_editProbe _ n _)).coherentBut h
    · split
      · next g =>
        obtain ⟨hs, bare⟩ := g
        refine (Cluster.alike_editProbe _ n _).coherentBut
          (h.takeUp (h.unasked_of_state id (.inl hs)) ?_ bare (h.unmarked id (by simp [hs])) rfl rfl)
        simp [Context.sleeps, CarrierState.inSleepPath, hs]
      · exact (Cluster.alike_editProbe w n _).coherentBut h

/-! ## Rows -/

/-- A carrier that may take a row does not sleep (R21). -/
theorem Cluster.rowApplicable_spec {c : Carrier} (h : w.rowApplicable c = true) :
    w.stack c = [] ∧ ((w.ctx c).state = .unmanaged ∨ (w.ctx c).state = .unknown ∨ (w.ctx c).state = .faulted ∨
      ((w.ctx c).state = .serving ∧ (w.ctx c).reserved = false)) := by
  unfold Cluster.rowApplicable at h
  rw [Bool.and_eq_true, List.isEmpty_iff] at h
  refine ⟨h.1, ?_⟩
  cases hs : (w.ctx c).state <;> simp_all

theorem Cluster.sleeps_of_rowApplicable {c : Carrier} (h : w.rowApplicable c = true) : (w.ctx c).sleeps = false := by
  rcases (Cluster.rowApplicable_spec h).2 with hs | hs | hs | ⟨hs, hr⟩ <;>
    simp [Context.sleeps, CarrierState.inSleepPath, *]

/-- A carrier becomes present out of UNMANAGED, or again while it is UNKNOWN (R21, R182). -/
theorem Cluster.CoherentBut.makePresent (h : w.CoherentBut fun _ => False) {c : Carrier} (bare : w.stack c = [])
    (hs : (w.ctx c).state = .unmanaged ∨ (w.ctx c).state = .unknown) (cfg : CarrierConfig) :
    (w.makePresent c cfg).CoherentBut fun _ => False := by
  unfold Cluster.makePresent
  refine Cluster.CoherentBut.want_of (h.setCtx_awake ?_ ?_ (fun g => absurd bare g) ?_ ?_ ?_) 0 1 ?_ nofun
  · rcases hs with hs | hs <;> simp [Context.sleeps, CarrierState.inSleepPath, hs]
  · simp [Context.sleeps, CarrierState.inSleepPath, Context.becomePresent]
  · simp [Context.becomePresent]
  · intro y hy hc
    have := (h.wants _ y hy id).1
    rw [hc] at this
    rcases hs with hs | hs <;> cases hcmd : y.command <;>
      simp [RadioCommand.fitsWanted, hcmd, hs, Context.becomePresent] at this ⊢
  · intro o ho hc
    have := h.sent _ o ho id
    rw [hc] at this
    rcases hs with hs | hs <;> cases hcmd : o.command <;>
      simp [RadioCommand.fitsSent, hcmd, hs, Context.becomePresent] at this ⊢
  · simp [RadioCommand.fitsWanted, Context.becomePresent]

theorem Cluster.stack_endQuery (w : Cluster) (c : Carrier) (answered : Bool) (k : Carrier) :
    (w.endQuery c answered).stack k = w.stack k := (Cluster.alike_endQuery w c answered).stack k

theorem Cluster.CoherentBut.makeUnmanaged (h : w.CoherentBut fun _ => False) {c : Carrier} (bare : w.stack c = [])
    (old : (w.ctx c).sleeps = false) : (w.makeUnmanaged c).CoherentBut fun _ => False := by
  unfold Cluster.makeUnmanaged
  refine (((Cluster.alike_endQuery w c false).coherentBut h).abandon c |>.dropWant c).setCtx_unasked
    (Cluster.unasked_abandon _ c) ?_ (fun g => absurd g ?_) (fun g => absurd ?_ g) ?_ fun k e he hc => ?_
  · simpa [Context.sleeps, CarrierState.inSleepPath, Context.becomeUnmanaged] using old
  · simp [Context.sleeps, CarrierState.inSleepPath, Context.becomeUnmanaged]
  · rw [Cluster.stack_dropWant, Cluster.stack_abandon, Cluster.stack_endQuery, bare]
  · simp [Context.becomeUnmanaged]
  · rw [Cluster.stack_dropWant, Cluster.stack_abandon, Cluster.stack_endQuery] at he
    exact absurd hc (h.no_entry old k e he)

/-- A row applied to a carrier that may take it keeps coherence (R21). -/
theorem Cluster.CoherentBut.applyRow (h : w.CoherentBut fun _ => False) {c : Carrier} (ok : w.rowApplicable c = true)
    (row : CarrierRow) : (w.applyRow c row).1.CoherentBut fun _ => False := by
  have bare := (Cluster.rowApplicable_spec ok).1
  have old := Cluster.sleeps_of_rowApplicable ok
  unfold Cluster.applyRow
  split
  · split
    · split
      · next hs => exact h.makePresent bare (.inl hs) _
      · refine h.setCtx_awake old old (fun g => absurd bare g) (h.marks c id) (fun y hy hc => ?_) fun o ho hc => ?_
        · exact (RadioCommand.fitsWanted_congr (by rfl) (by rfl) _).trans (hc ▸ (h.wants _ y hy id).1)
        · exact (RadioCommand.fitsSent_congr (by rfl) _).trans (hc ▸ h.sent _ o ho id)
    · exact h
  · split
    · exact h
    · exact h.makeUnmanaged bare old

/-! ## Start-up and HALT -/

/-- Every stack is empty and every lane idle and empty. -/
structure Cluster.Bare (w : Cluster) : Prop where
  stack : ∀ k : Carrier, w.stack k = []
  outstanding : ∀ i : Site, (w.lane i).outstanding = none
  queue : ∀ i : Site, (w.lane i).queue = []

/-- With nothing stacked or asked, carriers that do not sleep and bear no mark are coherent. -/
theorem Cluster.Bare.coherent (b : w.Bare) (idle : ∀ c, (w.ctx c).sleeps = false) (unmarked : ∀ c, (w.ctx c).reserved = false) :
    w.CoherentBut fun _ => False := by
  refine ⟨⟨fun i => ?_, fun k => by simp [b.stack], fun c _ g => ?_, fun c k => ?_, fun k _ g => absurd (b.stack k) g,
    fun c _ g => ?_, fun i x hx => ?_, fun i o ho => ?_⟩, fun k e he => ?_⟩
  · have : (w.lane i).carriers = [] := by simp [Lane.carriers, b.outstanding, b.queue]
    simp [Lane.Sound, this]
  · rw [idle] at g; cases g
  · simp [Cluster.standsOn, b.stack, idle]
  · rw [unmarked] at g; cases g
  · rw [b.queue] at hx; cases hx
  · rw [b.outstanding] at ho; cases ho
  · rw [b.stack] at he; cases he

theorem Cluster.CoherentBut.configureRows (rs : List (Carrier × CarrierRow)) :
    ∀ {w : Cluster}, (w.CoherentBut fun _ => False) → (∀ c, w.stack c = []) →
      (∀ c, (w.ctx c).state = .unmanaged ∨ (w.ctx c).state = .unknown) →
        (rs.foldl Cluster.configureRow w).CoherentBut fun _ => False := by
  induction rs with
  | nil => exact fun h _ _ => h
  | cons r rs ih =>
    intro w h bare hs
    refine ih ?_ (fun c => ?_) fun c => ?_ <;> unfold Cluster.configureRow <;> split
    · exact h.makePresent (bare _) (hs _) _
    · exact h
    · rw [Cluster.makePresent, Cluster.stack_want, Cluster.stack_setCtx, bare]
    · exact bare c
    · rw [Cluster.makePresent, Cluster.ctx_want, Cluster.ctx_setCtx]
      split
      · exact .inr rfl
      · exact hs c
    · exact hs c

/-- Start-up's configuring event over a cluster with nothing stacked or asked leaves it coherent (R182). -/
theorem Cluster.Bare.configure (b : w.Bare) (rows : List CarrierRow) : (w.configure rows).CoherentBut fun _ => False := by
  have halted (c : Carrier) : ({ w with contexts := w.contexts.map Context.atHalt } : Cluster).ctx c = (w.ctx c).atHalt := by
    simp [Cluster.ctx]
  have b' : ({ w with contexts := w.contexts.map Context.atHalt } : Cluster).Bare := ⟨b.stack, b.outstanding, b.queue⟩
  unfold Cluster.configure
  refine (Cluster.alike_markAllDirty _).coherentBut (.configureRows _ (b'.coherent ?_ ?_) b.stack ?_)
  · exact fun c => by rw [halted]; rfl
  · exact fun c => by rw [halted]; rfl
  · exact fun c => .inl (by rw [halted]; rfl)

@[simp] theorem Cluster.ctx_halt (w : Cluster) (c : Carrier) : w.halt.ctx c = (w.ctx c).atHalt := by
  simp [Cluster.halt, Cluster.ctx]

@[simp] theorem Cluster.stack_halt (w : Cluster) (c : Carrier) : w.halt.stack c = w.stack c := rfl

@[simp] theorem Cluster.lane_halt (w : Cluster) (i : Site) : w.halt.lane i = { w.lane i with joinCounter := 0 } := by
  simp [Cluster.halt, Cluster.lane]

/-- A cluster that is quiet enough for HALT has nothing stacked or asked, and HALT leaves it coherent (R187). -/
theorem Cluster.QuietForHalt.bare_halt (h : w.QuietForHalt) : w.halt.Bare :=
  ⟨fun k => (h.1 k).1, fun i => by rw [Cluster.lane_halt]; exact (h.2 i).1, fun i => by rw [Cluster.lane_halt]; exact (h.2 i).2⟩

theorem Cluster.QuietForHalt.coherent_halt (h : w.QuietForHalt) : w.halt.CoherentBut fun _ => False :=
  h.bare_halt.coherent (fun c => by rw [Cluster.ctx_halt]; rfl) fun c => by rw [Cluster.ctx_halt]; rfl

end

end Sys2Proof.Machine
end

section
/-! What the phases of a pass keep: coherence of the cluster, the run state out of HALTED, and no access in a decision pass
(sections 1.5, 1.6, 4 and 6). -/

namespace Sys2Proof.Machine

/-! ## Handing on without a carrier's part -/

/-- A pass hands on: what a pass works on may change, but no carrier's state, entry, want or command, and not the run state. -/
structure State.Hands (s t : State) : Prop where
  only : s.OnlyPass t
  alike : s.cluster.Alike t.cluster
  run : t.runState = s.runState

namespace State.Hands

theorem refl (s : State) : s.Hands s := ⟨.refl s, .refl _, rfl⟩

theorem trans {r s t : State} (h : r.Hands s) (g : s.Hands t) : r.Hands t :=
  ⟨h.only.trans g.only, h.alike.trans g.alike, g.run.trans h.run⟩

theorem after {r s t : State} (g : s.Hands t) (h : r.Hands s) : r.Hands t := h.trans g

/-- Nothing but the pass, the port, the retake slot, the access number and counts of the pass changes. -/
theorem of_cluster {s t : State} (only : s.OnlyPass t) (cluster : t.cluster = s.cluster) (run : t.runState = s.runState) :
    s.Hands t := ⟨only, cluster ▸ .refl _, run⟩

theorem on {s : State} {f : Cluster → Cluster} (h : s.cluster.Alike (f s.cluster)) : s.Hands (s.on f) := ⟨rfl, h, rfl⟩

end State.Hands

section
variable (s : State) (p : Pass)

theorem State.hands_enterPhase (ph : Phase) : s.Hands (s.enterPhase p ph) := .of_cluster rfl rfl rfl

theorem State.hands_read (b : BitVec 20) (offset length : Nat) (purpose : Purpose) :
    s.Hands (s.read b offset length purpose) := .of_cluster rfl rfl rfl

theorem State.hands_write (b : BitVec 20) (offset : Nat) (data : List Byte) (purpose : Purpose) :
    s.Hands (s.write b offset data purpose) := .of_cluster rfl rfl rfl

theorem State.hands_notify (n : Notice) : s.Hands (s.notify n) := .on (Cluster.alike_notify _ n)

theorem State.hands_outcomeLeaves (n : Slot) : s.Hands (s.on fun w => w.outcomeLeaves n) :=
  .on (Cluster.alike_of_tables rfl rfl rfl)

theorem State.hands_issueHeader (wrote : Bool) : s.Hands (s.issueHeader p wrote) := by
  unfold State.issueHeader
  cases wrote <;> exact .of_cluster rfl rfl rfl

theorem State.hands_nextOutcome (wrote : Bool) (todo : List Slot) : s.Hands (s.nextOutcome p wrote todo) := by
  cases todo with
  | nil => exact s.hands_issueHeader p wrote
  | cons n ns => exact .of_cluster rfl rfl rfl

theorem State.hands_writeRecords (wrote : Bool) (start : Nat) : s.Hands (s.writeRecords p wrote start) := by
  unfold State.writeRecords
  split
  · next c _ =>
    refine .after (State.hands_write ..) ((s.hands_enterPhase p _).trans (.on ?_))
    exact Cluster.alike_setCtx _ c _ rfl rfl rfl
  · exact s.hands_nextOutcome p wrote _

theorem State.hands_beginWriteBack : s.Hands (s.beginWriteBack p) := s.hands_writeRecords p false 0

theorem State.hands_remark : s.Hands (s.remark p) := by
  unfold State.remark
  split
  · exact .on (Cluster.alike_markAllDirty _)
  · exact .refl s

theorem State.hands_endPass (wrote : Bool) : s.Hands (s.endPass wrote) := by
  have h : s.Hands { (if wrote then s.notify .change else s) with pass := none } := by
    cases wrote
    · exact .of_cluster rfl rfl rfl
    · exact (s.hands_notify .change).trans (.of_cluster rfl rfl rfl)
  unfold State.endPass
  dsimp only
  split
  · exact h.trans (State.hands_read ..)
  · exact h

theorem State.hands_writeBackEffect (purpose : Purpose) (data : Option (List Byte)) :
    s.Hands (s.writeBackEffect purpose data) := by
  unfold State.writeBackEffect
  split
  · exact .on (Cluster.alike_setCtx _ _ _ rfl rfl rfl)
  · exact .on (Cluster.alike_markDirty ..)
  · repeat' split
    · exact .refl s
    · exact (s.hands_outcomeLeaves _).trans (State.hands_notify ..)
    · exact s.hands_outcomeLeaves _
    · exact .refl s
  · exact (s.hands_outcomeLeaves _).trans (State.hands_notify ..)
  · exact .refl s

theorem State.hands_writeBackNext (wrote : Bool) (todo : List Slot) (purpose : Purpose) (data : Option (List Byte)) :
    s.Hands (s.writeBackNext p wrote todo purpose data) := by
  unfold State.writeBackNext
  split
  · exact s.hands_writeRecords ..
  · repeat' split
    · exact s.hands_write ..
    · exact s.hands_nextOutcome ..
    · exact s.hands_nextOutcome ..
  · split
    · exact s.hands_write ..
    · exact s.hands_nextOutcome ..
  · exact (s.hands_remark p).trans (State.hands_endPass ..)
  · exact s.hands_nextOutcome ..

theorem State.hands_writeBackEnded (wrote : Bool) (todo : List Slot) (purpose : Purpose) (data : Option (List Byte)) :
    s.Hands (s.writeBackEnded p wrote todo purpose data) := by
  refine (s.hands_writeBackEffect purpose data).trans ?_
  unfold State.writeBackEnded
  dsimp only
  split
  · refine .after (State.hands_endPass ..) ?_
    split
    · exact .of_cluster rfl rfl rfl
    · exact .refl _
  · exact (State.hands_enterPhase ..).trans (State.hands_writeBackNext ..)

theorem State.hands_cutEnded (purpose : Purpose) (data : Option (List Byte)) : s.Hands (s.cutEnded purpose data) :=
  .after (State.hands_endPass _ _) (.of_cluster rfl rfl rfl)

theorem State.hands_intakeFrom (n : Nat) : s.Hands (s.intakeFrom p n) := by
  unfold State.intakeFrom
  split
  · exact .of_cluster rfl rfl rfl
  · unfold State.endIntake
    split
    · exact s.hands_beginWriteBack p
    · exact s.hands_enterPhase p _

theorem State.hands_failTaken (n : Slot) : s.Hands (s.failTaken p n) :=
  .after (State.hands_beginWriteBack _ p) (.of_cluster rfl rfl rfl)

theorem State.hands_readFields (n : Slot) : s.Hands (s.readFields p n) :=
  (s.hands_outcomeLeaves n).trans ((State.hands_enterPhase ..).trans (State.hands_read ..))

theorem State.hands_writeTaken (n : Slot) : s.Hands (s.writeTaken p n) :=
  (s.hands_outcomeLeaves n).trans ((State.hands_enterPhase ..).trans (State.hands_write ..))

theorem State.hands_slotStateRead (n : Slot) (v : Nat) : s.Hands (s.slotStateRead p n v) := by
  unfold State.slotStateRead
  split
  · exact s.hands_intakeFrom p _
  · split
    · exact s.hands_writeTaken p n
    · split
      · split
        · exact s.hands_readFields p n
        · exact .after (State.hands_intakeFrom _ p _) (.of_cluster rfl rfl rfl)
      · exact s.hands_intakeFrom p _

theorem State.hands_beginDirective (d : DirectiveRun) : s.Hands (s.beginDirective p d) := by
  unfold State.beginDirective
  dsimp only
  split
  · exact (s.hands_enterPhase p _).trans (State.hands_read ..)
  · exact s.hands_enterPhase p _

theorem State.hands_intakeEnded (run : Option DirectiveRun) (purpose : Purpose) (data : Option (List Byte)) :
    s.Hands (s.intakeEnded p run purpose data) := by
  unfold State.intakeEnded
  split
  · exact s.hands_slotStateRead ..
  · exact s.hands_readFields ..
  · exact s.hands_beginDirective ..
  · exact s.hands_read ..
  · exact s.hands_enterPhase ..
  · exact s.hands_enterPhase ..
  all_goals first
    | exact s.hands_failTaken ..
    | exact s.hands_beginWriteBack p

theorem State.hands_finishDirective (d : DirectiveRun) : s.Hands (s.finishDirective p d) :=
  .after (State.hands_intakeFrom ..) (.of_cluster rfl rfl rfl)

theorem State.hands_concludeDirective (d : DirectiveRun) (code : OutcomeCode) : s.Hands (s.concludeDirective p d code) :=
  .after (State.hands_finishDirective ..) (.on (Cluster.alike_of_tables rfl rfl rfl))

theorem State.hands_slotVisited (c : Carrier) (first second : Byte) (used users : Nat) :
    s.Hands (s.slotVisited c first second used users) := by
  have edit (r : State) (freshness : Nat) : r.Hands (r.on fun w => w.editCtx c
      (Context.visitSlot freshness first second used users)) := by
    refine .on (Cluster.alike_editCtx _ c _ ?_ ?_ ?_) <;>
      simp only [Context.visitSlot, Context.ageClass, Context.takeObservation, Context.applyObservation,
        Context.missObservation] <;> repeat' split
    all_goals rfl
  unfold State.slotVisited
  dsimp only
  split
  · exact edit s _
  · exact .after (edit _ _) (.of_cluster rfl rfl rfl)

theorem State.hands_leaveRunning : s.Hands s.leaveRunning := by
  unfold State.leaveRunning
  split
  · split
    · split
      · exact s.hands_beginWriteBack _
      · exact .of_cluster rfl rfl rfl
    · exact .refl s
  · exact .refl s

end

/-! ## Keeping coherence -/

/-- The cluster stays coherent, the run state does not become HALTED, and start-up is left. -/
structure State.Keeps (s t : State) : Prop where
  startup : t.startup = s.startup
  coherent : (s.cluster.CoherentBut fun _ => False) → t.cluster.CoherentBut fun _ => False
  awake : s.runState ≠ .halted → t.runState ≠ .halted

theorem State.Hands.keeps {s t : State} (h : s.Hands t) : s.Keeps t :=
  ⟨h.only.startup, h.alike.coherentBut, fun g => h.run ▸ g⟩

namespace State.Keeps

theorem trans {r s t : State} (h : r.Keeps s) (g : s.Keeps t) : r.Keeps t :=
  ⟨g.startup.trans h.startup, fun c => g.coherent (h.coherent c), fun a => g.awake (h.awake a)⟩

theorem after {r s t : State} (g : s.Keeps t) (h : r.Keeps s) : r.Keeps t := h.trans g

theorem on {s : State} {f : Cluster → Cluster}
    (h : (s.cluster.CoherentBut fun _ => False) → (f s.cluster).CoherentBut fun _ => False) : s.Keeps (s.on f) :=
  ⟨rfl, h, id⟩

end State.Keeps

theorem State.runState_testReleasingEnd (s : State) (h : s.runState ≠ .releasing) :
    s.testReleasingEnd.runState = s.runState := by
  rw [State.testReleasingEnd_eq]
  simp [h]

theorem State.awake_testReleasingEnd {s : State} (h : s.runState ≠ .halted) : s.testReleasingEnd.runState ≠ .halted := by
  rw [State.testReleasingEnd_eq]
  dsimp only
  split
  · simp
  · exact h

section
variable (s : State) (p : Pass)

theorem State.keeps_testReleasingEnd : s.Keeps s.testReleasingEnd :=
  ⟨s.startup_testReleasingEnd, fun h => by rwa [State.cluster_testReleasingEnd], State.awake_testReleasingEnd⟩

theorem State.keeps_starvationCheck (taken visited failed : Bool) : s.Keeps (s.starvationCheck taken visited failed) := by
  unfold State.starvationCheck
  split
  · exact ⟨rfl, id, id⟩
  · split
    · exact ⟨rfl, id, id⟩
    · dsimp only
      split
      · refine .after (State.keeps_testReleasingEnd _) (.after (.on fun h => h.unwindAll _) ?_)
        exact .after (State.hands_notify ..).keeps ⟨rfl, id, id⟩
      · exact ⟨rfl, id, id⟩

theorem State.keeps_endGather (taken visited failed : Bool) : s.Keeps (s.endGather p taken visited failed) := by
  refine (s.keeps_starvationCheck taken visited failed).trans ?_
  unfold State.endGather
  dsimp only
  split
  · exact (State.hands_beginWriteBack ..).keeps
  · exact (State.hands_intakeFrom ..).keeps

theorem State.keeps_gatherFrom (taken visited : Bool) (start : Nat) : s.Keeps (s.gatherFrom p taken visited start) := by
  unfold State.gatherFrom
  split
  · exact ((s.hands_enterPhase p _).trans (State.hands_read ..)).keeps
  · exact s.keeps_endGather ..

theorem State.keeps_gatherEnded (taken visited : Bool) (purpose : Purpose) (data : Option (List Byte)) :
    s.Keeps (s.gatherEnded p taken visited purpose data) := by
  unfold State.gatherEnded
  split
  · exact (s.hands_read ..).keeps
  · exact (s.hands_read ..).keeps
  · exact (s.hands_slotVisited ..).keeps.trans (State.keeps_gatherFrom ..)
  · exact s.keeps_endGather ..

theorem State.keeps_passEnded (purpose : Purpose) (data : Option (List Byte)) : s.Keeps (s.passEnded p purpose data) := by
  unfold State.passEnded
  split
  · exact (s.hands_writeBackEnded ..).keeps
  · split
    · exact (s.hands_cutEnded ..).keeps
    · exact s.keeps_gatherEnded ..
  · split
    · exact (s.hands_cutEnded ..).keeps
    · exact (s.hands_intakeEnded ..).keeps
  · exact (State.Hands.refl s).keeps

theorem State.keeps_visitNext (position : Nat) : s.Keeps (s.visitNext p position) := by
  unfold State.visitNext
  split
  · next h =>
    refine (State.Keeps.after (State.keeps_testReleasingEnd _)
      (.on fun g => g.passVisit s.setting ⟨position, h⟩)).trans ?_
    dsimp only
    split
    · exact (State.hands_enterPhase ..).keeps
    · exact (State.hands_beginWriteBack ..).keeps
  · exact (s.hands_beginWriteBack p).keeps

theorem State.keeps_walkDirective (d : DirectiveRun) (n : Nat) {act : Cluster → Carrier → Cluster × Bool}
    (keeps : ∀ w c, (w.CoherentBut fun _ => False) → (act w c).1.CoherentBut fun _ => False) :
    s.Keeps (s.walkDirective p d n act) := by
  have walked : s.Keeps (s.on fun _ => (DirectiveRun.walk act n s.cluster { d with begun := true }).1) :=
    .on fun h => DirectiveRun.walk_keeps (P := fun w => w.CoherentBut fun _ => False) keeps n _ _ h
  refine (walked.trans (State.keeps_testReleasingEnd _)).trans ?_
  · unfold State.walkDirective
    dsimp only
    split
    · exact (State.hands_concludeDirective ..).keeps
    · exact (State.hands_enterPhase ..).keeps

/-! ## No access in a decision pass -/

theorem State.passSound_of_none {t : State} (h : t.pass = none) : t.PassSound := by simp [State.PassSound, h]

theorem State.passSound_of_port {t : State} (h : t.port = none) : t.PassSound := fun _ _ _ => h

theorem State.passSound_of_phase {t : State} {q : Pass} (h : t.pass = some q) (hq : q.phase.isDecision = false) :
    t.PassSound := by
  intro r hr g
  rw [h, Option.toList_some, List.mem_singleton] at hr
  rw [hr, hq] at g
  cases g

theorem State.passSound_issueHeader (wrote : Bool) : (s.issueHeader p wrote).PassSound := by
  cases wrote <;> exact State.passSound_of_phase rfl rfl

theorem State.passSound_nextOutcome (wrote : Bool) (todo : List Slot) : (s.nextOutcome p wrote todo).PassSound := by
  cases todo with
  | nil => exact s.passSound_issueHeader p wrote
  | cons n ns => exact State.passSound_of_phase rfl rfl

theorem State.passSound_writeRecords (wrote : Bool) (start : Nat) : (s.writeRecords p wrote start).PassSound := by
  unfold State.writeRecords
  split
  · exact State.passSound_of_phase rfl rfl
  · exact s.passSound_nextOutcome p wrote _

theorem State.passSound_beginWriteBack : (s.beginWriteBack p).PassSound := s.passSound_writeRecords p false 0

@[simp] theorem State.pass_endPass (wrote : Bool) : (s.endPass wrote).pass = none := by
  unfold State.endPass
  dsimp only
  split <;> rfl

theorem State.passSound_endPass (wrote : Bool) : (s.endPass wrote).PassSound := State.passSound_of_none (s.pass_endPass wrote)

theorem State.passSound_writeBackNext {ph : Phase} (hph : ph.isDecision = false) (wrote : Bool) (todo : List Slot)
    (purpose : Purpose) (data : Option (List Byte)) :
    ((s.enterPhase p ph).writeBackNext p wrote todo purpose data).PassSound := by
  have written (offset : Nat) (data : List Byte) (purpose : Purpose) :
      ((s.enterPhase p ph).write p.base offset data purpose).PassSound := State.passSound_of_phase rfl hph
  unfold State.writeBackNext
  split
  · exact State.passSound_writeRecords _ p wrote _
  · repeat' split
    · exact written _ _ _
    · exact State.passSound_nextOutcome _ p wrote _
    · exact State.passSound_nextOutcome _ p wrote _
  · split
    · exact written _ _ _
    · exact State.passSound_nextOutcome _ p wrote _
  · exact State.passSound_endPass _ wrote
  · exact State.passSound_nextOutcome _ p wrote _

theorem State.passSound_writeBackEnded (wrote : Bool) (todo : List Slot) (purpose : Purpose) (data : Option (List Byte)) :
    (s.writeBackEnded p wrote todo purpose data).PassSound := by
  unfold State.writeBackEnded
  dsimp only
  split
  · exact State.passSound_endPass _ _
  · exact State.passSound_writeBackNext _ p rfl _ todo purpose data

variable {s}

theorem State.passSound_intakeFrom (h : s.port = none) (n : Nat) : (s.intakeFrom p n).PassSound := by
  unfold State.intakeFrom
  split
  · exact State.passSound_of_phase rfl rfl
  · unfold State.endIntake
    split
    · exact s.passSound_beginWriteBack p
    · exact State.passSound_of_port h

theorem State.passSound_slotStateRead (h : s.port = none) (n : Slot) (v : Nat) : (s.slotStateRead p n v).PassSound := by
  unfold State.slotStateRead
  split
  · exact State.passSound_intakeFrom p h _
  · split
    · exact State.passSound_of_phase rfl rfl
    · split
      · split
        · exact State.passSound_of_phase rfl rfl
        · exact State.passSound_intakeFrom (s := { s with retake := none }) p h _
      · exact State.passSound_intakeFrom p h _

theorem State.passSound_intakeEnded (h : s.port = none) (hp : s.pass = some p) (hd : p.phase.isDecision = false)
    (run : Option DirectiveRun) (purpose : Purpose) (data : Option (List Byte)) :
    (s.intakeEnded p run purpose data).PassSound := by
  unfold State.intakeEnded
  split
  · exact State.passSound_slotStateRead p h _ _
  · exact State.passSound_of_phase rfl rfl
  · unfold State.beginDirective
    dsimp only
    split
    · exact State.passSound_of_phase rfl rfl
    · exact State.passSound_of_phase rfl rfl
  · exact State.passSound_of_phase hp hd
  · exact State.passSound_of_phase rfl rfl
  · exact State.passSound_of_phase rfl rfl
  all_goals exact State.passSound_beginWriteBack _ p

theorem State.passSound_finishDirective (h : s.port = none) (d : DirectiveRun) : (s.finishDirective p d).PassSound := by
  refine State.passSound_intakeFrom p ?_ _
  exact h

theorem State.passSound_concludeDirective (h : s.port = none) (d : DirectiveRun) (code : OutcomeCode) :
    (s.concludeDirective p d code).PassSound := State.passSound_finishDirective (s := s.on _) p h d

theorem State.passSound_endGather (taken visited failed : Bool) : (s.endGather p taken visited failed).PassSound := by
  unfold State.endGather
  dsimp only
  split
  · exact State.passSound_beginWriteBack _ p
  · exact State.passSound_of_phase rfl rfl

theorem State.passSound_gatherFrom (taken visited : Bool) (start : Nat) : (s.gatherFrom p taken visited start).PassSound := by
  unfold State.gatherFrom
  split
  · exact State.passSound_of_phase rfl rfl
  · exact State.passSound_endGather p taken visited false

theorem State.passSound_passEnded (h : s.port = none) (hp : s.pass = some p) (purpose : Purpose)
    (data : Option (List Byte)) : (s.passEnded p purpose data).PassSound := by
  unfold State.passEnded
  split
  · exact s.passSound_writeBackEnded p _ _ purpose data
  · next taken visited hph =>
    have hd : p.phase.isDecision = false := by rw [hph]; rfl
    split
    · exact State.passSound_endPass _ false
    · unfold State.gatherEnded
      split
      · exact State.passSound_of_phase hp hd
      · exact State.passSound_of_phase hp hd
      · exact State.passSound_gatherFrom p _ visited _
      · exact State.passSound_endGather p taken visited true
  · next run hph =>
    split
    · exact State.passSound_endPass _ false
    · exact State.passSound_intakeEnded p h hp (by rw [hph]; rfl) run purpose data
  · exact State.passSound_of_port h

theorem State.passSound_visitNext (h : s.port = none) (position : Nat) : (s.visitNext p position).PassSound := by
  unfold State.visitNext
  split
  · dsimp only
    split
    · exact State.passSound_of_port ((State.port_testReleasingEnd _).trans h)
    · exact State.passSound_beginWriteBack _ p
  · exact s.passSound_beginWriteBack p

theorem State.passSound_walkDirective (h : s.port = none) (d : DirectiveRun) (n : Nat)
    (act : Cluster → Carrier → Cluster × Bool) : (s.walkDirective p d n act).PassSound := by
  unfold State.walkDirective
  dsimp only
  split
  · exact State.passSound_concludeDirective (s := (s.on _).testReleasingEnd) p ((State.port_testReleasingEnd _).trans h) _ _
  · exact State.passSound_of_port ((State.port_testReleasingEnd _).trans h)

end

end Sys2Proof.Machine
end

section
/-! Coherence kept by every command (sections 2.2, 2.3, 5.2, 7.1, 7.5 and 11.4). -/

namespace Sys2Proof.Machine

/-! ## The state's part of coherence -/

namespace State.Coherent

theorem tables {s : State} (h : s.Coherent) : s.cluster.CoherentBut fun _ => False := s.cluster.coherent_iff.mp h.1

theorem mk {s : State} (h : s.cluster.CoherentBut fun _ => False) (g : s.HaltedSound) (p : s.PassSound) : s.Coherent :=
  ⟨s.cluster.coherent_iff.mpr h, g, p⟩

/-- Out of HALTED no start-up is in progress (R181). -/
theorem no_startup {s : State} (h : s.Coherent) (awake : s.runState ≠ .halted) : s.startup = none := by
  refine Classical.byContradiction fun g => ?_
  exact awake (h.2.1.1 g)

/-- A directive that waits, or any pass without an access, tells that the part is not HALTED (R76). -/
theorem awake_of_pass {s : State} (h : s.Coherent) {p : Pass} (hp : s.pass = some p)
    (waits : s.port = none ∨ p.cut = false) : s.runState ≠ .halted := by
  intro g
  obtain ⟨cut, out⟩ := (h.2.1.2 g).2.2 p (by simp [hp])
  rcases waits with w | w
  · simp [w] at out
  · rw [w] at cut; cases cut

/-- The carriers of a HALTED part are UNMANAGED and nothing is stacked or asked (R186, R187). -/
theorem bare {s : State} (h : s.Coherent) (halted : s.runState = .halted) : s.cluster.Bare :=
  ⟨fun k => ((h.2.1.2 halted).1 k).2, fun i => ((h.2.1.2 halted).2.1 i).1, fun i => ((h.2.1.2 halted).2.1 i).2⟩

theorem unmanaged {s : State} (h : s.Coherent) (halted : s.runState = .halted) (c : Carrier) :
    (s.ctx c).state = .unmanaged := ((h.2.1.2 halted).1 c).1

/-- Out of HALTED a step that keeps the cluster coherent and its pass sound leaves a coherent state. -/
theorem of_keeps {s t : State} (h : s.Coherent) (awake : s.runState ≠ .halted) (k : s.Keeps t) (sound : t.PassSound) :
    t.Coherent :=
  .mk (k.coherent h.tables) ⟨fun g => absurd (k.startup.trans (h.no_startup awake)) g, fun g => absurd g (k.awake awake)⟩
    sound

/-- A change of the cluster alone, out of HALTED. -/
theorem of_on {s : State} (h : s.Coherent) {f : Cluster → Cluster} (awake : s.runState ≠ .halted)
    (k : (f s.cluster).CoherentBut fun _ => False) : (s.on f).Coherent :=
  h.of_keeps awake (.on fun _ => k) h.2.2

/-- What HALTED asks for, after a change that leaves states, entries, wants and commands. -/
theorem haltedSound_of_alike {s t : State} (h : s.Coherent) (alike : s.cluster.Alike t.cluster) (run : t.runState = s.runState)
    (startup : t.startup ≠ none → t.runState = .halted)
    (pass : s.runState = .halted → ∀ p ∈ t.pass.toList, p.cut = true ∧ t.port.isSome = true) : t.HaltedSound := by
  refine ⟨startup, fun halted => ?_⟩
  rw [run] at halted
  obtain ⟨idle, lanes, _⟩ := h.2.1.2 halted
  refine ⟨fun c => ⟨(alike.state c).trans (idle c).1, (alike.stack c).trans (idle c).2⟩, fun i => ⟨?_, ?_⟩, pass halted⟩
  · exact (alike.outstanding i).trans (lanes i).1
  · have := alike.queue i
    rwa [show (s.cluster.lane i).queue = [] from (lanes i).2, List.map_nil, List.map_eq_nil_iff] at this

/-- A change that touches neither states, entries, wants and commands nor run state, start-up, pass and port. -/
theorem of_same {s t : State} (h : s.Coherent) (alike : s.cluster.Alike t.cluster) (run : t.runState = s.runState)
    (startup : t.startup = s.startup) (pass : t.pass = s.pass) (port : t.port = s.port) : t.Coherent :=
  .mk (alike.coherentBut h.tables)
    (h.haltedSound_of_alike alike run (by rw [startup, run]; exact h.2.1.1)
      (by rw [pass, port]; exact fun g => (h.2.1.2 g).2.2))
    (by unfold State.PassSound; rw [pass, port]; exact h.2.2)

theorem testReleasingEnd {s : State} (h : s.Coherent) : s.testReleasingEnd.Coherent := by
  by_cases awake : s.runState = .halted
  · have : s.testReleasingEnd = s := by simp [State.testReleasingEnd, awake]
    rwa [this]
  · refine h.of_keeps awake s.keeps_testReleasingEnd ?_
    unfold State.PassSound
    rw [State.pass_testReleasingEnd, State.port_testReleasingEnd]
    exact h.2.2

end State.Coherent

/-! ## Power-on reset and the register port -/

theorem Cluster.bare_reset : Cluster.reset.Bare :=
  ⟨fun k => by simp [Cluster.reset, Cluster.stack], fun i => by simp [Cluster.reset, Cluster.lane],
    fun i => by simp [Cluster.reset, Cluster.lane]⟩

@[simp] theorem Cluster.ctx_reset (c : Carrier) : Cluster.reset.ctx c = {} := by simp [Cluster.reset, Cluster.ctx]

theorem State.coherent_reset : State.reset.Coherent := by
  have ctx (c : Carrier) : State.reset.cluster.ctx c = {} := Cluster.ctx_reset c
  refine .mk (Cluster.bare_reset.coherent (fun c => ?_) fun c => ?_) ⟨fun g => absurd rfl g, fun _ => ⟨fun c => ?_, fun i => ?_, ?_⟩⟩
    (State.passSound_of_none rfl)
  · rw [Cluster.ctx_reset]; rfl
  · rw [Cluster.ctx_reset]
  · exact ⟨congrArg Context.state (ctx c), Cluster.bare_reset.stack c⟩
  · exact ⟨Cluster.bare_reset.outstanding i, Cluster.bare_reset.queue i⟩
  · exact fun p hp => nomatch hp

namespace State.Coherent

variable {s : State}

theorem refuse (h : s.Coherent) : s.refuse.Coherent := h.of_same (.refl _) rfl rfl rfl rfl

theorem moveBase (h : s.Coherent) (v : Word) : (s.moveBase v).Coherent := by
  have moved {q : Pass} (hq : q ∈ (s.moveBase v).pass.toList) : ∃ p ∈ s.pass.toList, q = { p with moved := true } := by
    obtain ⟨p, hp, rfl⟩ := Option.map_eq_some_iff.mp (Option.mem_toList.mp hq)
    exact ⟨p, Option.mem_toList.mpr hp, rfl⟩
  refine .mk ((Cluster.alike_markAllDirty _).coherentBut h.tables)
    (h.haltedSound_of_alike (Cluster.alike_markAllDirty _) rfl h.2.1.1 fun g q hq => ?_) fun q hq => ?_
  · obtain ⟨p, hp, rfl⟩ := moved hq
    exact (h.2.1.2 g).2.2 p hp
  · obtain ⟨p, hp, rfl⟩ := moved hq
    exact h.2.2 p hp

/-! ## Run control -/

theorem beginStartup (h : s.Coherent) (halted : s.runState = .halted) : s.beginStartup.Coherent := by
  have base : ({ s with refused := false, startup := some { base := s.xbase, rows := [] } } : State).Coherent :=
    .mk h.tables (h.haltedSound_of_alike (.refl _) rfl (fun _ => halted) fun g => (h.2.1.2 g).2.2) h.2.2
  unfold State.beginStartup
  dsimp only
  split
  · next hp =>
    have none : s.pass = none := by
      cases hq : s.pass with
      | none => rfl
      | some p => exact absurd halted (h.awake_of_pass hq (.inl (Option.isNone_iff_eq_none.mp hp)))
    refine .mk h.tables (h.haltedSound_of_alike (.refl _) rfl (fun _ => halted) fun _ p hp => ?_) (State.passSound_of_none none)
    simp [none] at hp
  · exact base

theorem run (h : s.Coherent) {t : State} (ht : execRun s = .next t) : t.Coherent := by
  unfold execRun at ht
  cases ht
  split
  · next halted =>
    split
    · exact h.beginStartup halted
    · exact h.refuse
  · next holding => exact h.of_keeps (by simp [holding]) ⟨rfl, id, by simp⟩ h.2.2
  · exact h.refuse
  · exact h.refuse

theorem passSound_leaveRunning (h : s.PassSound) : s.leaveRunning.PassSound := by
  unfold State.leaveRunning
  split
  · next p hp =>
    split
    · split
      · exact s.passSound_beginWriteBack _
      · next nd =>
        refine State.passSound_of_phase rfl ?_
        cases hph : p.phase with
        | decision n => exact absurd hph (nd n)
        | intake run => cases run <;> rfl
        | gather => rfl
        | writeBack => rfl
    · exact h
  · exact h

theorem hold (h : s.Coherent) {t : State} (ht : execHold s = .next t) : t.Coherent := by
  unfold execHold at ht
  cases ht
  split
  · next running =>
    have k : s.Keeps { s with runState := .holding, refused := false }.clearPending := ⟨rfl, id, by simp [State.clearPending]⟩
    exact h.of_keeps (by simp [running]) (k.trans (State.hands_leaveRunning _).keeps)
      (passSound_leaveRunning h.2.2)
  all_goals exact h.refuse

theorem release (h : s.Coherent) {t : State} (ht : execRelease s = .next t) : t.Coherent := by
  have released (awake : s.runState ≠ .halted) : s.release.Coherent := by
    have started : s.Keeps { s with runState := .releasing, refused := false }.clearPending :=
      ⟨rfl, id, by simp [State.clearPending]⟩
    have unwound := started.trans (.on (f := fun w => w.unwindAll .release) fun h => h.unwindAll .release)
    have tested := unwound.trans (State.keeps_testReleasingEnd _)
    unfold State.release
    dsimp only
    generalize hu : State.on { s with runState := .releasing, refused := false }.clearPending (fun w => w.unwindAll .release) = u
      at unwound tested ⊢
    refine h.of_keeps awake (tested.trans (State.hands_leaveRunning _).keeps) (passSound_leaveRunning ?_)
    have same : u.pass = s.pass ∧ u.port = s.port := hu ▸ ⟨rfl, rfl⟩
    unfold State.PassSound
    rw [State.pass_testReleasingEnd, State.port_testReleasingEnd, same.1, same.2]
    exact h.2.2
  unfold execRelease at ht
  cases ht
  split
  · next g => exact released (by simp [g])
  · next g => exact released (by simp [g])
  all_goals exact h.refuse

theorem halt (h : s.Coherent) (quiet : s.cluster.QuietForHalt) : s.halt.Coherent := by
  have cluster : s.halt.cluster = s.cluster.halt := by
    unfold State.halt State.cutPass
    split
    · split <;> rfl
    · rfl
  have run : s.halt.startup = s.startup ∧ s.halt.runState = .halted := by
    unfold State.halt State.cutPass
    split
    · split <;> exact ⟨rfl, rfl⟩
    · exact ⟨rfl, rfl⟩
  have pass : s.halt.port = s.port ∧ ∀ q ∈ s.halt.pass.toList, s.port.isSome = true ∧ ∃ p ∈ s.pass.toList,
      q = { p with cut := true } := by
    unfold State.halt State.cutPass
    split
    · next p hp =>
      split
      · next out =>
        refine ⟨rfl, fun q hq => ⟨out, p, ?_, ?_⟩⟩
        · rw [show s.pass = some p from hp]; simp
        · simpa [eq_comm] using hq
      · exact ⟨rfl, fun q hq => nomatch hq⟩
    · next hp => exact ⟨rfl, fun q hq => by rw [hp] at hq; cases hq⟩
  refine .mk (cluster ▸ quiet.coherent_halt) ⟨fun _ => run.2, fun _ => ⟨fun c => ?_, fun i => ?_, fun q hq => ?_⟩⟩ fun q hq => ?_
  · rw [State.ctx, State.stack, cluster, Cluster.ctx_halt]
    exact ⟨rfl, quiet.bare_halt.stack c⟩
  · rw [State.lane, cluster]
    exact ⟨quiet.bare_halt.outstanding i, quiet.bare_halt.queue i⟩
  · obtain ⟨out, p, _, rfl⟩ := pass.2 q hq
    exact ⟨rfl, pass.1 ▸ out⟩
  · obtain ⟨_, p, hp, rfl⟩ := pass.2 q hq
    rw [pass.1]
    exact h.2.2 p hp

/-! ## The ends of accesses -/

/-- The cut pass of a HALTED part ends with its access (R76). -/
theorem cut_passEnded (h : s.Coherent) (halted : s.runState = .halted) {p : Pass} (hp : s.pass = some p) (u : State)
    (purpose : Purpose) (data : Option (List Byte)) :
    u.Hands (u.passEnded p purpose data) ∧ (u.passEnded p purpose data).pass = none := by
  obtain ⟨cut, out⟩ := (h.2.1.2 halted).2.2 p (by simp [hp])
  have active : p.phase.isDecision = false := by
    refine Classical.byContradiction fun g => ?_
    rw [h.2.2 p (by simp [hp]) (by simpa using g)] at out
    cases out
  unfold State.passEnded
  split
  · refine ⟨u.hands_writeBackEnded .., ?_⟩
    unfold State.writeBackEnded
    simp only [cut, if_true, State.pass_endPass]
  · rw [if_pos cut]
    exact ⟨u.hands_cutEnded .., State.pass_endPass ..⟩
  · rw [if_pos cut]
    exact ⟨u.hands_cutEnded .., State.pass_endPass ..⟩
  · next n hph => rw [hph] at active; cases active

end State.Coherent

/-- Windows that close over empty stacks leave the cluster (R162, R165). -/
theorem Cluster.Bare.closeEffects {w : Cluster} (b : w.Bare) (n : WindowNo) : w.closeEffects n = w := by
  have none : (w.bound n).filter (fun c => w.holdsEntry c) = [] :=
    List.filter_eq_nil_iff.mpr fun c _ => by
      rw [Bool.not_eq_true, Cluster.holdsEntry_eq_false_iff]
      exact fun k => by simp [Cluster.standsOn, b.stack]
  rw [Cluster.closeEffects, none]
  rfl

theorem State.settleWindow_bare {s : State} (b : s.cluster.Bare) (ws : Vector WindowEntry 8) (n : WindowNo) :
    (s.settleWindow ws n).cluster = s.cluster ∧ (s.settleWindow ws n).runState = s.runState ∧
      (s.settleWindow ws n).pass = s.pass := by
  unfold State.settleWindow
  dsimp only
  split
  · exact ⟨rfl, rfl, rfl⟩
  · split
    · exact ⟨b.closeEffects n, rfl, rfl⟩
    · exact ⟨rfl, rfl, rfl⟩

theorem State.applyWindows_bare {s : State} (b : s.cluster.Bare) (ws : Vector WindowEntry 8) (order : List WindowNo) :
    (s.applyWindows ws order).cluster = s.cluster ∧ (s.applyWindows ws order).runState = s.runState ∧
      (s.applyWindows ws order).pass = s.pass := by
  unfold State.applyWindows
  induction completeWindows order generalizing s with
  | nil => exact ⟨rfl, rfl, rfl⟩
  | cons n ns ih =>
    obtain ⟨cluster, run, pass⟩ := s.settleWindow_bare b ws n
    obtain ⟨cluster', run', pass'⟩ := ih (s := s.settleWindow ws n) (cluster ▸ b)
    exact ⟨cluster'.trans cluster, run'.trans run, pass'.trans pass⟩

namespace State.Coherent

variable {s : State}

/-- Start-up goes on or ends with its access, in HALTED (R182). -/
theorem startupEnded (h : s.Coherent) (halted : s.runState = .halted) (hp : s.pass = none) (u : Startup) (purpose : Purpose)
    (data : Option (List Byte)) : (s.startupEnded u purpose data).Coherent := by
  have goes {t : State} (cluster : t.cluster = s.cluster) (run : t.runState = s.runState) (pass : t.pass = s.pass) :
      t.Coherent :=
    .mk (cluster ▸ h.tables) (h.haltedSound_of_alike (cluster ▸ .refl _) run (fun _ => run.trans halted) fun _ q hq => by
      simp [pass, hp] at hq) (State.passSound_of_none (pass.trans hp))
  unfold State.startupEnded
  split
  · next b =>
    unfold State.startupRead
    split
    · exact goes rfl rfl rfl
    · next policy =>
      obtain ⟨hc, hr, hq⟩ := State.applyWindows_bare (s := { s with policy := policy }) (h.bare halted) (parseWindows b) windowNos
      exact goes ((State.cluster_read ..).trans hc) ((State.runState_read ..).trans hr) ((State.pass_read ..).trans hq)
    · dsimp only
      split
      · exact goes rfl rfl rfl
      · refine .mk ((h.bare halted).configure _) ⟨fun g => absurd rfl g, fun g => ?_⟩ (State.passSound_of_none hp)
        cases g
    · exact h
  · exact goes rfl rfl rfl

/-- The end of the outstanding access, which leaves the port free, keeps coherence (R5 to R8). -/
theorem accessEnded (h : s.Coherent) {u : State} (alike : s.cluster.Alike u.cluster) (run : u.runState = s.runState)
    (startup : u.startup = s.startup) (pass : u.pass = s.pass) (port : u.port = none) (purpose : Purpose)
    (data : Option (List Byte)) : (u.accessEnded purpose data).Coherent := by
  have coherent := alike.coherentBut h.tables
  unfold State.accessEnded
  split
  · next p hp =>
    by_cases halted : s.runState = .halted
    · obtain ⟨hands, ended⟩ := h.cut_passEnded halted (pass ▸ hp) u purpose data
      have same := hands.run.trans run
      refine .mk (hands.alike.coherentBut coherent) (h.haltedSound_of_alike (alike.trans hands.alike) same ?_ ?_)
        (State.passSound_of_none ended)
      · exact fun _ => same.trans halted
      · intro _ q hq
        simp [ended] at hq
    · have kept : s.Keeps u := ⟨startup, alike.coherentBut, fun g => run ▸ g⟩
      exact h.of_keeps halted (kept.trans (u.keeps_passEnded p purpose data))
        (State.passSound_passEnded p port hp purpose data)
  · next hp =>
    have free : u.Coherent := by
      refine .mk coherent (h.haltedSound_of_alike alike run ?_ ?_) (State.passSound_of_none hp)
      · rw [startup, run]; exact h.2.1.1
      · intro _ q hq
        simp [hp] at hq
    split
    · next v hv =>
      refine free.startupEnded (free.2.1.1 (by simp [hv])) hp v purpose data
    · exact free

theorem accessFailed (h : s.Coherent) (a : Access) : (s.accessFailed a).Coherent := by
  have alike : s.cluster.Alike ({ s with port := none }.countFailure).cluster := Cluster.alike_notify _ _
  have ended := h.accessEnded alike rfl rfl rfl rfl a.purpose none
  rw [State.accessFailed]
  exact ended

theorem accessCompleted (h : s.Coherent) (a : Access) (data : List Byte) : (s.accessCompleted a data).Coherent := by
  have ended := h.accessEnded (u := { s with port := none }) (.refl _) rfl rfl rfl rfl a.purpose (some data)
  rw [State.accessCompleted]
  exact ended

end State.Coherent

end Sys2Proof.Machine
end

section
/-! Coherence kept by every command, and by every step (sections 2.2, 2.3, 5.2, 7.1, 7.5 and 11.4). -/

namespace Sys2Proof.Machine

/-! ## What HALTED leaves to do -/

theorem Lane.choose_halted (l : Lane) : l.choose .halted = none := rfl

theorem Cluster.grantChoice_halted (w : Cluster) (i : Site) : w.grantChoice i .halted = none := by
  unfold Cluster.grantChoice
  split
  · exact Lane.choose_halted _
  · rfl

theorem Cluster.alike_retire_of_none (w : Cluster) {i : Site} (h : (w.lane i).outstanding = none) : w.Alike (w.retire i) := by
  refine ⟨fun k => ?_, fun j => ?_, fun j => ?_, fun c => ?_, fun c => ?_, fun c => ?_⟩
  · simp [Cluster.retire]
  · rw [Cluster.lane_retire]
    split
    · next g => subst g; rfl
    · rfl
  · rw [Cluster.lane_retire]
    split
    · next g => subst g; exact h.symm
    · rfl
  all_goals simp [Cluster.retire]

theorem Cluster.foldl_faultByLink_of_unmanaged (cs : List Carrier) {w : Cluster} (h : ∀ c, (w.ctx c).state = .unmanaged) :
    cs.foldl Cluster.faultByLink w = w := by
  induction cs with
  | nil => rfl
  | cons c cs ih => rwa [List.foldl_cons, Cluster.faultByLink, if_pos (h c)]

theorem Cluster.foldl_relinkIfFree_of_unmanaged (cs : List Carrier) {w : Cluster} (h : ∀ c, (w.ctx c).state = .unmanaged) :
    cs.foldl Cluster.relinkIfFree w = w := by
  induction cs with
  | nil => rfl
  | cons c cs ih => rwa [List.foldl_cons, Cluster.relinkIfFree, if_neg (by simp [h c])]

theorem Cluster.alike_linkDown_of_bare {w : Cluster} (bare : w.Bare) (h : ∀ c, (w.ctx c).state = .unmanaged) (i : Site) :
    w.Alike (w.linkDown i) := by
  have set := Cluster.alike_setChannel w i { w.channel i with up := false }
  unfold Cluster.linkDown
  dsimp only
  split
  · have retired := (w.setChannel i { w.channel i with up := false }).alike_retire_of_none (i := i)
      (by simp [bare.outstanding])
    rw [Cluster.foldl_faultByLink_of_unmanaged _ fun c => ((set.trans retired).state c).trans (h c)]
    exact set.trans retired
  · rw [Cluster.foldl_faultByLink_of_unmanaged _ fun c => (set.state c).trans (h c)]
    exact set

theorem Cluster.alike_linkUp_of_unmanaged {w : Cluster} (h : ∀ c, (w.ctx c).state = .unmanaged) (i : Site) :
    w.Alike (w.linkUp i) := by
  have set := Cluster.alike_setChannel w i { w.channel i with up := true }
  unfold Cluster.linkUp
  rw [Cluster.foldl_relinkIfFree_of_unmanaged _ fun c => (set.state c).trans (h c)]
  exact set

theorem Cluster.darkBound_of_unmanaged {w : Cluster} (h : ∀ c, (w.ctx c).state = .unmanaged) (n : WindowNo) :
    w.darkBound n = [] :=
  List.filter_eq_nil_iff.mpr fun c _ => by simp [h c]

/-! ## The windows of LOAD_POLICY, and the walk of LOAD_CARRIERS -/

theorem Cluster.CoherentBut.closeEffects {w : Cluster} (h : w.CoherentBut fun _ => False) (n : WindowNo) :
    (w.closeEffects n).CoherentBut fun _ => False := h.wakeAll _ _

theorem State.keeps_settleWindow (s : State) (ws : Vector WindowEntry 8) (n : WindowNo) : s.Keeps (s.settleWindow ws n) := by
  unfold State.settleWindow
  dsimp only
  split
  · exact ⟨rfl, id, id⟩
  · split
    · exact ⟨rfl, fun h => h.closeEffects n, id⟩
    · exact ⟨rfl, id, id⟩

theorem State.port_settleWindow (s : State) (ws : Vector WindowEntry 8) (n : WindowNo) :
    (s.settleWindow ws n).port = s.port := by
  unfold State.settleWindow
  dsimp only
  split
  · rfl
  · split <;> rfl

theorem State.keeps_applyWindows (s : State) (ws : Vector WindowEntry 8) (order : List WindowNo) :
    s.Keeps (s.applyWindows ws order) ∧ (s.applyWindows ws order).port = s.port := by
  unfold State.applyWindows
  induction completeWindows order generalizing s with
  | nil => exact ⟨(State.Hands.refl s).keeps, rfl⟩
  | cons n ns ih =>
    obtain ⟨keeps, port⟩ := ih (s.settleWindow ws n)
    exact ⟨(s.keeps_settleWindow ws n).trans keeps, port.trans (s.port_settleWindow ws n)⟩

theorem State.keeps_takeRow (s : State) (d : DirectiveRun) (c : Carrier) (row : CarrierRow) :
    s.Keeps (s.takeRow d c row).1 := by
  unfold State.takeRow
  split
  · next ok => exact .on (f := fun w => (w.applyRow c row).1) fun h => h.applyRow ok row
  · exact (State.Hands.refl s).keeps

theorem State.port_takeRow (s : State) (d : DirectiveRun) (c : Carrier) (row : CarrierRow) :
    (s.takeRow d c row).1.port = s.port := by
  unfold State.takeRow
  split <;> rfl

/-- A walk that has taken all carriers has no row outstanding (R172). -/
theorem State.keeps_walkRows (p : Pass) (n : Nat) (s : State) (d : DirectiveRun) :
    s.Keeps (State.walkRows p n s d).1 ∧
      (256 ≤ (State.walkRows p n s d).2.position → (State.walkRows p n s d).1.port = s.port) := by
  induction n generalizing s d with
  | zero => exact ⟨(State.Hands.refl s).keeps, fun _ => rfl⟩
  | succ n ih =>
    unfold State.walkRows
    split
    · next hpos =>
      dsimp only
      split
      · next row _ =>
        obtain ⟨keeps, port⟩ := ih (s.takeRow d ⟨d.position, hpos⟩ row).1 (s.takeRow d ⟨d.position, hpos⟩ row).2
        exact ⟨(s.keeps_takeRow ..).trans keeps, fun g => (port g).trans (s.port_takeRow ..)⟩
      · split
        · split
          · exact ⟨(s.hands_read ..).keeps, fun g => absurd g (by simpa using hpos)⟩
          · exact ih _ _
        · exact ih _ _
    · exact ⟨(State.Hands.refl s).keeps, fun _ => rfl⟩

/-! ## The commands -/

/-- The directive that waits stands in an intake that waits for no access (R168). -/
theorem State.directiveOf_spec {s : State} {k : Option DirectiveKind} {p : Pass} {d : DirectiveRun}
    (h : s.directiveOf k = some (p, d)) : s.pass = some p ∧ s.port = none ∧ p.phase = .intake (some d) ∧ d.kind = k := by
  obtain ⟨found, kind⟩ := Option.filter_eq_some_iff.mp h
  unfold State.directive at found
  split at found
  · next q hq hport =>
    split at found
    · next r hr =>
      cases found
      exact ⟨hq, hport, hr, by simpa using kind⟩
    · cases found
  · cases found

namespace State.Coherent

variable {s t : State}

/-- Tables that stay coherent out of HALTED, and stay as they are in HALTED, with the run state, the pass and the port kept. -/
theorem of_tables (h : s.Coherent) (awake : s.runState ≠ .halted → t.cluster.CoherentBut fun _ => False)
    (halted : s.runState = .halted → s.cluster.Alike t.cluster) (run : t.runState = s.runState) (startup : t.startup = s.startup)
    (pass : t.pass = s.pass) (port : t.port = s.port) : t.Coherent := by
  by_cases g : s.runState = .halted
  · exact h.of_same (halted g) run startup pass port
  · refine h.of_keeps g ⟨startup, fun _ => awake g, fun _ => run ▸ g⟩ ?_
    unfold State.PassSound
    rw [pass, port]
    exact h.2.2

/-- The cluster's part of a command, without effect on states, entries, wants and commands in HALTED. -/
theorem on_tables (h : s.Coherent) {f : Cluster → Cluster}
    (awake : s.runState ≠ .halted → (f s.cluster).CoherentBut fun _ => False)
    (halted : s.runState = .halted → s.cluster.Alike (f s.cluster)) : (s.on f).Coherent :=
  h.of_tables awake halted rfl rfl rfl rfl

/-! ### Memory, timer and sweep -/

theorem expire (h : s.Coherent) : s.expire.Coherent := by
  unfold State.expire
  dsimp only
  split
  · exact h
  · split <;> exact h.of_same (.refl _) rfl rfl rfl rfl
  all_goals
    next g =>
    split
    · exact h.of_same (.refl _) rfl rfl rfl rfl
    · exact h.of_keeps (by simp [g]) (.after (State.hands_beginWriteBack _ _).keeps ⟨rfl, id, id⟩)
        (State.passSound_beginWriteBack _ _)

theorem sweepBegin (h : s.Coherent) (ht : execSweepBegin s = .next t) : t.Coherent := by
  unfold execSweepBegin at ht
  cases ht
  split
  · next may =>
    have running : s.runState = .running := by simpa [State.sweepMayBegin] using (Bool.and_eq_true_iff.mp may).2
    exact h.of_keeps (by simp [running]) (.after (State.keeps_gatherFrom ..) ⟨rfl, id, id⟩) (State.passSound_gatherFrom _ _ _ _)
  · exact h

theorem decisionVisit (h : s.Coherent) (ht : execDecisionVisit s = .next t) : t.Coherent := by
  unfold execDecisionVisit at ht
  cases ht
  split
  · next p hp =>
    split
    · next position hph =>
      have port : s.port = none := h.2.2 p (by simp [hp]) (by rw [hph]; rfl)
      exact h.of_keeps (h.awake_of_pass hp (.inl port)) (s.keeps_visitNext p position) (State.passSound_visitNext p port position)
    · exact h
  · exact h

theorem memoryAccessComplete (h : s.Coherent) {n : Nat} {data : List Byte} (ht : execMemoryAccessComplete n data s = .next t) :
    t.Coherent := by
  unfold execMemoryAccessComplete at ht
  cases ht
  split
  · split
    · exact h.accessCompleted ..
    · exact h
  · exact h

theorem memoryAccessError (h : s.Coherent) {n : Nat} (ht : execMemoryAccessError n s = .next t) : t.Coherent := by
  unfold execMemoryAccessError at ht
  cases ht
  split
  · split
    · exact h.accessFailed _
    · exact h
  · exact h

theorem memoryAccessTimeout (h : s.Coherent) (ht : execMemoryAccessTimeout s = .next t) : t.Coherent := by
  unfold execMemoryAccessTimeout at ht
  cases ht
  split
  · exact h.accessFailed _
  · exact h

/-! ### Directives -/

/-- What the directive that waits does, out of HALTED and with the port free. -/
theorem of_directive (h : s.Coherent) {k : Option DirectiveKind} {p : Pass} {d : DirectiveRun}
    (hd : s.directiveOf k = some (p, d)) (keeps : s.Keeps t) (sound : s.port = none → t.PassSound) : t.Coherent := by
  obtain ⟨pass, port, _⟩ := State.directiveOf_spec hd
  exact h.of_keeps (h.awake_of_pass pass (.inl port)) keeps (sound port)

theorem loadPolicy (h : s.Coherent) {order : List WindowNo} (ht : execLoadPolicy order s = .next t) : t.Coherent := by
  unfold execLoadPolicy at ht
  cases ht
  split
  · next p d hd =>
    split
    · next policy windows _ =>
      obtain ⟨keeps, port⟩ := State.keeps_applyWindows { s with policy := policy, timer := s.timer.reloaded policy.reload }
        windows order
      have settled := keeps.after (r := s) ⟨rfl, id, id⟩
      refine h.of_directive hd (settled.trans ((State.keeps_testReleasingEnd _).trans
        (State.hands_concludeDirective ..).keeps)) fun free => ?_
      exact State.passSound_concludeDirective p ((State.port_testReleasingEnd _).trans (port.trans free)) d .ok
    · exact h
  · exact h

theorem loadCarriers (h : s.Coherent) {count : Nat} (ht : execLoadCarriers count s = .next t) : t.Coherent := by
  unfold execLoadCarriers at ht
  cases ht
  split
  · next p d hd =>
    obtain ⟨keeps, port⟩ := State.keeps_walkRows p count s { d with begun := true }
    have tested := keeps.trans (State.keeps_testReleasingEnd _)
    dsimp only
    split
    · next all =>
      exact h.of_directive hd (tested.trans (State.hands_concludeDirective ..).keeps) fun free =>
        State.passSound_concludeDirective p ((State.port_testReleasingEnd _).trans ((port all).trans free)) _ _
    · exact h.of_directive hd (tested.trans (State.hands_enterPhase ..).keeps) fun _ => State.passSound_of_phase rfl rfl
  · exact h

theorem setClock (h : s.Coherent) (ht : execSetClock s = .next t) : t.Coherent := by
  unfold execSetClock at ht
  cases ht
  split
  · next p d hd =>
    split
    · exact h.of_directive hd (.after (State.hands_concludeDirective ..).keeps ⟨rfl, id, id⟩) fun free =>
        State.passSound_concludeDirective (s := { s with clock := d.clock }) p free d .ok
    · exact h.of_directive hd (State.hands_concludeDirective ..).keeps fun free =>
        State.passSound_concludeDirective p free _ _
  · exact h

theorem holdOn (h : s.Coherent) {count : Nat} (ht : execHoldOn count s = .next t) : t.Coherent := by
  unfold execHoldOn at ht
  cases ht
  split
  · next p d hd =>
    exact h.of_directive hd (s.keeps_walkDirective p d count (Cluster.CoherentBut.holdOnCarrier _)) fun free =>
      State.passSound_walkDirective p free d count _
  · exact h

theorem releaseHold (h : s.Coherent) {count : Nat} (ht : execReleaseHold count s = .next t) : t.Coherent := by
  unfold execReleaseHold at ht
  cases ht
  split
  · next p d hd =>
    exact h.of_directive hd (s.keeps_walkDirective p d count Cluster.CoherentBut.releaseHoldCarrier) fun free =>
      State.passSound_walkDirective p free d count _
  · exact h

theorem sleepNow (h : s.Coherent) {count : Nat} (ht : execSleepNow count s = .next t) : t.Coherent := by
  unfold execSleepNow at ht
  cases ht
  split
  · next p d hd =>
    split
    · exact h.of_directive hd (State.hands_concludeDirective ..).keeps fun free =>
        State.passSound_concludeDirective p free _ _
    · split
      · exact h.of_directive hd (s.keeps_walkDirective p d count fun _ _ g => g) fun free =>
          State.passSound_walkDirective p free d count _
      · exact h.of_directive hd (s.keeps_walkDirective p d count (Cluster.CoherentBut.sleepNowCarrier _ _)) fun free =>
          State.passSound_walkDirective p free d count _
  · exact h

theorem probe (h : s.Coherent) {count : Nat} (ht : execProbe count s = .next t) : t.Coherent := by
  unfold execProbe at ht
  cases ht
  split
  · next p d hd =>
    dsimp only
    have begun (g : s.cluster.CoherentBut fun _ => False) :
        (if d.begun then s.cluster else s.cluster.placeProbe d.slot).CoherentBut fun _ => False := by
      split
      · exact g
      · exact (Cluster.alike_placeProbe ..).coherentBut g
    have walked (g : s.cluster.CoherentBut fun _ => False) :=
      DirectiveRun.walk_keeps (P := fun w => w.CoherentBut fun _ => False) (Cluster.CoherentBut.probeCarrier d.slot) count _
        { d with begun := true } (begun g)
    generalize DirectiveRun.walk (probeCarrier d.slot) count (if d.begun then s.cluster else s.cluster.placeProbe d.slot)
      { d with begun := true } = r at walked ⊢
    split
    · refine h.of_directive hd (.after (State.hands_finishDirective ..).keeps (.on fun g => ?_)) fun free =>
        State.passSound_finishDirective (s := s.on _) p free _
      exact (Cluster.alike_endSelection ..).coherentBut (walked g)
    · exact h.of_directive hd (.after (State.hands_enterPhase ..).keeps (.on walked)) fun _ =>
        State.passSound_of_phase rfl rfl
  · exact h

theorem clearTally (h : s.Coherent) (ht : execClearTally s = .next t) : t.Coherent := by
  unfold execClearTally at ht
  cases ht
  split
  · next p d hd =>
    refine h.of_directive hd (.after (State.hands_concludeDirective ..).keeps ⟨rfl, fun g => ?_, id⟩) fun free =>
      State.passSound_concludeDirective (s := State.on { s with fleetTally := 0 } _) p free _ _
    exact (Cluster.alike_editAll _ (fun x => { x with lightMinutes := 0, darkMinutes := 0 }) (fun _ => rfl) (fun _ => rfl)
      fun _ => rfl).coherentBut g
  · exact h

theorem directiveUnknownKind (h : s.Coherent) (ht : execDirectiveUnknownKind s = .next t) : t.Coherent := by
  unfold execDirectiveUnknownKind at ht
  cases ht
  split
  · next p d hd =>
    exact h.of_directive hd (State.hands_concludeDirective ..).keeps fun free =>
      State.passSound_concludeDirective p free _ _
  · exact h

/-! ### Lanes and links -/

theorem hundredTick (h : s.Coherent) : s.hundredTick.Coherent := by
  unfold State.hundredTick
  split
  · exact h
  · exact h.of_same (Cluster.alike_hundredTick _) rfl rfl rfl rfl

theorem testGrant (h : s.Coherent) (i : Site) : (s.testGrant i).Coherent := by
  refine h.on_tables (fun _ => h.tables.testGrant i _ _) fun halted => ?_
  rw [Cluster.testGrant, halted, Cluster.grantChoice_halted]
  exact .refl _

theorem commandTimeout (h : s.Coherent) {i : Site} (ht : execCommandTimeout i s = .next t) : t.Coherent := by
  unfold execCommandTimeout at ht
  cases ht
  split
  · refine (h.on_tables (f := fun w => w.commandTimeout i) (fun _ => h.tables.commandTimeout i) fun halted => ?_).testReleasingEnd
    have none := (h.bare halted).outstanding i
    rw [Cluster.commandTimeout, none]
    exact s.cluster.alike_retire_of_none none
  · exact h

theorem radioReply (h : s.Coherent) {i : Site} {frame : List Byte} (ht : execRadioReply i frame s = .next t) : t.Coherent := by
  have late : s.countLate.Coherent := h.of_same (.refl _) rfl rfl rfl rfl
  unfold execRadioReply at ht
  cases ht
  split
  · next r _ =>
    split
    · refine (h.on_tables (f := fun w => w.takeReply s.policy i r) (fun _ => h.tables.takeReply _ i r)
        fun halted => ?_).testReleasingEnd
      have none := (h.bare halted).outstanding i
      rw [Cluster.takeReply, none]
      exact s.cluster.alike_retire_of_none none
    · exact late
  · exact late

theorem linkUp (h : s.Coherent) {i : Site} (ht : execLinkUp i s = .next t) : t.Coherent := by
  unfold execLinkUp at ht
  cases ht
  split
  · exact h
  · exact h.on_tables (fun _ => h.tables.linkUp i) fun halted => Cluster.alike_linkUp_of_unmanaged (h.unmanaged halted) i

theorem linkDown (h : s.Coherent) {i : Site} (ht : execLinkDown i s = .next t) : t.Coherent := by
  unfold execLinkDown at ht
  cases ht
  split
  · exact (h.on_tables (f := fun w => w.linkDown i) (fun _ => h.tables.linkDown i) fun halted =>
      Cluster.alike_linkDown_of_bare (h.bare halted) (h.unmanaged halted) i).testReleasingEnd
  · exact h

/-! ### Clock and windows -/

theorem clockSecond (h : s.Coherent) : s.clockSecond.Coherent := by
  unfold State.clockSecond
  split
  · exact h.of_same (.refl _) rfl rfl rfl rfl
  · exact h

theorem setPhase (h : s.Coherent) (n : WindowNo) (ph : WindowPhase) : (s.setPhase n ph).Coherent :=
  h.of_same (.refl _) rfl rfl rfl rfl

theorem closeMatch (h : s.Coherent) (n : WindowNo) : (s.closeMatch n).Coherent := by
  unfold State.closeMatch
  split
  · exact h
  · have g := h.setPhase n .closed
    exact g.on_tables (fun _ => g.tables.closeEffects n) fun halted => by rw [(g.bare halted).closeEffects]; exact .refl _

theorem openMatch (h : s.Coherent) (n : WindowNo) : (s.openMatch n).Coherent := by
  unfold State.openMatch
  split
  · exact (h.setPhase n .opened).of_same (Cluster.alike_openEffects _ n) rfl rfl rfl rfl
  · exact h

theorem deepStopMatch (h : s.Coherent) (n : WindowNo) : (s.deepStopMatch n).Coherent := by
  unfold State.deepStopMatch
  split
  · have g := h.setPhase n .shallow
    refine g.on_tables (fun _ => g.tables.deepStopEffects n) fun halted => ?_
    rw [Cluster.deepStopEffects, Cluster.darkBound_of_unmanaged (g.unmanaged halted)]
    exact .refl _
  · exact h

theorem shallowFollowUp (h : s.Coherent) (n : WindowNo) : (s.shallowFollowUp n).Coherent := by
  unfold State.shallowFollowUp
  split
  · refine h.on_tables (fun _ => h.tables.followUp n) fun halted => ?_
    have none : s.cluster.followUp n = s.cluster := by
      rw [Cluster.followUp, Cluster.darkBound_of_unmanaged (h.unmanaged halted)]
      rfl
    rw [none]
    exact .refl _
  · exact h

theorem evalWindow (h : s.Coherent) (m : MinuteStamp) (n : WindowNo) : (s.evalWindow m n).Coherent := by
  have branch {b : Bool} {u v : State} (hu : u.Coherent) (hv : u.Coherent → v.Coherent) : (if b then v else u).Coherent := by
    cases b
    · exact hu
    · exact hv hu
  unfold State.evalWindow
  exact (branch (branch (branch h fun g => g.closeMatch n) fun g => g.openMatch n) fun g => g.deepStopMatch n).shallowFollowUp n

theorem minutePart (h : s.Coherent) (m : MinuteStamp) (part : MinutePart) : (s.minutePart m part).Coherent := by
  cases part with
  | window n => exact h.evalWindow m n
  | countdown =>
    simp only [State.minutePart]
    split
    · exact h
    · exact h.of_same (Cluster.alike_countDown _) rfl rfl rfl rfl
  | accounting =>
    simp only [State.minutePart]
    split
    · exact h
    · generalize min tallyTop (s.fleetTally + s.cluster.saving) = tally
      exact h.of_same (Cluster.alike_account _) rfl rfl rfl rfl

theorem takeMinute (h : s.Coherent) (m : MinuteStamp) (order : List MinutePart) : (s.takeMinute m order).Coherent := by
  have parts : ((completeParts order).foldl (fun v p => v.minutePart m p) s).Coherent := by
    induction completeParts order generalizing s with
    | nil => exact h
    | cons part parts ih => exact ih (h.minutePart m part)
  exact parts.of_same (Cluster.alike_notify _ _) rfl rfl rfl rfl

theorem minuteEvent (h : s.Coherent) {order : List MinutePart} (ht : execMinuteEvent order s = .next t) : t.Coherent := by
  unfold execMinuteEvent at ht
  cases ht
  split
  · next m ms _ =>
    have taken : ({ s with minutesDue := ms } : State).Coherent := h.of_same (.refl _) rfl rfl rfl rfl
    exact (taken.takeMinute m order).testReleasingEnd
  · exact h

/-! ### One cycle of the reference -/

theorem accessCycle (h : s.Coherent) : s.accessCycle.Coherent := by
  unfold State.accessCycle
  split
  · next a ha =>
    split
    · refine .mk h.tables (h.haltedSound_of_alike (.refl _) rfl h.2.1.1 fun halted p hp => ?_) fun p hp hd => ?_
      · exact ⟨((h.2.1.2 halted).2.2 p hp).1, rfl⟩
      · have := h.2.2 p hp hd
        rw [ha] at this
        cases this
    · exact h.accessFailed a
  · exact h

theorem clockCycle (h : s.Coherent) : s.clockCycle.Coherent := by
  unfold State.clockCycle
  split
  · split
    · exact h.of_same (.refl _) rfl rfl rfl rfl
    · exact h.clockSecond
  · exact h

theorem millisecond (h : s.Coherent) : s.millisecond.Coherent := by
  have ticked : ({ s with timer := s.timer.millisecond s.policy.prescale } : State).Coherent :=
    h.of_same (.refl _) rfl rfl rfl rfl
  have expired : (if s.timer.expires s.policy.prescale then State.expire { s with timer := s.timer.millisecond s.policy.prescale }
      else { s with timer := s.timer.millisecond s.policy.prescale }).Coherent := by
    split
    · exact ticked.expire
    · exact ticked
  unfold State.millisecond
  dsimp only
  split
  · exact expired.hundredTick
  · exact expired

theorem timerCycle (h : s.Coherent) : s.timerCycle.Coherent := by
  unfold State.timerCycle
  split
  · exact h
  · split
    · exact h.of_same (.refl _) rfl rfl rfl rfl
    · exact State.Coherent.millisecond (h.of_same (.refl _) rfl rfl rfl rfl)

theorem referenceCycle (h : s.Coherent) : s.referenceCycle.Coherent := h.accessCycle.clockCycle.timerCycle

/-! ### Every command -/

theorem exec (h : s.Coherent) {c : Instr} (ht : Machine.exec c s = .next t) : t.Coherent := by
  cases c with
  | powerOnReset => cases ht; exact State.coherent_reset.of_same (.refl _) rfl rfl rfl rfl
  | xbaseWrite v =>
    cases ht
    split
    · exact h.moveBase v
    · exact h.refuse
  | run => exact h.run ht
  | hold => exact h.hold ht
  | release => exact h.release ht
  | halt =>
    cases ht
    split
    · next g => exact h.halt g.2
    · exact h.refuse
  | sweepNow =>
    have g : execSweepNow s = .next t := ht
    unfold execSweepNow at g
    cases g
    split
    · exact h.of_same (.refl _) rfl rfl rfl rfl
    all_goals exact h.refuse
  | runctlInvalidCode code => cases ht; exact h.refuse
  | noteWrite v => cases ht; exact h.of_same (Cluster.alike_of_tables rfl rfl rfl) rfl rfl rfl rfl
  | noteenWrite v => cases ht; exact h.of_same (.refl _) rfl rfl rfl rfl
  | registerWriteIgnored => cases ht; exact h
  | memoryAccessComplete => exact h.memoryAccessComplete ht
  | memoryAccessError => exact h.memoryAccessError ht
  | memoryAccessTimeout => exact h.memoryAccessTimeout ht
  | sweepTimerExpiry => cases ht; exact h.expire
  | sweepBegin => exact h.sweepBegin ht
  | loadPolicy => exact h.loadPolicy ht
  | loadCarriers => exact h.loadCarriers ht
  | setClock => exact h.setClock ht
  | holdOn => exact h.holdOn ht
  | releaseHold => exact h.releaseHold ht
  | sleepNow => exact h.sleepNow ht
  | probe => exact h.probe ht
  | clearTally => exact h.clearTally ht
  | directiveUnknownKind => exact h.directiveUnknownKind ht
  | decisionVisit => exact h.decisionVisit ht
  | hundredMsTick => cases ht; exact h.hundredTick
  | wantWaitExpiry k =>
    cases ht
    split
    · exact h.testGrant _
    · exact h
  | commandTimeout => exact h.commandTimeout ht
  | laneGrant i => cases ht; exact h.testGrant i
  | radioReply => exact h.radioReply ht
  | linkUp => exact h.linkUp ht
  | linkDown => exact h.linkDown ht
  | civilClockSecond => cases ht; exact h.clockSecond
  | minuteEvent => exact h.minuteEvent ht

theorem step (h : s.Coherent) (ht : Machine.step s = .next t) : t.Coherent := by
  unfold Machine.step at ht
  split at ht
  · next rest _ => exact (h.of_same (t := { s with pending := rest }) (.refl _) rfl rfl rfl rfl).exec ht
  · unfold idleStep at ht
    split at ht
    · exact (h.of_same (t := { s with choices := s.choices + 1 }) (.refl _) rfl rfl rfl rfl).exec ht
    · cases ht
      exact h.referenceCycle

end State.Coherent

/-- Settles O5: every command, and so every step, keeps coherence. -/
theorem coherentStep : Obligations.CoherentStep := fun _ _ h ht => h.step ht

end Sys2Proof.Machine
end

section
/-! What a command can do to the tables: the acts that its parts make on the cluster, in their order, and at the end the mark
that a mirror record's issue clears. Invariants and frames of the tables are then read off the acts. -/

namespace Sys2Proof.Machine

/-! ## The outcome queue -/

/-- The outcomes stand in strictly ascending slot number (R10). -/
def AscendingSlots (q : List DirectiveOutcome) : Prop := q.Pairwise fun x y => x.slot < y.slot

theorem mem_joinOutcome (o : DirectiveOutcome) (q : List DirectiveOutcome) (h : AscendingSlots q) (x : DirectiveOutcome) :
    x ∈ joinOutcome o q ↔ x = o ∨ (x ∈ q ∧ x.slot ≠ o.slot) := by
  induction q with
  | nil => simp [joinOutcome]
  | cons p ps ih =>
    obtain ⟨first, rest⟩ := List.pairwise_cons.mp h
    have later (lt : o.slot < p.slot) : ∀ y ∈ p :: ps, y.slot ≠ o.slot := fun y hy => by
      rcases List.mem_cons.mp hy with rfl | hy
      · exact Fin.ne_of_gt lt
      · exact Fin.ne_of_gt (Fin.lt_trans lt (first y hy))
    unfold joinOutcome
    split
    · next lt =>
      rw [List.mem_cons]
      constructor
      · exact Or.imp_right fun g => ⟨g, later lt x g⟩
      · exact Or.imp_right And.left
    · split
      · next eq =>
        have other : ∀ y ∈ ps, y.slot ≠ o.slot := fun y hy => by rw [eq]; exact Fin.ne_of_gt (first y hy)
        simp only [List.mem_cons]
        constructor
        · exact Or.imp_right fun g => ⟨.inr g, other x g⟩
        · rintro (g | ⟨rfl | g, ne⟩)
          · exact .inl g
          · exact absurd eq.symm ne
          · exact .inr g
      · next ne =>
        have here : p.slot ≠ o.slot := fun g => ne g.symm
        simp only [List.mem_cons, ih rest]
        constructor
        · rintro (rfl | g | ⟨g, k⟩)
          · exact .inr ⟨.inl rfl, here⟩
          · exact .inl g
          · exact .inr ⟨.inr g, k⟩
        · rintro (g | ⟨rfl | g, k⟩)
          · exact .inr (.inl g)
          · exact .inl rfl
          · exact .inr (.inr ⟨g, k⟩)

theorem AscendingSlots.join {q : List DirectiveOutcome} (h : AscendingSlots q) (o : DirectiveOutcome) :
    AscendingSlots (joinOutcome o q) := by
  induction q with
  | nil => exact List.pairwise_singleton _ _
  | cons p ps ih =>
    obtain ⟨first, rest⟩ := List.pairwise_cons.mp h
    unfold joinOutcome
    split
    · next lt => exact List.pairwise_cons.mpr ⟨fun y hy => by
        rcases List.mem_cons.mp hy with rfl | hy
        · exact lt
        · exact Nat.lt_trans lt (first y hy), h⟩
    · split
      · next eq => exact List.pairwise_cons.mpr ⟨fun y hy => eq ▸ first y hy, rest⟩
      · next le ne =>
        refine List.pairwise_cons.mpr ⟨fun y hy => ?_, ih rest⟩
        rcases (mem_joinOutcome o ps rest y).mp hy with rfl | ⟨hy, _⟩
        · exact Nat.lt_of_le_of_ne (Nat.not_lt.mp le) fun q => ne (Fin.ext q.symm)
        · exact first y hy

theorem AscendingSlots.drop {q : List DirectiveOutcome} (h : AscendingSlots q) (n : Slot) : AscendingSlots (dropOutcome n q) :=
  List.Pairwise.filter _ h

/-! ## Changes that no table follows -/

/-- The context keeps its state and what a state change sets: the dwell counts, the probe origin, the stray step, and the light
run out of LIGHT; a dirty mark stays set. -/
structure Context.Plain (x y : Context) : Prop where
  state : y.state = x.state
  sleepCount : y.sleepCount = x.sleepCount
  wakeCount : y.wakeCount = x.wakeCount
  probeOrigin : y.probeOrigin = x.probeOrigin
  strayStep : y.strayStep = x.strayStep
  lightRun : x.state ≠ .light → y.lightRun = x.lightRun
  dirty : x.dirty = true → y.dirty = true

theorem Context.Plain.refl (x : Context) : x.Plain x := ⟨rfl, rfl, rfl, rfl, rfl, fun _ => rfl, id⟩

theorem Context.plain_edit {x : Context} {f : Context → Context} (h : x.Plain (f x)) : x.Plain (x.edit f) :=
  ⟨h.state, h.sleepCount, h.wakeCount, h.probeOrigin, h.strayStep, h.lightRun, fun g => by simp [Context.dirty_edit, h.dirty g]⟩

theorem Context.plain_visitSlot (freshness : Nat) (first second : Byte) (used users : Nat) (x : Context) :
    x.Plain (x.visitSlot freshness first second used users) := by
  constructor <;>
    simp only [Context.visitSlot, Context.ageClass, Context.takeObservation, Context.applyObservation,
      Context.missObservation] <;> repeat' split
  all_goals first | rfl | exact fun _ => rfl | exact id

theorem Context.plain_countDown (x : Context) : x.Plain x.countDown := by
  unfold Context.countDown
  split
  · refine ⟨rfl, rfl, rfl, rfl, rfl, fun h => ?_, id⟩
    simp [h]
  · exact .refl x

theorem Context.plain_account (x : Context) : x.Plain x.account := by
  unfold Context.account
  repeat' split
  all_goals exact ⟨rfl, rfl, rfl, rfl, rfl, fun _ => rfl, id⟩

theorem Context.plain_open (n : WindowNo) (x : Context) : x.Plain (if x.boundTo n then x.openNight else x) := by
  split
  · exact ⟨rfl, rfl, rfl, rfl, rfl, fun _ => rfl, id⟩
  · exact .refl x

/-- Neither states, stacks, wants and commands change, nor live tags, links, next tags and records; the outcomes stay
ascending. -/
structure Cluster.Plain (w v : Cluster) : Prop where
  alike : w.Alike v
  ctx : ∀ c, (w.ctx c).Plain (v.ctx c)
  liveTag : ∀ i, (v.channel i).liveTag = (w.channel i).liveTag
  up : ∀ i, (v.channel i).up = (w.channel i).up
  nextTag : ∀ i, (v.channel i).nextTag = (w.channel i).nextTag
  probes : v.probes = w.probes
  outcomes : AscendingSlots w.outcomes → AscendingSlots v.outcomes

namespace Cluster

variable {w : Cluster}

/-- A change of contexts alone. -/
theorem plain_contexts {v : Cluster} (alike : w.Alike v) (ctx : ∀ c, (w.ctx c).Plain (v.ctx c)) (channels : v.channels = w.channels)
    (probes : v.probes = w.probes) (outcomes : v.outcomes = w.outcomes) : w.Plain v := by
  have channel (i : Site) : v.channel i = w.channel i := by unfold Cluster.channel; rw [channels]
  exact ⟨alike, ctx, fun i => by rw [channel], fun i => by rw [channel], fun i => by rw [channel], probes, fun h => outcomes ▸ h⟩

theorem plain_setCtx (c : Carrier) {x : Context} (plain : (w.ctx c).Plain x) (alike : w.Alike (w.setCtx c x)) :
    w.Plain (w.setCtx c x) := by
  refine plain_contexts alike (fun d => ?_) rfl rfl rfl
  rw [Cluster.ctx_setCtx]
  split
  · next h => exact h ▸ plain
  · exact .refl _

theorem plain_editAll {f : Context → Context} (plain : ∀ x : Context, x.Plain (f x)) (alike : w.Alike (w.editAll f)) :
    w.Plain (w.editAll f) := by
  refine plain_contexts alike (fun d => ?_) rfl rfl rfl
  rw [Cluster.ctx_editAll]
  exact Context.plain_edit (plain _)

theorem plain_refl (w : Cluster) : w.Plain w := plain_contexts (.refl w) (fun _ => .refl _) rfl rfl rfl

theorem plain_note (w : Cluster) (note : BitVec 6) : w.Plain { w with note } :=
  plain_contexts (Cluster.alike_of_tables rfl rfl rfl) (fun _ => .refl _) rfl rfl rfl

theorem plain_notify (w : Cluster) (n : Notice) : w.Plain (w.notify n) := w.plain_note _

theorem plain_outcomeJoins (w : Cluster) (o : DirectiveOutcome) : w.Plain (w.outcomeJoins o) :=
  ⟨Cluster.alike_of_tables rfl rfl rfl, fun _ => .refl _, fun _ => rfl, fun _ => rfl, fun _ => rfl, rfl, fun h => h.join o⟩

theorem plain_outcomeLeaves (w : Cluster) (n : Slot) : w.Plain (w.outcomeLeaves n) :=
  ⟨Cluster.alike_of_tables rfl rfl rfl, fun _ => .refl _, fun _ => rfl, fun _ => rfl, fun _ => rfl, rfl, fun h => h.drop n⟩

theorem plain_markDirty (w : Cluster) (c : Carrier) : w.Plain (w.markDirty c) :=
  plain_setCtx c ⟨rfl, rfl, rfl, rfl, rfl, fun _ => rfl, fun _ => rfl⟩ (Cluster.alike_markDirty w c)

theorem plain_markAllDirty (w : Cluster) : w.Plain w.markAllDirty := by
  refine plain_contexts (Cluster.alike_markAllDirty w) (fun c => ?_) rfl rfl rfl
  rw [Cluster.ctx_markAllDirty]
  exact ⟨rfl, rfl, rfl, rfl, rfl, fun _ => rfl, fun _ => rfl⟩

theorem plain_written (w : Cluster) (c : Carrier) (e : Nat) : w.Plain (w.setCtx c { w.ctx c with edition := e }) :=
  plain_setCtx c ⟨rfl, rfl, rfl, rfl, rfl, fun _ => rfl, id⟩ (Cluster.alike_setCtx _ _ _ rfl rfl rfl)

theorem plain_hundredTick (w : Cluster) : w.Plain w.hundredTick := by
  have kept (i : Site) : (w.hundredTick.channel i).liveTag = (w.channel i).liveTag ∧
      (w.hundredTick.channel i).up = (w.channel i).up ∧ (w.hundredTick.channel i).nextTag = (w.channel i).nextTag := by
    rw [Cluster.channel_hundredTick]
    unfold Channel.tick
    split <;> exact ⟨rfl, rfl, rfl⟩
  exact ⟨Cluster.alike_hundredTick w, fun _ => .refl _, fun i => (kept i).1, fun i => (kept i).2.1, fun i => (kept i).2.2, rfl, id⟩

end Cluster

/-! ## The acts -/

/-- One act on the cluster that the command c can make in the state s. Start-up's configuring event and a decision visit are the
first act of their command. -/
inductive Cluster.Act (c : Instr) (s : State) : Cluster → Cluster → Prop
  | plain {w v} (h : w.Plain v) : Act c s w v
  | unwindAll (w) (r : Reason) : Act c s w (w.unwindAll r)
  | closeEffects (w) (n : WindowNo) : Act c s w (w.closeEffects n)
  | deepStopEffects (w) (n : WindowNo) : Act c s w (w.deepStopEffects n)
  | followUp (w) (n : WindowNo) : Act c s w (w.followUp n)
  | passVisit (t : TestSetting) (k : Carrier) : Act c s s.cluster (s.cluster.passVisit t k)
  | holdOn (w) (minutes : Nat) (k : Carrier) : Act c s w (holdOnCarrier minutes w k).1
  | releaseHold (w) (k : Carrier) : Act c s w (releaseHoldCarrier w k).1
  | sleepNow (w) (t : TestSetting) (dark : Bool) (k : Carrier) : Act c s w (sleepNowCarrier t dark w k).1
  | placeProbe (w) (n : Slot) : Act c s w (w.placeProbe n)
  | probe (w) (n : Slot) (k : Carrier) : Act c s w (probeCarrier n w k).1
  | endSelection (w) (n : Slot) : Act c s w (w.endSelection n)
  | applyRow (w) (k : Carrier) (row : CarrierRow) (ok : w.rowApplicable k = true) : Act c s w (w.applyRow k row).1
  | configure (rows : List CarrierRow) (startup : s.startup ≠ none) : Act c s s.cluster (s.cluster.configure rows)
  | halt (w) (quiet : w.QuietForHalt) (halts : c = .halt) : Act c s w w.halt
  | testGrant (w) (i : Site) (rs : RunState) (t : Timeouts)
      (grants : c = .laneGrant i ∨ ∃ k, siteOf k = i ∧ c = .wantWaitExpiry k) : Act c s w (w.testGrant i rs t)
  | commandTimeout (w) (i : Site) (ends : c = .commandTimeout i) : Act c s w (w.commandTimeout i)
  | takeReply (w) (p : Policy) (i : Site) (r : Reply) (frame : List Byte) (ends : c = .radioReply i frame) :
      Act c s w (w.takeReply p i r)
  | linkUp (w) (i : Site) (rises : c = .linkUp i) : Act c s w (w.linkUp i)
  | linkDown (w) (i : Site) (falls : c = .linkDown i) : Act c s w (w.linkDown i)

/-- The cluster comes about by acts of the command from the state's own. -/
inductive State.Reaches (c : Instr) (s : State) : Cluster → Prop
  | refl : Reaches c s s.cluster
  | tail {v u : Cluster} (h : Reaches c s v) (act : Cluster.Act c s v u) : Reaches c s u

/-- From the state u of the command's course to the state t: acts of the command on the cluster, and the counts of the pass stay
in their ranges. -/
structure State.Goes (c : Instr) (s u t : State) : Prop where
  reaches : s.Reaches c u.cluster → s.Reaches c t.cluster
  edition : u.editionWord ≤ 65535 → t.editionWord ≤ 65535
  starvation : u.starvation ≤ 255 → t.starvation ≤ 255
  torn : u.torn ≤ 65535 → t.torn ≤ 65535

/-- The record of a carrier is being written, and its dirty mark has been cleared at the issue (R13). -/
def State.Issued (v : Cluster) (t : State) : Prop :=
  ∃ (k : Carrier) (e : Nat) (a : Access),
    t.cluster = v.setCtx k { v.ctx k with dirty := false } ∧ t.port = some a ∧ a.purpose = .mirrorRecord k e

/-- As State.Goes, and at the end a mirror record may have been issued. -/
structure State.Ends (c : Instr) (s u t : State) : Prop where
  reaches : s.Reaches c u.cluster → ∃ v, s.Reaches c v ∧ (t.cluster = v ∨ State.Issued v t)
  edition : u.editionWord ≤ 65535 → t.editionWord ≤ 65535
  starvation : u.starvation ≤ 255 → t.starvation ≤ 255
  torn : u.torn ≤ 65535 → t.torn ≤ 65535

namespace State

variable {c : Instr} {s u v t : State}

theorem Goes.refl : s.Goes c u u := ⟨id, id, id, id⟩

theorem Goes.trans (h : s.Goes c u v) (g : s.Goes c v t) : s.Goes c u t :=
  ⟨g.reaches ∘ h.reaches, g.edition ∘ h.edition, g.starvation ∘ h.starvation, g.torn ∘ h.torn⟩

/-- The second change first, for goals that end in it. -/
theorem Goes.after (g : s.Goes c v t) (h : s.Goes c u v) : s.Goes c u t := h.trans g

theorem Goes.ends (h : s.Goes c u t) : s.Ends c u t :=
  ⟨fun g => ⟨t.cluster, h.reaches g, .inl rfl⟩, h.edition, h.starvation, h.torn⟩

theorem Goes.then (h : s.Goes c u v) (g : s.Ends c v t) : s.Ends c u t :=
  ⟨g.reaches ∘ h.reaches, g.edition ∘ h.edition, g.starvation ∘ h.starvation, g.torn ∘ h.torn⟩

theorem Ends.after (g : s.Ends c v t) (h : s.Goes c u v) : s.Ends c u t := h.then g

/-- The cluster and the counts of the pass are left. -/
theorem Goes.same (cluster : t.cluster = u.cluster) (edition : t.editionWord = u.editionWord)
    (starvation : t.starvation = u.starvation) (torn : t.torn = u.torn) : s.Goes c u t :=
  ⟨fun h => cluster ▸ h, fun h => edition ▸ h, fun h => starvation ▸ h, fun h => torn ▸ h⟩

/-- One act. -/
theorem Goes.act (h : Cluster.Act c s u.cluster t.cluster) (edition : t.editionWord = u.editionWord)
    (starvation : t.starvation = u.starvation) (torn : t.torn = u.torn) : s.Goes c u t :=
  ⟨fun g => g.tail h, fun h => edition ▸ h, fun h => starvation ▸ h, fun h => torn ▸ h⟩

theorem Goes.on {f : Cluster → Cluster} (h : Cluster.Act c s u.cluster (f u.cluster)) : s.Goes c u (u.on f) :=
  .act h rfl rfl rfl

/-- A change that no table follows. -/
theorem Goes.plain {f : Cluster → Cluster} (h : u.cluster.Plain (f u.cluster)) : s.Goes c u (u.on f) := .on (.plain h)

theorem Goes.testReleasingEnd : s.Goes c u u.testReleasingEnd := .same (by simp) (by simp) (by simp) (by simp)

end State

theorem wrapUp_lt (top v : Nat) (h : 0 < top) : wrapUp top v < top := Nat.mod_lt _ h

theorem bump_le (top v : Nat) : bump top v ≤ top := Nat.min_le_left _ _

end Sys2Proof.Machine
end

section
/-! The course of every command: acts on the cluster, and the counts of the pass in their ranges. -/

namespace Sys2Proof.Machine

namespace State

variable {c : Instr} {s : State}

section
variable (u : State) (p : Pass)

/-! ## Write-back -/

theorem ends_issueHeader (wrote : Bool) : s.Ends c u (u.issueHeader p wrote) := by
  cases wrote
  · exact Goes.ends (.same rfl rfl rfl rfl)
  · refine Goes.ends ⟨id, fun _ => ?_, id, id⟩
    exact Nat.le_of_lt_succ (wrapUp_lt 65536 _ (by decide))

theorem ends_nextOutcome (wrote : Bool) (todo : List Slot) : s.Ends c u (u.nextOutcome p wrote todo) := by
  cases todo with
  | nil => exact State.ends_issueHeader u p wrote
  | cons n ns => exact Goes.ends (.same rfl rfl rfl rfl)

theorem ends_writeRecords (wrote : Bool) (start : Nat) : s.Ends c u (u.writeRecords p wrote start) := by
  unfold State.writeRecords
  split
  · next k _ => exact ⟨fun h => ⟨u.cluster, h, .inr ⟨k, _, _, rfl, rfl, rfl⟩⟩, id, id, id⟩
  · exact State.ends_nextOutcome u p wrote _

theorem ends_beginWriteBack : s.Ends c u (u.beginWriteBack p) := State.ends_writeRecords u p false 0

theorem goes_remark : s.Goes c u (u.remark p) := by
  unfold State.remark
  split
  · exact .plain (Cluster.plain_markAllDirty _)
  · exact .refl

theorem goes_endPass (wrote : Bool) : s.Goes c u (u.endPass wrote) := by
  have noticed : s.Goes c u { (if wrote then u.notify .change else u) with pass := none } := by
    cases wrote
    · exact .same rfl rfl rfl rfl
    · exact (Goes.plain (f := fun w => w.notify .change) (Cluster.plain_notify _ .change)).trans (.same rfl rfl rfl rfl)
  unfold State.endPass
  dsimp only
  split
  · exact noticed.trans (.same rfl rfl rfl rfl)
  · exact noticed

theorem goes_writeBackEffect (purpose : Purpose) (data : Option (List Byte)) : s.Goes c u (u.writeBackEffect purpose data) := by
  have leaves (n : Slot) : s.Goes c u (u.on fun w => w.outcomeLeaves n) := .plain (Cluster.plain_outcomeLeaves _ n)
  unfold State.writeBackEffect
  split
  · exact .plain (Cluster.plain_written ..)
  · exact .plain (Cluster.plain_markDirty ..)
  · split
    · split
      · exact .refl
      · split
        · exact (leaves _).trans (.plain (Cluster.plain_notify ..))
        · exact leaves _
    · exact .refl
  · exact (leaves _).trans (.plain (Cluster.plain_notify ..))
  · exact .refl

theorem ends_writeBackNext (wrote : Bool) (todo : List Slot) (purpose : Purpose) (data : Option (List Byte)) :
    s.Ends c u (u.writeBackNext p wrote todo purpose data) := by
  unfold State.writeBackNext
  split
  · exact State.ends_writeRecords u p wrote _
  · repeat' split
    · exact Goes.ends (.same rfl rfl rfl rfl)
    · exact State.ends_nextOutcome u p wrote _
    · exact State.ends_nextOutcome u p wrote _
  · split
    · exact Goes.ends (.same rfl rfl rfl rfl)
    · exact State.ends_nextOutcome u p wrote _
  · exact ((State.goes_remark u p).trans (State.goes_endPass ..)).ends
  · exact State.ends_nextOutcome u p wrote _

theorem ends_writeBackEnded (wrote : Bool) (todo : List Slot) (purpose : Purpose) (data : Option (List Byte)) :
    s.Ends c u (u.writeBackEnded p wrote todo purpose data) := by
  refine .after ?_ (State.goes_writeBackEffect u purpose data)
  unfold State.writeBackEnded
  dsimp only
  split
  · refine Goes.ends (.after (State.goes_endPass ..) ?_)
    split
    · exact ⟨id, fun _ => Nat.le_of_lt_succ (wrapUp_lt 65536 _ (by decide)), id, id⟩
    · exact .refl
  · exact .after (State.ends_writeBackNext ..) (.same rfl rfl rfl rfl)

/-! ## Intake -/

theorem ends_intakeFrom (n : Nat) : s.Ends c u (u.intakeFrom p n) := by
  unfold State.intakeFrom
  split
  · exact Goes.ends (.same rfl rfl rfl rfl)
  · unfold State.endIntake
    split
    · exact State.ends_beginWriteBack u p
    · exact Goes.ends (.same rfl rfl rfl rfl)

theorem ends_failTaken (n : Slot) : s.Ends c u (u.failTaken p n) :=
  .after (State.ends_beginWriteBack _ p) (.same rfl rfl rfl rfl)

theorem goes_readFields (n : Slot) : s.Goes c u (u.readFields p n) :=
  (Goes.plain (f := fun w => w.outcomeLeaves n) (Cluster.plain_outcomeLeaves _ n)).trans (.same rfl rfl rfl rfl)

theorem goes_writeTaken (n : Slot) : s.Goes c u (u.writeTaken p n) :=
  (Goes.plain (f := fun w => w.outcomeLeaves n) (Cluster.plain_outcomeLeaves _ n)).trans (.same rfl rfl rfl rfl)

theorem ends_slotStateRead (n : Slot) (v : Nat) : s.Ends c u (u.slotStateRead p n v) := by
  unfold State.slotStateRead
  split
  · exact State.ends_intakeFrom u p _
  · split
    · exact (State.goes_writeTaken u p n).ends
    · split
      · split
        · exact (State.goes_readFields u p n).ends
        · exact .after (State.ends_intakeFrom _ p _) (.same rfl rfl rfl rfl)
      · exact State.ends_intakeFrom u p _

theorem goes_beginDirective (d : DirectiveRun) : s.Goes c u (u.beginDirective p d) := by
  unfold State.beginDirective
  dsimp only
  split <;> exact .same rfl rfl rfl rfl

theorem ends_intakeEnded (run : Option DirectiveRun) (purpose : Purpose) (data : Option (List Byte)) :
    s.Ends c u (u.intakeEnded p run purpose data) := by
  unfold State.intakeEnded
  split
  · exact State.ends_slotStateRead u ..
  · exact (State.goes_readFields u ..).ends
  · exact (State.goes_beginDirective u ..).ends
  · exact Goes.ends (.same rfl rfl rfl rfl)
  · exact Goes.ends (.same rfl rfl rfl rfl)
  · exact Goes.ends (.same rfl rfl rfl rfl)
  · exact State.ends_failTaken u ..
  · exact State.ends_failTaken u ..
  · exact State.ends_failTaken u ..
  · exact State.ends_failTaken u ..
  · exact State.ends_failTaken u ..
  · exact State.ends_beginWriteBack u p

theorem ends_finishDirective (d : DirectiveRun) : s.Ends c u (u.finishDirective p d) :=
  .after (State.ends_intakeFrom ..) (.same rfl rfl rfl rfl)

theorem ends_concludeDirective (d : DirectiveRun) (code : OutcomeCode) : s.Ends c u (u.concludeDirective p d code) :=
  .after (State.ends_finishDirective ..) (.plain (Cluster.plain_outcomeJoins ..))

/-! ## Gather -/

theorem goes_slotVisited (k : Carrier) (first second : Byte) (used users : Nat) :
    s.Goes c u (u.slotVisited k first second used users) := by
  have visited (r : State) (freshness : Nat) : s.Goes c r (r.on fun w => w.editCtx k
      (Context.visitSlot freshness first second used users)) := by
    refine .plain (Cluster.plain_setCtx k (Context.plain_edit (Context.plain_visitSlot ..)) ?_)
    refine Cluster.alike_editCtx _ k _ ?_ ?_ ?_
    · exact (Context.plain_visitSlot ..).state
    all_goals
      simp only [Context.visitSlot, Context.ageClass, Context.takeObservation, Context.applyObservation,
        Context.missObservation]
      repeat' split
      all_goals rfl
  unfold State.slotVisited
  dsimp only
  split
  · exact visited u _
  · exact .after (visited _ _) ⟨id, id, id, fun _ => bump_le _ _⟩

theorem goes_starvationCheck (taken visited failed : Bool) : s.Goes c u (u.starvationCheck taken visited failed) := by
  have counted : s.Goes c u { u with starvation := bump 255 u.starvation } := ⟨id, id, fun _ => bump_le _ _, id⟩
  unfold State.starvationCheck
  split
  · exact ⟨id, id, fun _ => Nat.zero_le _, id⟩
  · split
    · exact .refl
    · dsimp only
      split
      · refine counted.trans (.after .testReleasingEnd ?_)
        refine .after (.on (f := fun w => w.unwindAll .failsafe) (.unwindAll _ _)) ?_
        exact .after (.plain (f := fun w => w.notify .failsafe) (Cluster.plain_notify ..)) (.same rfl rfl rfl rfl)
      · exact counted

theorem ends_endGather (taken visited failed : Bool) : s.Ends c u (u.endGather p taken visited failed) := by
  refine .after ?_ (State.goes_starvationCheck u taken visited failed)
  unfold State.endGather
  dsimp only
  split
  · exact State.ends_beginWriteBack ..
  · exact State.ends_intakeFrom ..

theorem ends_gatherFrom (taken visited : Bool) (start : Nat) : s.Ends c u (u.gatherFrom p taken visited start) := by
  unfold State.gatherFrom
  split
  · exact Goes.ends (.same rfl rfl rfl rfl)
  · exact State.ends_endGather u ..

theorem ends_gatherEnded (taken visited : Bool) (purpose : Purpose) (data : Option (List Byte)) :
    s.Ends c u (u.gatherEnded p taken visited purpose data) := by
  unfold State.gatherEnded
  split
  · exact Goes.ends (.same rfl rfl rfl rfl)
  · exact Goes.ends (.same rfl rfl rfl rfl)
  · exact .after (State.ends_gatherFrom ..) (State.goes_slotVisited u ..)
  · exact State.ends_endGather u ..

/-! ## The ends of accesses -/

theorem goes_cutEnded (purpose : Purpose) (data : Option (List Byte)) : s.Goes c u (u.cutEnded purpose data) :=
  .after (State.goes_endPass _ _) (.same rfl rfl rfl rfl)

theorem ends_passEnded (purpose : Purpose) (data : Option (List Byte)) : s.Ends c u (u.passEnded p purpose data) := by
  unfold State.passEnded
  split
  · exact State.ends_writeBackEnded u ..
  · split
    · exact (State.goes_cutEnded u ..).ends
    · exact State.ends_gatherEnded u ..
  · split
    · exact (State.goes_cutEnded u ..).ends
    · exact State.ends_intakeEnded u ..
  · exact Goes.refl.ends

theorem goes_settleWindow (ws : Vector WindowEntry 8) (n : WindowNo) : s.Goes c u (u.settleWindow ws n) := by
  unfold State.settleWindow
  dsimp only
  split
  · exact .same rfl rfl rfl rfl
  · split
    · exact .act (.closeEffects _ n) rfl rfl rfl
    · exact .same rfl rfl rfl rfl

theorem goes_applyWindows (ws : Vector WindowEntry 8) (order : List WindowNo) : s.Goes c u (u.applyWindows ws order) := by
  unfold State.applyWindows
  induction completeWindows order generalizing u with
  | nil => exact .refl
  | cons n ns ih => exact (State.goes_settleWindow u ws n).trans (ih _)

theorem goes_startupEnded (v : Startup) (purpose : Purpose) {data : Option (List Byte)}
    (h : data.isSome = true → u.cluster = s.cluster) (hs : s.startup ≠ none) : s.Goes c u (u.startupEnded v purpose data) := by
  unfold State.startupEnded
  split
  · unfold State.startupRead
    split
    · exact .same rfl rfl rfl rfl
    · next policy =>
      have read (r : State) (b : BitVec 20) (o l : Nat) (q : Purpose) : s.Goes c r (r.read b o l q) := .same rfl rfl rfl rfl
      refine .after (read _ _ _ _ _) (.after (State.goes_applyWindows _ _ _) ?_)
      exact .same rfl rfl rfl rfl
    · dsimp only
      split
      · exact .same rfl rfl rfl rfl
      · refine .act ?_ rfl rfl rfl
        show Cluster.Act c s u.cluster (u.cluster.configure _)
        rw [h rfl]
        exact .configure _ hs
    · exact .refl
  · exact .same rfl rfl rfl rfl

theorem ends_accessEnded (purpose : Purpose) {data : Option (List Byte)} (h : data.isSome = true → u.cluster = s.cluster)
    (hs : u.startup = s.startup) : s.Ends c u (u.accessEnded purpose data) := by
  unfold State.accessEnded
  split
  · exact State.ends_passEnded ..
  · split
    · next v hv => exact (State.goes_startupEnded u v purpose h (by rw [← hs, hv]; simp)).ends
    · exact Goes.refl.ends

end
end State

/-! ## The commands -/

namespace State

variable {c : Instr} {s t : State}

theorem ends_accessFailed (a : Access) : s.Ends c s (s.accessFailed a) := by
  have counted : s.Goes c s ({ s with port := none }.countFailure) := .act (.plain (Cluster.plain_notify ..)) rfl rfl rfl
  rw [State.accessFailed]
  exact .after (State.ends_accessEnded _ a.purpose (fun h => nomatch h) rfl) counted

theorem ends_accessCompleted (a : Access) (data : List Byte) : s.Ends c s (s.accessCompleted a data) := by
  have freed : s.Goes c s { s with port := none } := .same rfl rfl rfl rfl
  rw [State.accessCompleted]
  exact .after (State.ends_accessEnded _ a.purpose (fun _ => rfl) rfl) freed

theorem ends_leaveRunning (u : State) : s.Ends c u u.leaveRunning := by
  unfold State.leaveRunning
  split
  · split
    · split
      · exact State.ends_beginWriteBack ..
      · exact Goes.ends (.same rfl rfl rfl rfl)
    · exact Goes.refl.ends
  · exact Goes.refl.ends

theorem goes_refuse : s.Goes c s s.refuse := .same rfl rfl rfl rfl

theorem ends_run (ht : execRun s = .next t) : s.Ends c s t := by
  unfold execRun at ht
  cases ht
  refine Goes.ends ?_
  split
  · split
    · unfold State.beginStartup
      dsimp only
      split <;> exact .same rfl rfl rfl rfl
    · exact goes_refuse
  · exact .same rfl rfl rfl rfl
  all_goals exact goes_refuse

theorem ends_hold (ht : execHold s = .next t) : s.Ends c s t := by
  unfold execHold at ht
  cases ht
  split
  · exact .after (State.ends_leaveRunning _) (.same rfl rfl rfl rfl)
  all_goals exact goes_refuse.ends

theorem ends_release (ht : execRelease s = .next t) : s.Ends c s t := by
  have released : s.Ends c s s.release := by
    unfold State.release
    refine .after (State.ends_leaveRunning _) (.after .testReleasingEnd ?_)
    exact .after (.on (f := fun w => w.unwindAll .release) (.unwindAll _ _)) (.same rfl rfl rfl rfl)
  unfold execRelease at ht
  cases ht
  split
  · exact released
  · exact released
  all_goals exact goes_refuse.ends

theorem goes_cutPass (u : State) : s.Goes c u u.cutPass := by
  unfold State.cutPass
  split
  · split <;> exact .same rfl rfl rfl rfl
  · exact .refl

theorem ends_halt (ht : execHalt s = .next t) : s.Ends .halt s t := by
  unfold execHalt at ht
  cases ht
  refine Goes.ends ?_
  split
  · next quiet =>
    refine .after (State.goes_cutPass _) ⟨fun h => h.tail (.halt _ quiet.2 rfl), id, fun _ => Nat.zero_le _, fun _ => Nat.zero_le _⟩
  · exact goes_refuse

theorem ends_expire (u : State) : s.Ends c u u.expire := by
  unfold State.expire
  dsimp only
  split
  · exact Goes.refl.ends
  · split <;> exact Goes.ends (.same rfl rfl rfl rfl)
  all_goals
    split
    · exact Goes.ends (.same rfl rfl rfl rfl)
    · exact .after (State.ends_beginWriteBack ..) (.same rfl rfl rfl rfl)

theorem ends_sweepBegin (ht : execSweepBegin s = .next t) : s.Ends c s t := by
  unfold execSweepBegin at ht
  cases ht
  split
  · exact .after (State.ends_gatherFrom ..) (.same rfl rfl rfl rfl)
  · exact Goes.refl.ends

theorem ends_visitNext (p : Pass) (position : Nat) : s.Ends c s (s.visitNext p position) := by
  unfold State.visitNext
  split
  · next h =>
    have visited : s.Goes c s (s.on fun w => w.passVisit s.setting ⟨position, h⟩).testReleasingEnd :=
      .after .testReleasingEnd (.on (.passVisit _ _))
    dsimp only
    split
    · exact visited.then (Goes.ends (.same rfl rfl rfl rfl))
    · exact visited.then (State.ends_beginWriteBack ..)
  · exact State.ends_beginWriteBack ..

theorem ends_decisionVisit (ht : execDecisionVisit s = .next t) : s.Ends c s t := by
  unfold execDecisionVisit at ht
  cases ht
  split
  · split
    · exact State.ends_visitNext ..
    · exact Goes.refl.ends
  · exact Goes.refl.ends

/-! ### Directives -/

theorem goes_walk {act : Cluster → Carrier → Cluster × Bool} (acts : ∀ w k, Cluster.Act c s w (act w k).1) (n : Nat)
    (w : Cluster) (d : DirectiveRun) (h : s.Reaches c w) : s.Reaches c (DirectiveRun.walk act n w d).1 :=
  DirectiveRun.walk_keeps (P := fun w => s.Reaches c w) (fun w k g => g.tail (acts w k)) n w d h

theorem ends_walkDirective {act : Cluster → Carrier → Cluster × Bool} (acts : ∀ w k, Cluster.Act c s w (act w k).1) (u : State)
    (p : Pass) (d : DirectiveRun) (n : Nat) : s.Ends c u (u.walkDirective p d n act) := by
  have walked : s.Goes c u (u.on fun _ => (DirectiveRun.walk act n u.cluster { d with begun := true }).1).testReleasingEnd :=
    .after .testReleasingEnd ⟨fun h => goes_walk acts n _ _ h, id, id, id⟩
  unfold State.walkDirective
  dsimp only
  split
  · exact walked.then (State.ends_concludeDirective ..)
  · exact walked.then (Goes.ends (.same rfl rfl rfl rfl))

theorem goes_walkRows (p : Pass) (n : Nat) (u : State) (d : DirectiveRun) : s.Goes c u (State.walkRows p n u d).1 := by
  induction n generalizing u d with
  | zero => exact .refl
  | succ n ih =>
    unfold State.walkRows
    split
    · next hpos =>
      dsimp only
      split
      · next row _ =>
        refine .after (ih _ _) ?_
        unfold State.takeRow
        split
        · next ok => exact .on (f := fun w => (w.applyRow _ row).1) (.applyRow _ _ row ok)
        · exact .refl
      · split
        · split
          · exact .same rfl rfl rfl rfl
          · exact ih _ _
        · exact ih _ _
    · exact .refl

theorem ends_loadPolicy {order : List WindowNo} (ht : execLoadPolicy order s = .next t) : s.Ends c s t := by
  unfold execLoadPolicy at ht
  cases ht
  split
  · split
    · next policy windows _ =>
      refine .after (State.ends_concludeDirective ..) (.after .testReleasingEnd (.after (State.goes_applyWindows _ windows order) ?_))
      exact .same rfl rfl rfl rfl
    · exact Goes.refl.ends
  · exact Goes.refl.ends

theorem ends_loadCarriers {count : Nat} (ht : execLoadCarriers count s = .next t) : s.Ends c s t := by
  unfold execLoadCarriers at ht
  cases ht
  split
  · next p d _ =>
    have walked := (goes_walkRows (c := c) (s := s) p count s { d with begun := true }).trans .testReleasingEnd
    dsimp only
    split
    · exact walked.then (State.ends_concludeDirective ..)
    · exact walked.then (Goes.ends (.same rfl rfl rfl rfl))
  · exact Goes.refl.ends

theorem ends_setClock (ht : execSetClock s = .next t) : s.Ends c s t := by
  unfold execSetClock at ht
  cases ht
  split
  · split
    · exact .after (State.ends_concludeDirective ..) (.same rfl rfl rfl rfl)
    · exact State.ends_concludeDirective ..
  · exact Goes.refl.ends

theorem ends_holdOn {count : Nat} (ht : execHoldOn count s = .next t) : s.Ends c s t := by
  unfold execHoldOn at ht
  cases ht
  split
  · exact State.ends_walkDirective (fun w k => .holdOn w _ k) ..
  · exact Goes.refl.ends

theorem ends_releaseHold {count : Nat} (ht : execReleaseHold count s = .next t) : s.Ends c s t := by
  unfold execReleaseHold at ht
  cases ht
  split
  · exact State.ends_walkDirective .releaseHold ..
  · exact Goes.refl.ends

theorem ends_sleepNow {count : Nat} (ht : execSleepNow count s = .next t) : s.Ends c s t := by
  unfold execSleepNow at ht
  cases ht
  split
  · split
    · exact State.ends_concludeDirective ..
    · split
      · exact State.ends_walkDirective (fun w _ => .plain (Cluster.plain_refl w)) ..
      · exact State.ends_walkDirective (fun w k => .sleepNow w _ _ k) ..
  · exact Goes.refl.ends

theorem ends_probe {count : Nat} (ht : execProbe count s = .next t) : s.Ends c s t := by
  unfold execProbe at ht
  cases ht
  split
  · next p d _ =>
    dsimp only
    have begun (g : s.Reaches c s.cluster) : s.Reaches c (if d.begun then s.cluster else s.cluster.placeProbe d.slot) := by
      split
      · exact g
      · exact g.tail (.placeProbe ..)
    have walked (g : s.Reaches c s.cluster) :=
      goes_walk (fun w k => .probe w d.slot k) count _ { d with begun := true } (begun g)
    generalize DirectiveRun.walk (probeCarrier d.slot) count (if d.begun then s.cluster else s.cluster.placeProbe d.slot)
      { d with begun := true } = r at walked ⊢
    split
    · exact .after (State.ends_finishDirective ..) ⟨fun g => (walked g).tail (.endSelection ..), id, id, id⟩
    · exact .after (Goes.ends (.same rfl rfl rfl rfl)) (v := s.on fun _ => r.1) ⟨walked, id, id, id⟩
  · exact Goes.refl.ends

theorem ends_clearTally (ht : execClearTally s = .next t) : s.Ends c s t := by
  unfold execClearTally at ht
  cases ht
  split
  · refine .after (State.ends_concludeDirective ..) (.act (.plain ?_) rfl rfl rfl)
    exact Cluster.plain_editAll (f := fun x => { x with lightMinutes := 0, darkMinutes := 0 })
      (fun _ => ⟨rfl, rfl, rfl, rfl, rfl, fun _ => rfl, id⟩)
      (Cluster.alike_editAll _ _ (fun _ => rfl) (fun _ => rfl) fun _ => rfl)
  · exact Goes.refl.ends

theorem ends_directiveUnknownKind (ht : execDirectiveUnknownKind s = .next t) : s.Ends c s t := by
  unfold execDirectiveUnknownKind at ht
  cases ht
  split
  · exact State.ends_concludeDirective ..
  · exact Goes.refl.ends

/-! ### Clock and windows -/

theorem goes_closeMatch (u : State) (n : WindowNo) : s.Goes c u (u.closeMatch n) := by
  unfold State.closeMatch
  split
  · exact .refl
  · exact .act (.closeEffects _ n) rfl rfl rfl

theorem goes_openMatch (u : State) (n : WindowNo) : s.Goes c u (u.openMatch n) := by
  unfold State.openMatch
  split
  · exact .act (.plain (Cluster.plain_editAll (Context.plain_open n) (Cluster.alike_openEffects _ n))) rfl rfl rfl
  · exact .refl

theorem goes_deepStopMatch (u : State) (n : WindowNo) : s.Goes c u (u.deepStopMatch n) := by
  unfold State.deepStopMatch
  split
  · exact .act (.deepStopEffects _ n) rfl rfl rfl
  · exact .refl

theorem goes_shallowFollowUp (u : State) (n : WindowNo) : s.Goes c u (u.shallowFollowUp n) := by
  unfold State.shallowFollowUp
  split
  · exact .act (.followUp _ n) rfl rfl rfl
  · exact .refl

theorem goes_evalWindow (u : State) (m : MinuteStamp) (n : WindowNo) : s.Goes c u (u.evalWindow m n) := by
  have branch {b : Bool} {u v w : State} (hu : s.Goes c u v) (hv : s.Goes c v w) : s.Goes c u (if b then w else v) := by
    cases b
    · exact hu
    · exact hu.trans hv
  unfold State.evalWindow
  exact .after (goes_shallowFollowUp _ n) (branch (branch (branch .refl (goes_closeMatch u n)) (goes_openMatch _ n))
    (goes_deepStopMatch _ n))

theorem goes_minutePart (u : State) (m : MinuteStamp) (part : MinutePart) : s.Goes c u (u.minutePart m part) := by
  cases part with
  | window n => exact goes_evalWindow u m n
  | countdown =>
    simp only [State.minutePart]
    split
    · exact .refl
    · exact .plain (Cluster.plain_editAll Context.plain_countDown (Cluster.alike_countDown _))
  | accounting =>
    simp only [State.minutePart]
    split
    · exact .refl
    · generalize min tallyTop (u.fleetTally + u.cluster.saving) = tally
      exact .act (.plain (Cluster.plain_editAll Context.plain_account (Cluster.alike_account _))) rfl rfl rfl

theorem goes_minuteParts (m : MinuteStamp) (parts : List MinutePart) (u : State) :
    s.Goes c u (parts.foldl (fun v p => v.minutePart m p) u) := by
  induction parts generalizing u with
  | nil => exact .refl
  | cons part parts ih => exact (goes_minutePart u m part).trans (ih _)

theorem ends_minuteEvent {order : List MinutePart} (ht : execMinuteEvent order s = .next t) : s.Ends c s t := by
  unfold execMinuteEvent at ht
  cases ht
  refine Goes.ends ?_
  split
  · next m ms _ =>
    refine .after .testReleasingEnd (.after (.plain (f := fun w => w.notify .minute) (Cluster.plain_notify ..)) ?_)
    exact .after (goes_minuteParts m _ _) (.same rfl rfl rfl rfl)
  · exact .refl

/-! ### Lanes and links -/

theorem goes_wantWaitExpiry {k : Carrier} (ht : execWantWaitExpiry k s = .next t) : s.Goes (.wantWaitExpiry k) s t := by
  unfold execWantWaitExpiry at ht
  cases ht
  split
  · exact .on (f := fun w => w.testGrant (siteOf k) s.runState s.policy.timeouts) (.testGrant _ _ _ _ (.inr ⟨k, rfl, rfl⟩))
  · exact .refl

theorem goes_commandTimeout {i : Site} (ht : execCommandTimeout i s = .next t) : s.Goes (.commandTimeout i) s t := by
  unfold execCommandTimeout at ht
  cases ht
  split
  · exact .after .testReleasingEnd (.on (f := fun w => w.commandTimeout i) (.commandTimeout _ i rfl))
  · exact .refl

theorem goes_radioReply {i : Site} {frame : List Byte} (ht : execRadioReply i frame s = .next t) :
    s.Goes (.radioReply i frame) s t := by
  unfold execRadioReply at ht
  cases ht
  split
  · next r _ =>
    split
    · exact .after .testReleasingEnd (.on (f := fun w => w.takeReply s.policy i r) (.takeReply _ _ i r frame rfl))
    · exact .same rfl rfl rfl rfl
  · exact .same rfl rfl rfl rfl

theorem goes_linkUp {i : Site} (ht : execLinkUp i s = .next t) : s.Goes (.linkUp i) s t := by
  unfold execLinkUp at ht
  cases ht
  split
  · exact .refl
  · exact .on (.linkUp _ i rfl)

theorem goes_linkDown {i : Site} (ht : execLinkDown i s = .next t) : s.Goes (.linkDown i) s t := by
  unfold execLinkDown at ht
  cases ht
  split
  · exact .after .testReleasingEnd (.on (f := fun w => w.linkDown i) (.linkDown _ i rfl))
  · exact .refl

theorem goes_laneGrant {i : Site} (ht : execLaneGrant i s = .next t) : s.Goes (.laneGrant i) s t := by
  cases ht
  exact .on (f := fun w => w.testGrant i s.runState s.policy.timeouts) (.testGrant _ _ _ _ (.inl rfl))

/-- Every command but power-on reset goes its course of acts. -/
theorem ends_exec (ht : Machine.exec c s = .next t) (reset : c ≠ .powerOnReset) : s.Ends c s t := by
  cases c with
  | powerOnReset => exact absurd rfl reset
  | xbaseWrite v =>
    cases ht
    refine Goes.ends ?_
    split
    · exact .act (.plain (Cluster.plain_markAllDirty _)) rfl rfl rfl
    · exact goes_refuse
  | run => exact ends_run ht
  | hold => exact ends_hold ht
  | release => exact ends_release ht
  | halt => exact ends_halt ht
  | sweepNow =>
    have g : execSweepNow s = .next t := ht
    unfold execSweepNow at g
    cases g
    refine Goes.ends ?_
    split
    · exact .same rfl rfl rfl rfl
    all_goals exact goes_refuse
  | runctlInvalidCode code => cases ht; exact goes_refuse.ends
  | noteWrite v => cases ht; exact Goes.ends (.plain (f := fun w => { w with note := w.note &&& v.setWidth 6 }) (Cluster.plain_note _ _))
  | noteenWrite v => cases ht; exact Goes.ends (.same rfl rfl rfl rfl)
  | registerWriteIgnored => cases ht; exact Goes.refl.ends
  | memoryAccessComplete n data =>
    have g : execMemoryAccessComplete n data s = .next t := ht
    unfold execMemoryAccessComplete at g
    cases g
    split
    · split
      · exact ends_accessCompleted ..
      · exact Goes.refl.ends
    · exact Goes.refl.ends
  | memoryAccessError n =>
    have g : execMemoryAccessError n s = .next t := ht
    unfold execMemoryAccessError at g
    cases g
    split
    · split
      · exact ends_accessFailed _
      · exact Goes.refl.ends
    · exact Goes.refl.ends
  | memoryAccessTimeout =>
    have g : execMemoryAccessTimeout s = .next t := ht
    unfold execMemoryAccessTimeout at g
    cases g
    split
    · exact ends_accessFailed _
    · exact Goes.refl.ends
  | sweepTimerExpiry => cases ht; exact ends_expire s
  | sweepBegin => exact ends_sweepBegin ht
  | loadPolicy => exact ends_loadPolicy ht
  | loadCarriers => exact ends_loadCarriers ht
  | setClock => exact ends_setClock ht
  | holdOn => exact ends_holdOn ht
  | releaseHold => exact ends_releaseHold ht
  | sleepNow => exact ends_sleepNow ht
  | probe => exact ends_probe ht
  | clearTally => exact ends_clearTally ht
  | directiveUnknownKind => exact ends_directiveUnknownKind ht
  | decisionVisit => exact ends_decisionVisit ht
  | hundredMsTick =>
    cases ht
    refine Goes.ends ?_
    unfold State.hundredTick
    split
    · exact .refl
    · exact .act (.plain (Cluster.plain_hundredTick _)) rfl rfl rfl
  | wantWaitExpiry k => exact (goes_wantWaitExpiry ht).ends
  | commandTimeout => exact (goes_commandTimeout ht).ends
  | laneGrant => exact (goes_laneGrant ht).ends
  | radioReply => exact (goes_radioReply ht).ends
  | linkUp => exact (goes_linkUp ht).ends
  | linkDown => exact (goes_linkDown ht).ends
  | civilClockSecond =>
    cases ht
    refine Goes.ends ?_
    unfold State.clockSecond
    split <;> exact .same rfl rfl rfl rfl
  | minuteEvent => exact ends_minuteEvent ht

end State

end Sys2Proof.Machine
end

section
/-! What every command keeps, every step keeps; and what the acts keep of contexts, stacks, commands and channels. -/

namespace Sys2Proof.Machine

/-! ## From commands to steps -/

/-- The step's own part: the queue, the choices, the timer's counters, the clock's divider, and the wait of an access. -/
def State.Ticked (s t : State) : Prop :=
  ∃ (timer : Timer) (clock : Clock) (waited : Access → Nat) (choices : Nat) (pending : List Instr),
    t = { s with timer, clock, port := s.port.map fun a => { a with waited := waited a }, choices, pending }

theorem State.Ticked.of_port {s t : State} {timer : Timer} {clock : Clock} {choices : Nat} {pending : List Instr}
    (h : t = { s with timer, clock, choices, pending }) : s.Ticked t := by
  refine ⟨timer, clock, Access.waited, choices, pending, h.trans ?_⟩
  cases hp : s.port <;> simp [← hp]

/-- What every command keeps, and the step's own part, a step keeps. -/
theorem State.step_keeps {P : State → Prop} (exec : ∀ c s t, P s → Machine.exec c s = .next t → P t)
    (ticked : ∀ s t, State.Ticked s t → P s → P t) {s t : State} (h : P s) (ht : step s = .next t) : P t := by
  have access {s : State} (h : P s) : P s.accessCycle := by
    obtain ⟨none, some⟩ := s.accessCycle_cycled
    cases hp : s.port with
    | none => rwa [none hp]
    | some a =>
      have := some a hp
      split at this
      · rw [this]
        exact ticked s _ ⟨s.timer, s.clock, fun _ => a.waited + 1, s.choices, s.pending, by rw [hp]; rfl⟩ h
      · exact exec _ _ _ h this
  have clock {s : State} (h : P s) : P s.clockCycle := by
    have := s.clockCycle_cycled
    unfold State.ClockCycled at this
    split at this
    · rwa [this]
    · split at this
      · rw [this]
        exact ticked s _ (.of_port (timer := s.timer) (choices := s.choices) (pending := s.pending) rfl) h
      · exact exec _ _ _ h this
  have timer {s : State} (h : P s) : P s.timerCycle := by
    have tick (k : Timer) : P { s with timer := k } :=
      ticked s _ (.of_port (clock := s.clock) (choices := s.choices) (pending := s.pending) rfl) h
    have := s.timerCycle_cycled
    unfold State.TimerCycled at this
    split at this
    · rwa [this]
    · split at this
      · rw [this]; exact tick _
      · obtain ⟨u, hu, hundred⟩ := this
        have expired : P u := by
          split at hu
          · exact exec _ _ _ (tick _) hu
          · rw [hu]; exact tick _
        split at hundred
        · exact exec _ _ _ expired hundred
        · rwa [hundred]
  unfold Machine.step at ht
  split at ht
  · next rest _ =>
    exact exec _ _ _ (ticked s _ (.of_port (timer := s.timer) (clock := s.clock) (choices := s.choices) (pending := rest) rfl) h) ht
  · unfold idleStep at ht
    split at ht
    · exact exec _ _ _ (ticked s _ (.of_port (timer := s.timer) (clock := s.clock) (pending := s.pending) rfl) h) ht
    · cases ht
      exact timer (clock (access h))

/-- A relation to the command's first cluster that the acts and a record's issue keep holds when the command has ended. -/
theorem State.Ends.induct {c : Instr} {s t : State} (h : s.Ends c s t) {R : Cluster → Prop} (start : R s.cluster)
    (act : ∀ w v, R w → Cluster.Act c s w v → R v)
    (issue : ∀ w k, R w → R (w.setCtx k { w.ctx k with dirty := false })) : R t.cluster := by
  obtain ⟨v, reached, ended⟩ := h.reaches .refl
  have hv : R v := by
    clear ended
    induction reached with
    | refl => exact start
    | tail _ hact ih => exact act _ _ ih hact
  rcases ended with g | ⟨k, e, a, g, _⟩
  · rwa [g]
  · rw [g]
    exact issue v k hv

/-! ## How a context moves -/

/-- From x to y a change of state leaves the dwell counts 0 and the context dirty, and clears what belongs to the state left
(R26); what is cleared stays so. -/
structure Context.Settles (x y : Context) : Prop where
  sleepCount : x.sleepCount = 0 → y.sleepCount = 0
  wakeCount : x.wakeCount = 0 → y.wakeCount = 0
  lightRun : x.lightRun = 0 → y.lightRun = 0 ∨ y.state = .light
  probeOrigin : x.probeOrigin = none → y.probeOrigin = none ∨ y.state = .unknown
  strayStep : x.strayStep = none → y.strayStep = none ∨ y.state = .stray
  dirty : x.dirty = true → y.dirty = true
  entered : y.state ≠ x.state → y.sleepCount = 0 ∧ y.wakeCount = 0 ∧ y.dirty = true ∧ (x.state = .light → y.lightRun = 0) ∧
    (x.state = .unknown → y.probeOrigin = none) ∧ (x.state = .stray → y.strayStep = none)

/-- The change of state alone (R26). -/
def Context.Entered (x y : Context) : Prop :=
  y.state ≠ x.state → y.sleepCount = 0 ∧ y.wakeCount = 0 ∧ y.dirty = true ∧ (x.state = .light → y.lightRun = 0) ∧
    (x.state = .unknown → y.probeOrigin = none) ∧ (x.state = .stray → y.strayStep = none)

/-- A PROBE holds the carrier: it is UNKNOWN with a probe origin (R30). -/
def Context.Probed (x : Context) : Prop := x.state = .unknown ∧ x.probeOrigin ≠ none

namespace Context

variable {x y z : Context}

theorem Entered.then (h : x.Entered y) (g : y.Settles z) : x.Entered z := by
  intro ne
  by_cases same : z.state = y.state
  · obtain ⟨sleep, wake, dirty, light, origin, step⟩ := h (same ▸ ne)
    refine ⟨g.sleepCount sleep, g.wakeCount wake, g.dirty dirty, fun hx => ?_, fun hx => ?_, fun hx => ?_⟩
    · exact (g.lightRun (light hx)).resolve_right (hx ▸ ne)
    · exact (g.probeOrigin (origin hx)).resolve_right (hx ▸ ne)
    · exact (g.strayStep (step hx)).resolve_right (hx ▸ ne)
  · obtain ⟨sleep, wake, dirty, light, origin, step⟩ := g.entered same
    refine ⟨sleep, wake, dirty, fun hx => ?_, fun hx => ?_, fun hx => ?_⟩
    · by_cases k : y.state = x.state
      · exact light (k.trans hx)
      · exact (g.lightRun ((h k).2.2.2.1 hx)).resolve_right (hx ▸ ne)
    · by_cases k : y.state = x.state
      · exact origin (k.trans hx)
      · exact (g.probeOrigin ((h k).2.2.2.2.1 hx)).resolve_right (hx ▸ ne)
    · by_cases k : y.state = x.state
      · exact step (k.trans hx)
      · exact (g.strayStep ((h k).2.2.2.2.2 hx)).resolve_right (hx ▸ ne)

theorem Settles.refl (x : Context) : x.Settles x := ⟨id, id, .inl, .inl, .inl, id, fun h => absurd rfl h⟩

theorem Settles.trans (h : x.Settles y) (g : y.Settles z) : x.Settles z where
  sleepCount := g.sleepCount ∘ h.sleepCount
  wakeCount := g.wakeCount ∘ h.wakeCount
  dirty := g.dirty ∘ h.dirty
  entered := Entered.then (x := x) h.entered g
  lightRun hx := by
    rcases h.lightRun hx with k | k
    · exact g.lightRun k
    · by_cases same : z.state = y.state
      · exact .inr (same.trans k)
      · exact .inl ((g.entered same).2.2.2.1 k)
  probeOrigin hx := by
    rcases h.probeOrigin hx with k | k
    · exact g.probeOrigin k
    · by_cases same : z.state = y.state
      · exact .inr (same.trans k)
      · exact .inl ((g.entered same).2.2.2.2.1 k)
  strayStep hx := by
    rcases h.strayStep hx with k | k
    · exact g.strayStep k
    · by_cases same : z.state = y.state
      · exact .inr (same.trans k)
      · exact .inl ((g.entered same).2.2.2.2.2 k)

/-- A change that keeps the state, and the counts or sets them 0. -/
theorem Settles.of_same (state : y.state = x.state) (sleepCount : y.sleepCount = x.sleepCount ∨ y.sleepCount = 0)
    (wakeCount : y.wakeCount = x.wakeCount ∨ y.wakeCount = 0)
    (lightRun : y.lightRun = x.lightRun ∨ y.lightRun = 0 ∨ x.state = .light)
    (probeOrigin : y.probeOrigin = x.probeOrigin ∨ x.state = .unknown) (strayStep : y.strayStep = x.strayStep ∨ x.state = .stray)
    (dirty : x.dirty = true → y.dirty = true) : x.Settles y where
  sleepCount h := sleepCount.elim (·.trans h) id
  wakeCount h := wakeCount.elim (·.trans h) id
  lightRun h := lightRun.elim (fun k => .inl (k.trans h)) (.imp id state.trans)
  probeOrigin h := probeOrigin.imp (·.trans h) state.trans
  strayStep h := strayStep.imp (·.trans h) state.trans
  dirty := dirty
  entered h := absurd state h

theorem Plain.settles (h : x.Plain y) : x.Settles y := by
  refine .of_same h.state (.inl h.sleepCount) (.inl h.wakeCount) ?_ (.inl h.probeOrigin) (.inl h.strayStep) h.dirty
  by_cases hx : x.state = .light
  · exact .inr (.inr hx)
  · exact .inl (h.lightRun hx)

/-- The edit that a rule makes beside the change of state is of fields that no state change clears, or sets them anew. -/
theorem Settles.of_enter {st : CarrierState} {f : Context → Context} (state : (f x).state = st)
    (sleepCount : (f x).sleepCount = 0) (wakeCount : (f x).wakeCount = 0)
    (lightRun : (f x).lightRun = (x.enter st).lightRun ∨ (f x).lightRun = 0)
    (probeOrigin : (f x).probeOrigin = (x.enter st).probeOrigin ∨ (f x).probeOrigin = none ∨ (st = .unknown ∧ x.state ≠ .unknown))
    (strayStep : (f x).strayStep = (x.enter st).strayStep ∨ (st = .stray ∧ x.state ≠ .stray) ∨ st = .stray)
    (dirty : (f x).dirty = x.dirty) : x.Settles (x.edit f) where
  sleepCount _ := sleepCount
  wakeCount _ := wakeCount
  lightRun h := by
    refine .inl (lightRun.elim (fun k => k.trans ?_) id)
    simp [Context.enter, h]
  probeOrigin h := by
    rcases probeOrigin with k | k | k
    · exact .inl (k.trans (by simp [Context.enter, h]))
    · exact .inl k
    · exact .inr (state.trans k.1)
  strayStep h := by
    rcases strayStep with k | k | k
    · exact .inl (k.trans (by simp [Context.enter, h]))
    · exact .inr (state.trans k.1)
    · exact .inr (state.trans k)
  dirty h := by simp [Context.dirty_edit, dirty, h]
  entered ne := by
    have ne' : st ≠ x.state := fun k => ne (state.trans k)
    refine ⟨sleepCount, wakeCount, ?_, fun hx => ?_, fun hx => ?_, fun hx => ?_⟩
    · rw [Context.dirty_edit, Bool.or_eq_true, decide_eq_true_eq]
      exact .inr fun k => ne (congrArg MirrorView.state k)
    · exact lightRun.elim (fun k => k.trans (by simp [Context.enter, hx, hx ▸ ne'])) id
    · rcases probeOrigin with k | k | k
      · exact k.trans (by simp [Context.enter, hx, hx ▸ ne'])
      · exact k
      · exact absurd hx k.2
    · rcases strayStep with k | k | k
      · exact k.trans (by simp [Context.enter, hx, hx ▸ ne'])
      · exact absurd hx k.2
      · exact absurd (k.trans hx.symm) ne'

/-- An edit that keeps the state and what a state change clears. -/
theorem Settles.edit {f : Context → Context} (h : x.Settles (f x)) (state : (f x).state = x.state) : x.Settles (x.edit f) :=
  ⟨h.sleepCount, h.wakeCount, h.lightRun, h.probeOrigin, h.strayStep, fun g => by simp [Context.dirty_edit, h.dirty g],
    fun ne => absurd state ne⟩

theorem Roused.settles (h : Roused x y) : x.Settles y := by
  induction h with
  | refl => exact .refl _
  | trans _ _ ih jh => exact ih.trans jh
  | dirtied => exact .of_same rfl (.inl rfl) (.inl rfl) (.inl rfl) (.inl rfl) (.inl rfl) fun _ => rfl
  | noted => exact .edit (.of_same rfl (.inl rfl) (.inl rfl) (.inl rfl) (.inl rfl) (.inl rfl) id) rfl
  | cancelled => exact .edit (.of_same rfl (.inl rfl) (.inl rfl) (.inl rfl) (.inl rfl) (.inl rfl) id) rfl
  | counted => exact .edit (.of_same rfl (.inl rfl) (.inr rfl) (.inl rfl) (.inl rfl) (.inl rfl) id) rfl
  | relinked => exact .of_enter (st := .unknown) rfl rfl rfl (.inl rfl) (.inr (.inl rfl)) (.inl rfl) rfl

theorem Roused.probed (h : Roused x y) (hx : x.Probed) : y.Probed := by
  induction h with
  | trans _ _ ih jh => exact jh (ih hx)
  | refl | dirtied | noted | counted | cancelled => exact hx
  | relinked x hs => rw [Context.Probed, hs] at hx; cases hx.1

end Context

/-! ## How the cluster moves -/

/-- Commands and channels are left. -/
structure Cluster.SameSent (w v : Cluster) : Prop where
  outstanding : ∀ i, (v.lane i).outstanding = (w.lane i).outstanding
  channel : ∀ i, v.channel i = w.channel i

/-- Commands, channels, PROBE records and outcomes are left, no stack comes to hold more than 8 entries, contexts settle, and but
for the carriers X a probed carrier stays so. -/
structure Cluster.Moves (X : Carrier → Prop) (w v : Cluster) : Prop where
  sent : w.SameSent v
  fits : w.StacksFit → v.StacksFit
  settles : ∀ c, (w.ctx c).Settles (v.ctx c)
  probed : ∀ c, ¬X c → (w.ctx c).Probed → (v.ctx c).Probed
  probes : v.probes = w.probes
  outcomes : v.outcomes = w.outcomes

/-- As Cluster.Moves, where the dwell counts may rise. -/
structure Cluster.Drifts (w v : Cluster) : Prop where
  sent : w.SameSent v
  fits : w.StacksFit → v.StacksFit
  entered : ∀ c, (w.ctx c).Entered (v.ctx c)
  probed : ∀ c, (w.ctx c).Probed → (v.ctx c).Probed
  probes : v.probes = w.probes
  outcomes : v.outcomes = w.outcomes

namespace Cluster

variable {u w v : Cluster} {X Y : Carrier → Prop}

theorem SameSent.refl (w : Cluster) : w.SameSent w := ⟨fun _ => rfl, fun _ => rfl⟩

theorem SameSent.trans (h : u.SameSent w) (g : w.SameSent v) : u.SameSent v :=
  ⟨fun i => (g.outstanding i).trans (h.outstanding i), fun i => (g.channel i).trans (h.channel i)⟩

theorem SameSent.tagsAgree (h : w.SameSent v) (g : w.TagsAgree) : v.TagsAgree := fun i => by
  rw [h.outstanding, h.channel]
  exact g i

namespace Moves

theorem trans (h : u.Moves X w) (g : w.Moves X v) : u.Moves X v :=
  ⟨h.sent.trans g.sent, g.fits ∘ h.fits, fun c => (h.settles c).trans (g.settles c),
    fun c hc p => g.probed c hc (h.probed c hc p), g.probes.trans h.probes, g.outcomes.trans h.outcomes⟩

theorem mono (h : u.Moves X v) (sub : ∀ c, X c → Y c) : u.Moves Y v :=
  ⟨h.sent, h.fits, h.settles, fun c hc => h.probed c fun g => hc (sub c g), h.probes, h.outcomes⟩

/-- Carriers roused, with the tables' other parts left and no stack deeper. -/
theorem of_roused (sent : w.SameSent v) (deeper : w.NoDeeper v) (roused : ∀ c, Context.Roused (w.ctx c) (v.ctx c))
    (only : w.OnlyCarriers v) : w.Moves X v :=
  ⟨sent, fun h k => Nat.le_trans (deeper k) (h k), fun c => (roused c).settles, fun c _ => (roused c).probed, only.probes,
    only.outcomes⟩

/-- Contexts left. -/
theorem of_ctx (sent : w.SameSent v) (fits : w.StacksFit → v.StacksFit) (ctx : ∀ c, v.ctx c = w.ctx c)
    (probes : v.probes = w.probes) (outcomes : v.outcomes = w.outcomes) : w.Moves X v :=
  ⟨sent, fits, fun c => ctx c ▸ .refl _, fun c _ h => ctx c ▸ h, probes, outcomes⟩

theorem refl (w : Cluster) : w.Moves X w := .of_ctx (.refl w) id (fun _ => rfl) rfl rfl

theorem setCtx {c : Carrier} {x : Context} (settles : (w.ctx c).Settles x) (probed : ¬X c → (w.ctx c).Probed → x.Probed) :
    w.Moves X (w.setCtx c x) where
  sent := ⟨fun _ => by simp, fun _ => by simp⟩
  fits h k := by simpa using h k
  settles d := by
    rw [Cluster.ctx_setCtx]
    split
    · next h => exact h ▸ settles
    · exact .refl _
  probed d hd hp := by
    rw [Cluster.ctx_setCtx]
    split
    · next h => subst h; exact probed hd hp
    · exact hp
  probes := rfl
  outcomes := rfl

theorem editCtx {c : Carrier} {f : Context → Context} (settles : (w.ctx c).Settles ((w.ctx c).edit f))
    (probed : ¬X c → (w.ctx c).Probed → (f (w.ctx c)).Probed) : w.Moves X (w.editCtx c f) := .setCtx settles probed

/-- An edit of fields that no state change clears. -/
theorem editPlain {c : Carrier} {f : Context → Context} (plain : (w.ctx c).Plain (f (w.ctx c))) : w.Moves X (w.editCtx c f) :=
  .editCtx (.edit plain.settles plain.state) fun _ h => ⟨plain.state.trans h.1, plain.probeOrigin.symm ▸ h.2⟩

theorem markDirty (w : Cluster) (c : Carrier) : w.Moves X (w.markDirty c) :=
  .setCtx (.of_same rfl (.inl rfl) (.inl rfl) (.inl rfl) (.inl rfl) (.inl rfl) fun _ => rfl) fun _ h => h

theorem notify (w : Cluster) (n : Notice) : w.Moves X (w.notify n) :=
  .of_ctx ⟨fun _ => by simp, fun _ => by simp⟩ (fun h k => by simpa using h k) (fun _ => by simp) rfl rfl

theorem setStack {c : Carrier} {es : List Entry} (short : (w.stack c).length ≤ 8 → es.length ≤ 8) :
    w.Moves X (w.setStack c es) := by
  refine .of_ctx ⟨fun _ => by simp, fun _ => by simp⟩ (fun h k => ?_) (fun _ => by simp) rfl rfl
  rw [Cluster.stack_setStack]
  split
  · exact short (h c)
  · exact h k

theorem editEntry (w : Cluster) (c : Carrier) (f : Entry → Entry) : w.Moves X (w.editEntry c f) :=
  .of_ctx ⟨fun _ => by simp, fun _ => by simp⟩ (fun h k => by rw [Cluster.length_editEntry]; exact h k) (fun _ => by simp)
    (Cluster.onlyCarriers_editEntry w c f).probes (Cluster.onlyCarriers_editEntry w c f).outcomes

theorem joinWant (w : Cluster) (c : Carrier) (command : RadioCommand) (wait attempt : Nat) :
    w.Moves X (w.joinWant c command wait attempt) :=
  .of_ctx ⟨fun i => Cluster.outstanding_joinWant w c command wait attempt i, fun _ => by simp⟩ (fun h k => by simpa using h k)
    (fun _ => by simp) (by simp) (by simp)

theorem want (w : Cluster) (c : Carrier) (command : RadioCommand) : w.Moves X (w.want c command) := joinWant w c command 0 1

theorem dropWant (w : Cluster) (c : Carrier) : w.Moves X (w.dropWant c) :=
  .of_ctx ⟨fun i => Cluster.outstanding_dropWant w c i, fun _ => by simp⟩ (fun h k => h k) (fun _ => rfl) rfl rfl

theorem removeEntry (w : Cluster) (c : Carrier) : w.Moves X (w.removeEntry c) :=
  .of_roused ⟨fun i => Cluster.outstanding_removeEntry w c i, fun i => (Cluster.onlyCarriers_removeEntry w c).channel i⟩
    (Cluster.noDeeper_removeEntry w c) (Cluster.roused_removeEntry w c) (Cluster.onlyCarriers_removeEntry w c)

theorem turnBack (w : Cluster) (c : Carrier) (r : Reason) : w.Moves X (w.turnBack c r) :=
  .trans (.trans (editEntry w c _) (.editPlain ⟨rfl, rfl, rfl, rfl, rfl, fun _ => rfl, id⟩)) (markDirty _ c)

theorem wakeRequest (w : Cluster) (c : Carrier) (r : Reason) : w.Moves X (w.wakeRequest c r) :=
  .of_roused ⟨fun _ => by simp, fun i => (Cluster.onlyCarriers_wakeRequest w c r).channel i⟩
    (Cluster.noDeeper_wakeRequest w c r) (Cluster.roused_wakeRequest w c r) (Cluster.onlyCarriers_wakeRequest w c r)

theorem wakeAll (w : Cluster) (cs : List Carrier) (r : Reason) : w.Moves X (w.wakeAll cs r) :=
  .of_roused ⟨fun _ => by simp, fun i => (Cluster.onlyCarriers_wakeAll cs r w).channel i⟩
    (Cluster.noDeeper_wakeAll cs r w) (Cluster.roused_wakeAll w cs r) (Cluster.onlyCarriers_wakeAll cs r w)

theorem unwind (w : Cluster) (k : Carrier) (r : Reason) : w.Moves X (w.unwind k r) := wakeAll w _ r

theorem unwindAll (w : Cluster) (r : Reason) : w.Moves X (w.unwindAll r) :=
  .of_roused ⟨fun _ => by simp, fun i => (Cluster.onlyCarriers_unwindAll w r).channel i⟩
    (Cluster.noDeeper_unwindAll w r) (Cluster.roused_unwindAll w r) (Cluster.onlyCarriers_unwindAll w r)

theorem foldl {α : Type} {f : Cluster → α → Cluster} (step : ∀ (w : Cluster) (a : α), w.Moves X (f w a)) (l : List α)
    (w : Cluster) : w.Moves X (l.foldl f w) := by
  induction l generalizing w with
  | nil => exact .refl w
  | cons a l ih => exact (step w a).trans (ih _)

end Moves

theorem Drifts.then (h : u.Drifts w) (g : w.Moves (fun _ => False) v) : u.Drifts v :=
  ⟨h.sent.trans g.sent, g.fits ∘ h.fits, fun c => (h.entered c).then (g.settles c), fun c p => g.probed c id (h.probed c p),
    g.probes.trans h.probes, g.outcomes.trans h.outcomes⟩

theorem Moves.drifts (h : u.Moves (fun _ => False) v) : u.Drifts v :=
  ⟨h.sent, h.fits, fun c => (h.settles c).entered, fun c => h.probed c id, h.probes, h.outcomes⟩

/-- The counts of carriers, their marks and notices may have changed, but neither state nor probe origin. -/
theorem Drifts.of_state (sent : w.SameSent v) (fits : w.StacksFit → v.StacksFit)
    (ctx : ∀ c, (v.ctx c).state = (w.ctx c).state ∧ (v.ctx c).probeOrigin = (w.ctx c).probeOrigin) (probes : v.probes = w.probes)
    (outcomes : v.outcomes = w.outcomes) : w.Drifts v :=
  ⟨sent, fits, fun c ne => absurd (ctx c).1 ne, fun c h => ⟨(ctx c).1.trans h.1, (ctx c).2.symm ▸ h.2⟩, probes, outcomes⟩

/-! ### Probes, rows and FAULTED -/

theorem sameSent_endQuery (w : Cluster) (c : Carrier) (answered : Bool) : w.SameSent (w.endQuery c answered) := by
  unfold Cluster.endQuery
  split <;> exact ⟨fun _ => rfl, fun _ => rfl⟩

theorem tagsAgree_retire (h : w.TagsAgree) (i : Site) : (w.retire i).TagsAgree := fun j => by
  rw [Cluster.lane_retire, Cluster.channel_retire]
  split
  · rfl
  · exact h j

theorem tagsAgree_abandon (h : w.TagsAgree) (c : Carrier) : (w.abandon c).TagsAgree := by
  unfold Cluster.abandon
  split
  · exact tagsAgree_retire h _
  · exact h

/-- The entry into FAULTED, once the carrier's query and command have ended (R35). -/
theorem moves_enterFaulted (w : Cluster) (c : Carrier) (cause : FaultCause) :
    ((w.endQuery c false).abandon c).Moves (· = c) (w.enterFaulted c cause) := by
  unfold Cluster.enterFaulted
  generalize (w.endQuery c false).abandon c = v
  dsimp only
  have taken : v.Moves (· = c) (((v.dropWant c).removeEntry c).editCtx c fun x => { x with reserved := false }) :=
    .trans (.trans (.dropWant v c) (.removeEntry _ c)) (.editPlain ⟨rfl, rfl, rfl, rfl, rfl, fun _ => rfl, id⟩)
  have unwound := taken.trans (.unwind _ c .coverLost)
  refine unwound.trans (.trans (.editCtx ?_ fun h => absurd rfl h) (.trans (.notify _ .fault) (.markDirty _ c)))
  exact .of_enter (st := .faulted) rfl rfl rfl (.inr rfl) (.inl rfl) (.inl rfl) rfl

theorem tagsAgree_enterFaulted (h : w.TagsAgree) (c : Carrier) (cause : FaultCause) : (w.enterFaulted c cause).TagsAgree :=
  (w.moves_enterFaulted c cause).sent.tagsAgree (tagsAgree_abandon ((w.sameSent_endQuery c false).tagsAgree h) c)

theorem moves_relink (h : (w.ctx c).state = .faulted) : w.Moves X (w.relink c) := by
  refine .trans (.editCtx ?_ fun _ g => absurd g.1 (by simp [h])) (.want _ c .query)
  exact .of_enter (st := .unknown) rfl rfl rfl (.inl rfl) (.inr (.inl rfl)) (.inl rfl) rfl

end Cluster

end Sys2Proof.Machine
end

section
/-! How each act moves contexts, stacks, commands and channels, and what follows for live tags, stacks and state changes
(sections 2.3, 5.2 and 8.1). -/

namespace Sys2Proof.Machine

namespace Cluster

variable {w : Cluster} {X : Carrier → Prop}

/-! ## Replies -/

theorem moves_backToServing (c : Carrier) (f : Context → Context)
    (plain : ∀ x : Context, (x.enter .serving).Plain (f (x.enter .serving).startResleep) ∧
      (f (x.enter .serving).startResleep).dirty = x.dirty) :
    w.Moves (· = c) (w.backToServing c f) := by
  refine .trans (.removeEntry w c) (.editCtx ?_ fun h => absurd rfl h)
  obtain ⟨p, dirty⟩ := plain ((w.removeEntry c).ctx c)
  exact .of_enter (st := .serving) p.state p.sleepCount p.wakeCount (.inl (p.lightRun nofun)) (.inl p.probeOrigin)
    (.inl p.strayStep) dirty

/-- A change of state with an edit of fields that no state change clears. -/
theorem Moves.enter {c : Carrier} {st : CarrierState} {f : Context → Context}
    (state : ∀ x, (f x).state = st) (sleepCount : ∀ x, (f x).sleepCount = 0) (wakeCount : ∀ x, (f x).wakeCount = 0)
    (lightRun : ∀ x, (f x).lightRun = (x.enter st).lightRun ∨ (f x).lightRun = 0)
    (probeOrigin : ∀ x, (f x).probeOrigin = (x.enter st).probeOrigin)
    (strayStep : ∀ x, (f x).strayStep = (x.enter st).strayStep ∨ st = .stray) (dirty : ∀ x, (f x).dirty = x.dirty) :
    w.Moves (· = c) (w.editCtx c f) :=
  .editCtx (.of_enter (state _) (sleepCount _) (wakeCount _) (lightRun _) (.inl (probeOrigin _))
    ((strayStep _).imp_right .inr) (dirty _)) fun h => absurd rfl h

theorem moves_busyRetry (p : Policy) (o : Outstanding) :
    (∃ cause, w.busyRetry p o = w.enterFaulted o.carrier cause) ∨
      (w.Moves (· = o.carrier) (w.busyRetry p o) ∧ (o.command = .query → w.Moves (fun _ => False) (w.busyRetry p o))) := by
  unfold Cluster.busyRetry
  split
  · refine .inr ⟨.trans (.editCtx ?_ fun h => absurd rfl h) (.joinWant ..), fun hq => .trans (.editCtx ?_ fun _ h => ?_) (.joinWant ..)⟩
    · by_cases h : restingState o.command (w.ctx o.carrier).state = (w.ctx o.carrier).state
      · exact .edit (by rw [if_pos h]; exact .refl _) (by rw [if_pos h])
      · refine .of_enter (st := restingState o.command (w.ctx o.carrier).state) ?_ ?_ ?_ (.inl ?_) (.inl ?_) (.inl ?_) ?_ <;>
          rw [if_neg h] <;> rfl
    · have rest : restingState o.command (w.ctx o.carrier).state = (w.ctx o.carrier).state := by rw [hq]; rfl
      exact .edit (by rw [if_pos rest]; exact .refl _) (by rw [if_pos rest])
    · rwa [if_pos (by rw [hq]; rfl)]
  · exact .inl ⟨_, rfl⟩

/-- What a reply does: the carrier's query ends and then its context moves, or it is FAULTED, or its context moves (R141 to
R148). -/
theorem moves_handleReply (w : Cluster) (p : Policy) (o : Outstanding) (r : Reply) :
    (∃ answered, (w.endQuery o.carrier answered).Moves (· = o.carrier) (w.handleReply p o r)) ∨
      (∃ cause, w.handleReply p o r = w.enterFaulted o.carrier cause) ∨
      (w.Moves (· = o.carrier) (w.handleReply p o r) ∧
        (o.command = .query → w.Moves (fun _ => False) (w.handleReply p o r))) := by
  have plain {v : Cluster} (h : w.Moves (· = o.carrier) v) (hc : o.command ≠ .query) :
      (∃ answered, (w.endQuery o.carrier answered).Moves (· = o.carrier) v) ∨ (∃ cause, v = w.enterFaulted o.carrier cause) ∨
        (w.Moves (· = o.carrier) v ∧ (o.command = .query → w.Moves (fun _ => False) v)) :=
    .inr (.inr ⟨h, fun g => absurd g hc⟩)
  have again : w.Moves (· = o.carrier) (w.shedAgain p o) := by
    unfold Cluster.shedAgain
    split
    · exact .joinWant ..
    · exact .trans (.turnBack ..) (.want ..)
  have fault {cause : FaultCause} : (∃ answered, (w.endQuery o.carrier answered).Moves (· = o.carrier) (w.replyFault o cause)) ∨
      (∃ cause', w.replyFault o cause = w.enterFaulted o.carrier cause') ∨
        (w.Moves (· = o.carrier) (w.replyFault o cause) ∧ (o.command = .query → w.Moves (fun _ => False) (w.replyFault o cause))) :=
    .inr (.inl ⟨_, rfl⟩)
  unfold Cluster.handleReply
  split
  · next hc =>
    have hq : o.command ≠ .query := by simp [hc]
    have back (reason : Reason) : w.Moves (· = o.carrier) (w.abandonDrain o.carrier reason) := by
      refine w.moves_backToServing _ _ fun x => ?_
      split <;> exact ⟨⟨rfl, rfl, rfl, rfl, rfl, fun _ => rfl, id⟩, rfl⟩
    unfold Cluster.gateReply
    split
    · split <;> exact plain (.want ..) hq
    · exact plain (back _) hq
    · exact plain (back _) hq
    · exact fault
  · next hc =>
    have hq : o.command ≠ .query := by simp [hc]
    unfold Cluster.shedReply
    split
    · split
      · exact plain (.want ..) hq
      · split
        · exact plain (.want ..) hq
        · exact plain again hq
    · split
      · exact plain (.want ..) hq
      · exact plain again hq
    · exact fault
    · exact fault
  · next hc =>
    have hq : o.command ≠ .query := by simp [hc]
    unfold Cluster.lowerReply
    split
    · refine plain ?_ hq
      have light : w.Moves (· = o.carrier) (w.editCtx o.carrier fun x =>
          { x.enter .light with sleepsTonight := x.sleepsTonight + 1, lightRun := 0 }) :=
        .enter (st := .light) (fun _ => rfl) (fun _ => rfl) (fun _ => rfl) (fun _ => .inr rfl) (fun _ => rfl)
          (fun _ => .inl rfl) fun _ => rfl
      have settled := light.trans (.editEntry _ o.carrier (Entry.lowered p.settle))
      unfold Cluster.lowered
      dsimp only
      split
      · exact settled.trans (.want ..)
      · split
        · split
          · exact settled.trans (.want ..)
          · exact settled
        · exact settled
    · refine plain ?_ hq
      have entered : w.Moves (· = o.carrier) (w.editCtx o.carrier (Context.enter .draining)) :=
        .enter (st := .draining) (fun _ => rfl) (fun _ => rfl) (fun _ => rfl) (fun _ => .inl rfl) (fun _ => rfl)
          (fun _ => .inl rfl) fun _ => rfl
      dsimp only
      refine .trans ?_ (.want ..)
      split
      · exact entered
      · exact entered.trans (.turnBack ..)
    · exact fault
    · exact fault
  · next hc =>
    have hq : o.command ≠ .query := by simp [hc]
    have dark : w.Moves (· = o.carrier) ((w.editCtx o.carrier (Context.enter .dark)).editEntry o.carrier fun e =>
        { e with depth := .dark }) :=
      .trans (.enter (st := .dark) (fun _ => rfl) (fun _ => rfl) (fun _ => rfl) (fun _ => .inl rfl) (fun _ => rfl)
        (fun _ => .inl rfl) fun _ => rfl) (.editEntry ..)
    have light : w.Moves (· = o.carrier) (w.editCtx o.carrier fun x =>
        { x.enter .light with lightRun := 0, deepenDeclined := true }) :=
      .enter (st := .light) (fun _ => rfl) (fun _ => rfl) (fun _ => rfl) (fun _ => .inr rfl) (fun _ => rfl) (fun _ => .inl rfl)
        fun _ => rfl
    unfold Cluster.darkenReply
    dsimp only
    split
    · split
      · exact plain (dark.trans (.want ..)) hq
      · exact plain dark hq
    · split
      · exact plain (light.trans (.want ..)) hq
      · exact plain light hq
    · split
      · exact plain (light.trans (.want ..)) hq
      · exact plain light hq
    · exact fault
  · next hc =>
    have hq : o.command ≠ .query := by simp [hc]
    have light : w.Moves (· = o.carrier) (w.editCtx o.carrier fun x => { x.enter .light with lightRun := 0 }) :=
      .enter (st := .light) (fun _ => rfl) (fun _ => rfl) (fun _ => rfl) (fun _ => .inr rfl) (fun _ => rfl) (fun _ => .inl rfl)
        fun _ => rfl
    unfold Cluster.warmReply
    dsimp only
    split
    · split
      · next hs =>
        refine plain (.trans (.editCtx (.edit ?_ rfl) fun h => absurd rfl h) (.want ..)) hq
        exact .of_same rfl (.inl rfl) (.inl rfl) (.inl rfl) (.inl rfl) (.inr hs) id
      · split
        · exact plain (light.trans (.want ..)) hq
        · exact plain light hq
    · exact .inr (moves_busyRetry p o)
    · exact fault
    · exact fault
  · next hc =>
    have back : w.Moves (· = o.carrier) (w.backToServing o.carrier fun x => { x with cls := .absent, deepenDeclined := false }) :=
      w.moves_backToServing _ _ fun x => ⟨⟨rfl, rfl, rfl, rfl, rfl, fun _ => rfl, id⟩, rfl⟩
    unfold Cluster.raiseReply
    split
    · exact plain back (by rw [hc]; nofun)
    · exact .inr (moves_busyRetry p o)
    · exact fault
    · exact fault
  · next hc =>
    have back : w.Moves (· = o.carrier) (w.backToServing o.carrier id) :=
      w.moves_backToServing _ _ fun x => ⟨⟨rfl, rfl, rfl, rfl, rfl, fun _ => rfl, id⟩, rfl⟩
    unfold Cluster.openReply
    split
    · exact plain back (by rw [hc]; nofun)
    · exact .inr (moves_busyRetry p o)
    · exact fault
    · exact fault
  · unfold Cluster.queryReply
    dsimp only
    have entered {v : Cluster} (step : StrayStep) : v.Moves (· = o.carrier) (v.editCtx o.carrier fun x =>
        { x.enter .stray with strayStep := some step }) :=
      .enter (st := .stray) (fun _ => rfl) (fun _ => rfl) (fun _ => rfl) (fun _ => .inl rfl) (fun _ => rfl) (fun _ => .inr rfl)
        fun _ => rfl
    have stray (step : StrayStep) (command : RadioCommand) :
        (w.endQuery o.carrier true).Moves (· = o.carrier) (w.becomeStray o.carrier step command) :=
      (entered step).trans (.want _ o.carrier command)
    have serving {v : Cluster} : v.Moves (· = o.carrier) (v.editCtx o.carrier fun x =>
        { x.enter .serving with cls := if x.probeOrigin = some .serving then x.cls else .absent }) :=
      .enter (st := .serving) (fun _ => rfl) (fun _ => rfl) (fun _ => rfl) (fun _ => .inl rfl) (fun _ => rfl) (fun _ => .inl rfl)
        fun _ => rfl
    split
    · split
      · exact .inl ⟨true, serving⟩
      · exact .inl ⟨true, stray _ _⟩
      · exact .inl ⟨true, stray _ _⟩
      · exact fault
    · exact .inr (moves_busyRetry p o)
    · exact fault
    · exact fault

/-! ## The decision pass -/

theorem Moves.reserve {c k : Carrier} (room : (w.stack k).length < 8) (a : Nat) (r : Reason) (deepen : Bool) :
    w.Moves X (w.reserve c k a r deepen) := by
  have pushed : w.Moves X (w.setStack k (w.stack k ++
      [{ carrier := c, phase := .reserved, absorbed := a, depth := .none, settle := 0, reason := r, deepenAtOnce := deepen }])) :=
    .setStack fun _ => by rw [List.length_append]; exact room
  have cover {v : Cluster} : v.Moves X ((v.editCtx k fun x => { x with overflowSeen := false, sleepCount := 0 }).markDirty k) :=
    .trans (.editCtx (.edit (.of_same rfl (.inr rfl) (.inl rfl) (.inl rfl) (.inl rfl) (.inl rfl) id) rfl) fun _ h => h)
      (.markDirty _ k)
  have candidate {v : Cluster} : v.Moves X ((v.editCtx c fun x =>
      { x with reserved := true, sleepCount := 0, lastReason := some r, lastRefusal := none }).markDirty c) :=
    .trans (.editCtx (.edit (.of_same rfl (.inr rfl) (.inl rfl) (.inl rfl) (.inl rfl) (.inl rfl) id) rfl) fun _ h => h)
      (.markDirty _ c)
  exact ((pushed.trans cover).trans candidate).trans (.want ..)

theorem moves_markUnordered (w : Cluster) (c : Carrier) (strict : Bool) : w.Moves X (w.markUnordered c strict) := by
  have marked : w.Moves X (w.editCtx c fun x => { x with unorderedNow := true }) :=
    .editPlain ⟨rfl, rfl, rfl, rfl, rfl, fun _ => rfl, id⟩
  cases strict
  · exact marked
  · exact marked.trans (.notify ..)

theorem moves_overflown (w : Cluster) (c : Carrier) : w.Moves X (w.editCtx c fun x => { x with overflowSeen := true }) :=
  .editPlain ⟨rfl, rfl, rfl, rfl, rfl, fun _ => rfl, id⟩

theorem drifts_refuse (c : Carrier) {f : Context → Context}
    (h : (f (w.ctx c)).state = (w.ctx c).state ∧ (f (w.ctx c)).probeOrigin = (w.ctx c).probeOrigin) :
    w.Drifts (w.editCtx c f) := by
  refine .of_state ⟨fun _ => by simp, fun _ => by simp⟩ (fun g k => by simpa using g k) (fun d => ?_) (by simp) (by simp)
  rw [Cluster.ctx_editCtx]
  split
  · next g => subst g; exact h
  · exact ⟨rfl, rfl⟩

theorem drifts_sleepTest (w : Cluster) (t : TestSetting) (m : SleepMode) (c : Carrier) : w.Drifts (w.sleepTest t m c) := by
  have refuse (code : RefusalCode) (count : Context → Nat) : w.Drifts (w.editCtx c fun x => x.refuse m code (count x)) :=
    drifts_refuse c ⟨rfl, rfl⟩
  unfold Cluster.sleepTest Cluster.applyVerdict
  cases hv : w.sleepVerdict t m c with
  | refusedEarly code => exact refuse code fun _ => 0
  | unorderedLoad => exact (refuse .unordered fun _ => 0).then (moves_markUnordered ..)
  | refusedLate code => exact refuse code fun x => bump 255 x.sleepCount
  | unorderedCover cover => exact (refuse .unordered fun x => bump 255 x.sleepCount).then (moves_markUnordered ..)
  | stackFull cover => exact (refuse .stackFull fun x => bump 255 x.sleepCount).then (moves_overflown ..)
  | admitted cover absorbed =>
    obtain ⟨admits, _⟩ := Cluster.admits_of_verdict hv
    have room : (w.stack cover).length < 8 := by
      obtain ⟨_, _, _, _, _, _, _, _, _, _, _, _, _, _, _, _, room⟩ := admits
      exact room
    cases m <;> exact (Moves.reserve room _ _ _).drifts

/-- The directed test raises no dwell count (R117). -/
theorem moves_sleepTest (w : Cluster) (t : TestSetting) (dark : Bool) (c : Carrier) :
    w.Moves X (w.sleepTest t (.directed dark) c) := by
  have refuse (code : RefusalCode) (count : Context → Nat) :
      w.Moves X (w.editCtx c fun x => x.refuse (.directed dark) code (count x)) :=
    .editPlain ⟨rfl, by simp [Context.refuse], rfl, rfl, rfl, fun _ => rfl, id⟩
  unfold Cluster.sleepTest Cluster.applyVerdict
  cases hv : w.sleepVerdict t (.directed dark) c with
  | refusedEarly code => exact refuse code fun _ => 0
  | unorderedLoad => exact (refuse .unordered fun _ => 0).trans (moves_markUnordered ..)
  | refusedLate code => exact refuse code fun x => bump 255 x.sleepCount
  | unorderedCover cover => exact (refuse .unordered fun x => bump 255 x.sleepCount).trans (moves_markUnordered ..)
  | stackFull cover => exact (refuse .stackFull fun x => bump 255 x.sleepCount).trans (moves_overflown ..)
  | admitted cover absorbed =>
    obtain ⟨admits, _⟩ := Cluster.admits_of_verdict hv
    have room : (w.stack cover).length < 8 := by
      obtain ⟨_, _, _, _, _, _, _, _, _, _, _, _, _, _, _, _, room⟩ := admits
      exact room
    exact .reserve room _ _ _

theorem drifts_wakeTest (w : Cluster) (k : Carrier) (strict : Bool) : w.Drifts (w.wakeTest k strict) := by
  have counted : w.Drifts (w.countWake k strict) := by
    unfold Cluster.countWake
    split
    · exact drifts_refuse k ⟨rfl, rfl⟩
    · exact (drifts_refuse k ⟨rfl, rfl⟩).then (moves_markUnordered ..)
    all_goals exact drifts_refuse k ⟨rfl, rfl⟩
  unfold Cluster.wakeTest
  dsimp only
  split
  · refine counted.then ?_
    unfold Cluster.wakePop
    split
    · exact .trans (.wakeRequest ..) (.editCtx (.edit (.of_same rfl (.inl rfl) (.inr rfl) (.inl rfl) (.inl rfl) (.inl rfl) id) rfl)
        fun _ h => h)
    · exact .refl _
  · exact counted

theorem moves_deepenTest (w : Cluster) (t : TestSetting) (c : Carrier) : w.Moves X (w.deepenTest t c) := by
  unfold Cluster.deepenTest
  dsimp only
  split
  · split
    · exact .want ..
    · exact .refl w
  · split
    · exact .dropWant w c
    · exact .refl w

/-- Settle ageing changes entries alone. -/
theorem drifts_ageSettling (w v : Cluster) (h : v = w ∨ ∃ c settle, v = w.ageSettling c settle) {x : Cluster} (g : v.Drifts x) :
    w.Drifts x := by
  rcases h with rfl | ⟨c, settle, rfl⟩
  · exact g
  · have aged : w.Moves (fun _ => False) (w.ageSettling c settle) := .setStack fun h => by simpa using h
    refine ⟨aged.sent.trans g.sent, g.fits ∘ aged.fits, fun d => ?_, fun d => ?_, g.probes, g.outcomes⟩
    · simpa [Cluster.ageSettling] using g.entered d
    · simpa [Cluster.ageSettling] using g.probed d

theorem drifts_passVisit (w : Cluster) (t : TestSetting) (c : Carrier) : w.Drifts (w.passVisit t c) := by
  have aged : ∃ v, v = (if (w.stack c).isEmpty then w else w.ageSettling c t.policy.settle) ∧
      (v = w ∨ ∃ c settle, v = w.ageSettling c settle) := by
    refine ⟨_, rfl, ?_⟩
    split
    · exact .inl rfl
    · exact .inr ⟨_, _, rfl⟩
  obtain ⟨v, hv, aged⟩ := aged
  unfold Cluster.passVisit
  split
  · unfold Cluster.visit
    rw [← hv]
    refine w.drifts_ageSettling v aged ?_
    dsimp only
    split
    · split
      · exact drifts_wakeTest ..
      · split
        · exact (Moves.refl v).drifts
        · split
          · exact drifts_sleepTest ..
          · exact (Moves.editCtx (.edit (.of_same rfl (.inr rfl) (.inl rfl) (.inl rfl) (.inl rfl) (.inl rfl) id) rfl)
              fun _ h => h).drifts
    · exact (moves_deepenTest ..).drifts
    · exact (Moves.refl v).drifts
  · exact (Moves.refl w).drifts

/-! ## Directives, windows and links -/

theorem moves_deepStop (w : Cluster) (c : Carrier) : w.Moves X (w.deepStop c) :=
  .trans (.trans (.trans (.editEntry w c _) (.editPlain ⟨rfl, rfl, rfl, rfl, rfl, fun _ => rfl, id⟩)) (.markDirty _ c)) (.want ..)

theorem moves_holdOn (minutes : Nat) (w : Cluster) (c : Carrier) : w.Moves X (holdOnCarrier minutes w c).1 := by
  unfold holdOnCarrier
  split
  · exact .refl w
  · exact .trans (.editPlain ⟨rfl, rfl, rfl, rfl, rfl, fun _ => rfl, id⟩) (.wakeRequest ..)

theorem moves_releaseHold (w : Cluster) (c : Carrier) : w.Moves X (releaseHoldCarrier w c).1 := by
  unfold releaseHoldCarrier
  split
  · exact .refl w
  · exact .editPlain ⟨rfl, rfl, rfl, rfl, rfl, fun _ => rfl, id⟩

theorem moves_sleepNow (t : TestSetting) (dark : Bool) (w : Cluster) (c : Carrier) : w.Moves X (sleepNowCarrier t dark w c).1 := by
  unfold sleepNowCarrier
  split
  · exact moves_sleepTest ..
  · exact .refl w

/-- A carrier that PROBE takes out of SERVING or FAULTED (R177). -/
theorem moves_takeUp {c : Carrier} {f : Context → Context} (h : (w.ctx c).state ≠ .unknown) (state : (f (w.ctx c)).state = .unknown)
    (sleepCount : (f (w.ctx c)).sleepCount = 0) (wakeCount : (f (w.ctx c)).wakeCount = 0)
    (lightRun : (f (w.ctx c)).lightRun = ((w.ctx c).enter .unknown).lightRun)
    (strayStep : (f (w.ctx c)).strayStep = ((w.ctx c).enter .unknown).strayStep) (dirty : (f (w.ctx c)).dirty = (w.ctx c).dirty) :
    w.Moves X ((w.editCtx c f).want c .query) :=
  .trans (.editCtx (.of_enter state sleepCount wakeCount (.inl lightRun) (.inr (.inr ⟨rfl, h⟩)) (.inl strayStep) dirty)
    fun _ g => absurd g.1 h) (.want ..)

/-- The row of a carrier that stays in its state, or becomes present (R21). -/
theorem moves_makePresent {c : Carrier} (h : (w.ctx c).state = .unmanaged) (cfg : CarrierConfig) :
    w.Moves X (w.makePresent c cfg) := by
  refine .trans (.setCtx ?_ fun _ g => absurd g.1 (by simp [h])) (.want ..)
  exact ⟨fun _ => rfl, fun _ => rfl, fun _ => .inl rfl, fun _ => .inl rfl, fun _ => .inl rfl, fun _ => rfl,
    fun _ => ⟨rfl, rfl, rfl, fun _ => rfl, fun _ => rfl, fun _ => rfl⟩⟩

theorem moves_makeUnmanaged (w : Cluster) (c : Carrier) :
    ((w.endQuery c false).abandon c).Moves (· = c) (w.makeUnmanaged c) := by
  refine .trans (.dropWant _ c) (.setCtx ?_ fun h => absurd rfl h)
  exact ⟨fun _ => rfl, fun _ => rfl, fun _ => .inl rfl, fun _ => .inl rfl, fun _ => .inl rfl, fun _ => rfl,
    fun _ => ⟨rfl, rfl, rfl, fun _ => rfl, fun _ => rfl, fun _ => rfl⟩⟩

theorem moves_relinkIfFree (w : Cluster) (c : Carrier) : w.Moves X (w.relinkIfFree c) := by
  unfold Cluster.relinkIfFree
  split
  · next h => exact moves_relink h.1
  · exact .refl w

end Cluster

end Sys2Proof.Machine
end

section
/-! Live tags, the depth of stacks and state changes: what every act keeps (sections 2.3, 5.2 and 8.1). -/

namespace Sys2Proof.Machine

/-- Under the command c live tags stay in agreement, no stack comes to hold more than 8 entries, contexts settle, and link
states and next tags change by their own commands alone. -/
structure Cluster.Orderly (c : Instr) (w v : Cluster) : Prop where
  tags : w.TagsAgree → v.TagsAgree
  fits : w.StacksFit → v.StacksFit
  settles : ∀ k, (w.ctx k).Settles (v.ctx k)
  up : ∀ i, (v.channel i).up = (w.channel i).up ∨ c = .linkUp i ∨ c = .linkDown i
  nextTag : ∀ i, (v.channel i).nextTag = (w.channel i).nextTag ∨ c = .laneGrant i ∨ ∃ k, siteOf k = i ∧ c = .wantWaitExpiry k

namespace Cluster

variable {c : Instr} {u w v : Cluster} {X : Carrier → Prop}

theorem Orderly.trans (h : u.Orderly c w) (g : w.Orderly c v) : u.Orderly c v where
  tags := g.tags ∘ h.tags
  fits := g.fits ∘ h.fits
  settles k := (h.settles k).trans (g.settles k)
  up i := (g.up i).elim (fun e => (h.up i).imp_left e.trans) .inr
  nextTag i := (g.nextTag i).elim (fun e => (h.nextTag i).imp_left e.trans) .inr

theorem Orderly.refl (w : Cluster) : w.Orderly c w := ⟨id, id, fun _ => .refl _, fun _ => .inl rfl, fun _ => .inl rfl⟩

theorem Moves.orderly (h : w.Moves X v) : w.Orderly c v :=
  ⟨h.sent.tagsAgree, h.fits, h.settles, fun i => .inl (by rw [h.sent.channel]), fun i => .inl (by rw [h.sent.channel])⟩

/-- Contexts and stacks left. -/
theorem Orderly.of_tables (tags : w.TagsAgree → v.TagsAgree) (stack : ∀ k, v.stack k = w.stack k)
    (ctx : ∀ k, v.ctx k = w.ctx k) (links : ∀ i, (v.channel i).up = (w.channel i).up ∧
      (v.channel i).nextTag = (w.channel i).nextTag) : w.Orderly c v :=
  ⟨tags, fun h k => by rw [stack]; exact h k, fun k => ctx k ▸ .refl _, fun i => .inl (links i).1, fun i => .inl (links i).2⟩

theorem links_retire (w : Cluster) (i j : Site) :
    ((w.retire i).channel j).up = (w.channel j).up ∧ ((w.retire i).channel j).nextTag = (w.channel j).nextTag := by
  rw [Cluster.channel_retire]
  split
  · next g => subst g; exact ⟨rfl, rfl⟩
  · exact ⟨rfl, rfl⟩

theorem links_abandon (w : Cluster) (k : Carrier) (j : Site) :
    ((w.abandon k).channel j).up = (w.channel j).up ∧ ((w.abandon k).channel j).nextTag = (w.channel j).nextTag := by
  unfold Cluster.abandon
  split
  · exact w.links_retire ..
  · exact ⟨rfl, rfl⟩

theorem Orderly.foldl {α : Type} {f : Cluster → α → Cluster} (step : ∀ (w : Cluster) (a : α), w.Orderly c (f w a)) (l : List α)
    (w : Cluster) : w.Orderly c (l.foldl f w) := by
  induction l generalizing w with
  | nil => exact .refl w
  | cons a l ih => exact (step w a).trans (ih _)

theorem orderly_retire (w : Cluster) (i : Site) : w.Orderly c (w.retire i) :=
  .of_tables (fun h => tagsAgree_retire h i) (fun _ => by simp [Cluster.retire]) (fun _ => by simp [Cluster.retire])
    (w.links_retire i)

theorem orderly_endQuery (w : Cluster) (k : Carrier) (answered : Bool) : w.Orderly c (w.endQuery k answered) :=
  .of_tables (w.sameSent_endQuery k answered).tagsAgree (fun d => Cluster.stack_endQuery w k answered d)
    (fun d => Cluster.ctx_endQuery w k answered d) fun i => by rw [(w.sameSent_endQuery k answered).channel]; exact ⟨rfl, rfl⟩

theorem orderly_quieted (w : Cluster) (k : Carrier) : w.Orderly c ((w.endQuery k false).abandon k) :=
  (w.orderly_endQuery k false).trans
    (.of_tables (fun h => tagsAgree_abandon h k) (fun _ => by simp) (fun _ => by simp) (links_abandon _ k))

theorem orderly_enterFaulted (w : Cluster) (k : Carrier) (cause : FaultCause) : w.Orderly c (w.enterFaulted k cause) :=
  (w.orderly_quieted k).trans (w.moves_enterFaulted k cause).orderly

theorem orderly_handleReply (w : Cluster) (p : Policy) (o : Outstanding) (r : Reply) : w.Orderly c (w.handleReply p o r) := by
  rcases w.moves_handleReply p o r with ⟨answered, moves⟩ | ⟨cause, faults⟩ | ⟨moves, _⟩
  · exact (w.orderly_endQuery ..).trans moves.orderly
  · rw [faults]
    exact w.orderly_enterFaulted ..
  · exact moves.orderly

theorem orderly_takeReply (w : Cluster) (p : Policy) (i : Site) (r : Reply) : w.Orderly c (w.takeReply p i r) := by
  unfold Cluster.takeReply
  split
  · exact (w.orderly_retire i).trans (orderly_handleReply ..)
  · exact w.orderly_retire i

theorem orderly_commandTimeout (w : Cluster) (i : Site) : w.Orderly c (w.commandTimeout i) := by
  unfold Cluster.commandTimeout
  split
  · exact (w.orderly_retire i).trans (orderly_enterFaulted ..)
  · exact w.orderly_retire i

/-- The state of the send (R130). -/
theorem settles_atSend (command : RadioCommand) (x : Context) : x.Settles (x.edit (Context.atSend command)) := by
  by_cases h : sendState command x.state = x.state
  · have same : (Context.atSend command x).state = x.state ∧ x.Settles (Context.atSend command x) := by
      unfold Context.atSend
      simp only [h, if_true]
      split
      · exact ⟨rfl, .of_same rfl (.inl rfl) (.inl rfl) (.inl rfl) (.inl rfl) (.inl rfl) id⟩
      · exact ⟨rfl, .refl x⟩
    exact .edit same.2 same.1
  · have sent : ∀ y, Context.atSend command x = y → y.state = sendState command x.state ∧ y.sleepCount = 0 ∧ y.wakeCount = 0 ∧
        y.lightRun = (x.enter (sendState command x.state)).lightRun ∧
        y.probeOrigin = (x.enter (sendState command x.state)).probeOrigin ∧
        y.strayStep = (x.enter (sendState command x.state)).strayStep ∧ y.dirty = x.dirty := by
      rintro y rfl
      unfold Context.atSend
      simp only [h, if_false]
      split <;> exact ⟨rfl, rfl, rfl, rfl, rfl, rfl, rfl⟩
    obtain ⟨state, sleep, wake, light, origin, step, dirty⟩ := sent _ rfl
    exact .of_enter state sleep wake (.inl light) (.inl origin) (.inl step) dirty

theorem orderly_testGrant (w : Cluster) (i : Site) (rs : RunState) (t : Timeouts)
    (grants : c = .laneGrant i ∨ ∃ k, siteOf k = i ∧ c = .wantWaitExpiry k) : w.Orderly c (w.testGrant i rs t) := by
  unfold Cluster.testGrant
  split
  · next x _ =>
    refine ⟨fun h j => ?_, fun h k => by simpa using h k, fun k => ?_, fun j => .inl ?_, fun j => ?_⟩
    · rw [Cluster.lane_send, Cluster.channel_send]
      split
      · rfl
      · exact h j
    · rw [Cluster.ctx_send]
      split
      · next g => subst g; exact settles_atSend _ _
      · exact .refl _
    · rw [Cluster.channel_send]
      split
      · next g => subst g; rfl
      · rfl
    · rw [Cluster.channel_send]
      split
      · next g => subst g; exact .inr grants
      · exact .inl rfl
  · exact .refl w

theorem orderly_setUp (w : Cluster) (i : Site) (b : Bool) (links : c = .linkUp i ∨ c = .linkDown i) :
    w.Orderly c (w.setChannel i { w.channel i with up := b }) := by
  refine ⟨fun h j => ?_, fun h k => by simpa using h k, fun _ => by simpa using .refl _, fun j => ?_, fun j => ?_⟩
  · rw [Cluster.lane_setChannel, Cluster.channel_setChannel]
    split
    · next g => exact g ▸ h i
    · exact h j
  · rw [Cluster.channel_setChannel]
    split
    · next g => subst g; exact .inr links
    · exact .inl rfl
  · rw [Cluster.channel_setChannel]
    split
    · next g => subst g; exact .inl rfl
    · exact .inl rfl

theorem orderly_linkDown (w : Cluster) (i : Site) (falls : c = .linkDown i) : w.Orderly c (w.linkDown i) := by
  have fault (v : Cluster) (k : Carrier) : v.Orderly c (v.faultByLink k) := by
    unfold Cluster.faultByLink
    split
    · exact .refl v
    · exact v.orderly_enterFaulted ..
  have lowered := w.orderly_setUp i false (.inr falls)
  unfold Cluster.linkDown
  dsimp only
  refine .trans ?_ (.foldl fault _ _)
  split
  · exact lowered.trans (orderly_retire ..)
  · exact lowered

theorem orderly_applyRow (w : Cluster) (k : Carrier) (row : CarrierRow) : w.Orderly c (w.applyRow k row).1 := by
  unfold Cluster.applyRow
  split
  · split
    · split
      · next h => exact (moves_makePresent (X := fun _ => False) h row.cfg).orderly
      · exact (Moves.editPlain (X := fun _ => False) ⟨rfl, rfl, rfl, rfl, rfl, fun _ => rfl, id⟩).orderly
    · exact .refl w
  · split
    · exact .refl w
    · exact (w.orderly_quieted k).trans (w.moves_makeUnmanaged k).orderly

/-- A context at HALT values, or one that becomes present from them (R22). -/
def AtRest (x : Context) : Prop :=
  x.sleepCount = 0 ∧ x.wakeCount = 0 ∧ x.lightRun = 0 ∧ x.probeOrigin = none ∧ x.strayStep = none

theorem atRest_configureRow (r : Carrier × CarrierRow) (h : ∀ c, AtRest (w.ctx c)) (c : Carrier) :
    AtRest ((w.configureRow r).ctx c) := by
  unfold Cluster.configureRow
  split
  · unfold Cluster.makePresent
    rw [Cluster.ctx_want, Cluster.ctx_setCtx]
    split
    · exact ⟨rfl, rfl, rfl, rfl, rfl⟩
    · exact h c
  · exact h c

theorem settles_configure (w : Cluster) (rows : List CarrierRow) (c : Carrier) :
    (w.ctx c).Settles ((w.configure rows).ctx c) := by
  have rest : ∀ c, AtRest (((carriers.zip rows).foldl Cluster.configureRow
      { w with contexts := w.contexts.map Context.atHalt }).ctx c) := by
    refine List.foldlRecOn (motive := fun v : Cluster => ∀ c, AtRest (v.ctx c)) _ _ (fun c => ?_)
      fun v h r _ => atRest_configureRow r h
    simp [AtRest, Cluster.ctx, Context.atHalt]
  obtain ⟨sleep, wake, light, origin, step⟩ := rest c
  unfold Cluster.configure
  rw [Cluster.ctx_markAllDirty]
  exact ⟨fun _ => sleep, fun _ => wake, fun _ => .inl light, fun _ => .inl origin, fun _ => .inl step, fun _ => rfl,
    fun _ => ⟨sleep, wake, rfl, fun _ => light, fun _ => origin, fun _ => step⟩⟩

theorem sameSent_configure (w : Cluster) (rows : List CarrierRow) : w.SameSent (w.configure rows) ∧
    ∀ k, (w.configure rows).stack k = w.stack k := by
  have step (v : Cluster) (r : Carrier × CarrierRow) : v.SameSent (v.configureRow r) ∧
      ∀ k, (v.configureRow r).stack k = v.stack k := by
    unfold Cluster.configureRow Cluster.makePresent
    split
    · exact ⟨⟨fun _ => by simp [Cluster.outstanding_want], fun _ => by simp⟩, fun _ => by simp⟩
    · exact ⟨.refl v, fun _ => rfl⟩
  have rows : w.SameSent ((carriers.zip rows).foldl Cluster.configureRow { w with contexts := w.contexts.map Context.atHalt }) ∧
      ∀ k, ((carriers.zip rows).foldl Cluster.configureRow { w with contexts := w.contexts.map Context.atHalt }).stack k =
        w.stack k := by
    refine List.foldlRecOn (motive := fun v : Cluster => w.SameSent v ∧ ∀ k, v.stack k = w.stack k) _ _
      ⟨⟨fun _ => rfl, fun _ => rfl⟩, fun _ => rfl⟩ fun v h r _ => ?_
    exact ⟨h.1.trans (step v r).1, fun k => ((step v r).2 k).trans (h.2 k)⟩
  unfold Cluster.configure
  exact ⟨rows.1.trans ⟨fun _ => by simp, fun _ => by simp⟩, fun k => (Cluster.stack_markAllDirty _ k).trans (rows.2 k)⟩

theorem orderly_configure (w : Cluster) (rows : List CarrierRow) : w.Orderly c (w.configure rows) :=
  ⟨(w.sameSent_configure rows).1.tagsAgree, fun h k => by rw [(w.sameSent_configure rows).2]; exact h k,
    w.settles_configure rows, fun i => .inl (by rw [(w.sameSent_configure rows).1.channel]),
    fun i => .inl (by rw [(w.sameSent_configure rows).1.channel])⟩

theorem orderly_probeCarrier (n : Slot) (w : Cluster) (k : Carrier) : w.Orderly c (probeCarrier n w k).1 := by
  have joined (v : Cluster) (f : ProbeRecord → ProbeRecord) : v.Orderly c (v.editProbe n f) :=
    .of_tables id (fun _ => rfl) (fun _ => rfl) fun _ => ⟨rfl, rfl⟩
  unfold probeCarrier
  dsimp only
  split
  · next h =>
    have taken : w.Moves (fun _ => False) ((w.editCtx k fun x =>
        { x.enter .unknown with probeOrigin := some .serving }).want k .query) :=
      moves_takeUp (by simp [h.1]) rfl rfl rfl rfl rfl rfl
    exact taken.orderly.trans (joined _ _)
  · split
    · next h =>
      refine .trans (Moves.orderly (X := (· = k)) (.editCtx (.edit ?_ rfl) fun g => absurd rfl g)) (joined _ _)
      exact .of_same rfl (.inl rfl) (.inl rfl) (.inl rfl) (.inr h.1) (.inl rfl) id
    · split
      · next h =>
        have taken : w.Moves (fun _ => False) ((w.editCtx k fun x =>
            { x.enter .unknown with probeOrigin := some .faulted, cls := .absent }).want k .query) :=
          moves_takeUp (by simp [h.1]) rfl rfl rfl rfl rfl rfl
        exact taken.orderly.trans (joined _ _)
      · exact joined w _

/-- Each act but a decision visit and HALT is orderly. -/
theorem orderly_act {s : State} (act : Cluster.Act c s w v) :
    w.Orderly c v ∨ (w = s.cluster ∧ w.Drifts v) ∨ (c = .halt ∧ v = w.halt) := by
  have moves (h : w.Moves (fun _ => False) v) : w.Orderly c v ∨ (w = s.cluster ∧ w.Drifts v) ∨ (c = .halt ∧ v = w.halt) :=
    .inl h.orderly
  cases act with
  | plain h =>
    refine .inl ⟨fun g i => ?_, fun g k => by rw [h.alike.stack]; exact g k, fun k => (h.ctx k).settles, fun i => .inl (h.up i),
      fun i => .inl (h.nextTag i)⟩
    rw [h.alike.outstanding i, h.liveTag i]
    exact g i
  | unwindAll _ r => exact moves (.unwindAll ..)
  | closeEffects _ n => exact moves (.wakeAll ..)
  | deepStopEffects _ n => exact moves (.foldl moves_deepStop ..)
  | followUp _ n => exact moves (.foldl moves_deepStop ..)
  | passVisit t k => exact .inr (.inl ⟨rfl, drifts_passVisit ..⟩)
  | holdOn _ minutes k => exact moves (moves_holdOn ..)
  | releaseHold _ k => exact moves (moves_releaseHold ..)
  | sleepNow _ t dark k => exact moves (moves_sleepNow ..)
  | placeProbe _ n => exact .inl (.of_tables id (fun _ => rfl) (fun _ => rfl) fun _ => ⟨rfl, rfl⟩)
  | probe _ n k => exact .inl (orderly_probeCarrier ..)
  | endSelection _ n => exact .inl (.of_tables id (fun _ => rfl) (fun _ => rfl) fun _ => ⟨rfl, rfl⟩)
  | applyRow _ k row ok => exact .inl (w.orderly_applyRow ..)
  | configure rows => exact .inl (orderly_configure ..)
  | halt _ quiet halts => exact .inr (.inr ⟨halts, rfl⟩)
  | testGrant _ i rs t grants => exact .inl (w.orderly_testGrant _ _ _ grants)
  | commandTimeout _ i => exact .inl (w.orderly_commandTimeout i)
  | takeReply _ p i r => exact .inl (w.orderly_takeReply ..)
  | linkUp _ i rises =>
    exact .inl ((w.orderly_setUp i true (.inl rises)).trans (Moves.foldl (X := fun _ => False) moves_relinkIfFree _ _).orderly)
  | linkDown _ i falls => exact .inl (w.orderly_linkDown i falls)

theorem tagsAgree_act {s : State} (h : w.TagsAgree) (act : Cluster.Act c s w v) : v.TagsAgree := by
  rcases orderly_act act with g | ⟨_, g⟩ | ⟨_, rfl⟩
  · exact g.tags h
  · exact g.sent.tagsAgree h
  · intro i
    have : (w.halt.lane i).outstanding = (w.lane i).outstanding := by rw [Cluster.lane_halt]
    rw [this]
    exact h i

theorem stacksFit_act {s : State} (h : w.StacksFit) (act : Cluster.Act c s w v) : v.StacksFit := by
  rcases orderly_act act with g | ⟨_, g⟩ | ⟨_, rfl⟩
  · exact g.fits h
  · exact g.fits h
  · exact fun k => by rw [Cluster.stack_halt]; exact h k

theorem tagsAgree_reset : Cluster.reset.TagsAgree := fun i => by simp [Cluster.reset, Cluster.lane, Cluster.channel]

theorem stacksFit_reset : Cluster.reset.StacksFit := fun k => by rw [Cluster.bare_reset.stack]; exact Nat.zero_le _

end Cluster

/-- What every act keeps of the cluster, every step keeps, if a record's issue and the reset do. -/
theorem State.step_keeps_cluster {P : Cluster → Prop} (act : ∀ c s w v, P w → Cluster.Act c s w v → P v)
    (issue : ∀ w k, P w → P (w.setCtx k { w.ctx k with dirty := false })) (reset : P Cluster.reset) {s t : State}
    (h : P s.cluster) (ht : step s = .next t) : P t.cluster := by
  refine State.step_keeps (P := fun s => P s.cluster) (fun c s t h ht => ?_) (fun s t ticked h => ?_) h ht
  · by_cases g : c = .powerOnReset
    · subst g
      cases ht
      exact reset
    · exact (State.ends_exec ht g).induct h (act c s) issue
  · obtain ⟨_, _, _, _, _, rfl⟩ := ticked
    exact h

/-- Settles O6: each act keeps the live tags, and so every command and every step. -/
theorem tagsAgreeStep : Obligations.TagsAgreeStep := fun _ _ =>
  State.step_keeps_cluster (fun _ _ _ _ => Cluster.tagsAgree_act) (fun w k g i => by simpa using g i) Cluster.tagsAgree_reset

/-! ## State changes -/

/-- A record's issue clears the mark of its carrier alone (R13). -/
theorem State.ctx_issued {v : Cluster} {t : State} (h : t.cluster = v ∨ State.Issued v t) (c : Carrier) :
    t.ctx c = v.ctx c ∨ (t.ctx c = { v.ctx c with dirty := false } ∧
      ∃ (a : Access) (e : Nat), t.port = some a ∧ a.purpose = .mirrorRecord c e) := by
  unfold State.ctx
  rcases h with h | ⟨k, e, a, h, port, purpose⟩
  · exact .inl (by rw [h])
  · rw [h, Cluster.ctx_setCtx]
    split
    · next g => subst g; exact .inr ⟨rfl, a, e, port, purpose⟩
    · exact .inl rfl

theorem State.entered_reaches {c : Instr} {s : State} (halts : c ≠ .halt) {v : Cluster} (h : s.Reaches c v) (k : Carrier) :
    (s.ctx k).Entered (v.ctx k) := by
  induction h with
  | refl => exact fun ne => absurd rfl ne
  | tail _ act ih =>
    rcases Cluster.orderly_act act with g | ⟨start, g⟩ | ⟨halt, _⟩
    · exact ih.then (g.settles k)
    · subst start
      exact g.entered k
    · exact absurd halt halts

/-- After HALT and power-on reset nothing of a state change is left (R22). -/
theorem State.atRest_of_reset {command : Instr} {s t : State} {c : Carrier} (ht : exec command s = .next t)
    (last : command = .powerOnReset ∨ command = .halt) (ne : (t.ctx c).state ≠ (s.ctx c).state) : Cluster.AtRest (t.ctx c) := by
  rcases last with rfl | rfl
  · cases ht
    rw [show State.ctx _ c = Cluster.reset.ctx c from rfl, Cluster.ctx_reset]
    exact ⟨rfl, rfl, rfl, rfl, rfl⟩
  · have g : execHalt s = .next t := ht
    unfold execHalt at g
    split at g
    · cases g
      have cluster : s.halt.cluster = s.cluster.halt := by
        unfold State.halt State.cutPass
        split
        · split <;> rfl
        · rfl
      rw [State.ctx, cluster, Cluster.ctx_halt]
      exact ⟨rfl, rfl, rfl, rfl, rfl⟩
    · cases g
      exact absurd rfl ne

/-- Settles O50: along the acts of a command a change of state clears the dwell counts and marks the context dirty; the mark
goes only where the record is issued. -/
theorem stateChangeClearsDwell : Obligations.StateChangeClearsDwell := by
  intro command s t c ht ne
  by_cases last : command = .powerOnReset ∨ command = .halt
  · obtain ⟨sleep, wake, light, origin, step⟩ := State.atRest_of_reset ht last ne
    refine ⟨sleep, wake, fun _ => light, fun _ => origin, fun _ => step, fun r k => absurd last (not_or.mpr ⟨r, k⟩), fun g => ?_⟩
    rcases last with rfl | rfl <;> simp at g
  · obtain ⟨reset, halt⟩ := not_or.mp last
    clear last
    obtain ⟨v, reached, ended⟩ := (State.ends_exec ht reset).reaches .refl
    have entered := State.entered_reaches halt reached c
    have plainly (h : s.Goes command s t) : (t.ctx c).dirty = true :=
      (State.entered_reaches halt (h.reaches .refl) c ne).2.2.1
    have last : ((∃ i, command = .laneGrant i ∨ command = .commandTimeout i ∨ command = .linkUp i ∨ command = .linkDown i ∨
        ∃ frame, command = .radioReply i frame) ∨ (∃ k, command = .wantWaitExpiry k) → (t.ctx c).dirty = true) := by
      rintro (⟨i, rfl | rfl | rfl | rfl | ⟨frame, rfl⟩⟩ | ⟨k, rfl⟩)
      · exact plainly (State.goes_laneGrant ht)
      · exact plainly (State.goes_commandTimeout ht)
      · exact plainly (State.goes_linkUp ht)
      · exact plainly (State.goes_linkDown ht)
      · exact plainly (State.goes_radioReply ht)
      · exact plainly (State.goes_wantWaitExpiry ht)
    rcases State.ctx_issued ended c with same | ⟨issued, record⟩
    · rw [← same] at entered
      obtain ⟨sleep, wake, dirty, light, origin, step⟩ := entered ne
      exact ⟨sleep, wake, light, origin, step, fun _ _ => .inl dirty, last⟩
    · have state : (v.ctx c).state = (t.ctx c).state := by rw [issued]
      obtain ⟨sleep, wake, _, light, origin, step⟩ := entered (state ▸ ne)
      rw [issued] at last ⊢
      exact ⟨sleep, wake, light, origin, step, fun _ _ => .inr record, last⟩

end Sys2Proof.Machine
end

section
/-! The registers and counts that a command leaves to others (sections 1.1, 1.7, 4, 8.1, 9, 11.5), and the answer of every
command. -/

namespace Sys2Proof.Machine

/-- What the command c leaves of the registers, the counts, the clock, the policy and the windows, and the ranges of the counts
that it moves. -/
structure State.Frame (c : Instr) (s t : State) : Prop where
  pending : t.pending = s.pending
  xbase : t.xbase = s.xbase ∨ ∃ v, c = .xbaseWrite v
  noteEn : t.noteEn = s.noteEn ∨ ∃ v, c = .noteenWrite v
  clock : t.clock = s.clock ∨ c = .civilClockSecond ∨ c = .setClock
  fleetTally : t.fleetTally = s.fleetTally ∨ (t.fleetTally ≤ 4294967295 ∧ (c = .clearTally ∨ ∃ order, c = .minuteEvent order))
  sweepCount : t.sweepCount = s.sweepCount ∨ (t.sweepCount < 4294967296 ∧ (c = .sweepBegin ∨ c = .halt))
  late : t.late = s.late ∨ (t.late ≤ 65535 ∧ (c = .halt ∨ ∃ i frame, c = .radioReply i frame))
  overruns : t.overruns = s.overruns ∨ t.overruns ≤ 65535
  memErrors : t.memErrors = s.memErrors ∨ t.memErrors ≤ 65535
  policy : t.policy = s.policy ∨ (∃ order, c = .loadPolicy order) ∨ ∃ n data, c = .memoryAccessComplete n data
  windows : t.windows = s.windows ∨
    (∃ order, c = .loadPolicy order) ∨ (∃ order, c = .minuteEvent order) ∨ ∃ n data, c = .memoryAccessComplete n data

namespace State

variable {c : Instr} {s u t : State}

namespace Frame

theorem refl : s.Frame c s :=
  ⟨rfl, .inl rfl, .inl rfl, .inl rfl, .inl rfl, .inl rfl, .inl rfl, .inl rfl, .inl rfl, .inl rfl, .inl rfl⟩

/-- Nothing of this is touched. -/
theorem same (h : t = { s with
    refused := t.refused
    runState := t.runState
    timer := t.timer
    starvation := t.starvation
    failsafe := t.failsafe
    torn := t.torn
    editionWord := t.editionWord
    cluster := t.cluster
    retake := t.retake
    port := t.port
    pass := t.pass
    startup := t.startup
    minutesDue := t.minutesDue
    accessSeq := t.accessSeq
    choices := t.choices }) : s.Frame c t := by
  rw [h]
  exact ⟨rfl, .inl rfl, .inl rfl, .inl rfl, .inl rfl, .inl rfl, .inl rfl, .inl rfl, .inl rfl, .inl rfl, .inl rfl⟩

theorem trans (h : s.Frame c u) (g : u.Frame c t) : s.Frame c t where
  pending := g.pending.trans h.pending
  xbase := g.xbase.elim (fun e => h.xbase.imp_left e.trans) .inr
  noteEn := g.noteEn.elim (fun e => h.noteEn.imp_left e.trans) .inr
  clock := g.clock.elim (fun e => h.clock.imp_left e.trans) .inr
  fleetTally := g.fleetTally.elim (fun e => e ▸ h.fleetTally) .inr
  sweepCount := g.sweepCount.elim (fun e => e ▸ h.sweepCount) .inr
  late := g.late.elim (fun e => e ▸ h.late) .inr
  overruns := g.overruns.elim (fun e => e ▸ h.overruns) .inr
  memErrors := g.memErrors.elim (fun e => e ▸ h.memErrors) .inr
  policy := g.policy.elim (fun e => h.policy.imp_left e.trans) .inr
  windows := g.windows.elim (fun e => h.windows.imp_left e.trans) .inr

/-- The second change first, for goals that end in it. -/
theorem after (g : u.Frame c t) (h : s.Frame c u) : s.Frame c t := h.trans g

theorem on {f : Cluster → Cluster} : s.Frame c (s.on f) := same rfl

end Frame

/-- A change of what a pass works on alone. -/
theorem OnlyPass.frame (h : s.OnlyPass t) : s.Frame c t :=
  ⟨h.pending, .inl h.xbase, .inl h.noteEn, .inl h.clock, .inl h.fleetTally, .inl h.sweepCount, .inl h.late, .inl h.overruns,
    .inl h.memErrors, .inl h.policy, .inl h.windows⟩

theorem frame_testReleasingEnd : s.Frame c s.testReleasingEnd := s.onlyPass_testReleasingEnd.frame

/-! ## Parts of commands -/

theorem frame_settleWindow (ws : Vector WindowEntry 8) (n : WindowNo)
    (writes : (∃ order, c = .loadPolicy order) ∨ ∃ k data, c = .memoryAccessComplete k data) :
    s.Frame c (s.settleWindow ws n) := by
  have written := writes.imp_right (Or.inr (a := ∃ order, c = Instr.minuteEvent order))
  unfold State.settleWindow
  dsimp only
  split
  · exact { Frame.refl (c := c) (s := s) with windows := .inr written }
  · split <;> exact { Frame.refl (c := c) (s := s) with windows := .inr written }

theorem frame_applyWindows (ws : Vector WindowEntry 8) (order : List WindowNo)
    (writes : (∃ order, c = .loadPolicy order) ∨ ∃ k data, c = .memoryAccessComplete k data) :
    s.Frame c (s.applyWindows ws order) := by
  unfold State.applyWindows
  induction completeWindows order generalizing s with
  | nil => exact .refl
  | cons n ns ih => exact (frame_settleWindow ws n writes).trans ih

theorem frame_startupEnded (v : Startup) (purpose : Purpose) (data : Option (List Byte))
    (writes : data.isSome = true → ∃ k bytes, c = .memoryAccessComplete k bytes) :
    s.Frame c (s.startupEnded v purpose data) := by
  unfold State.startupEnded
  split
  · next b =>
    have completes := writes rfl
    unfold State.startupRead
    split
    · exact .same rfl
    · next policy =>
      have policied : s.Frame c { s with policy } := { Frame.refl (c := c) (s := s) with policy := .inr (.inr completes) }
      have read (r : State) (b : BitVec 20) (o l : Nat) (q : Purpose) : r.Frame c (r.read b o l q) := .same rfl
      exact (policied.trans (frame_applyWindows _ _ (.inr completes))).trans (read _ _ _ _ _)
    · dsimp only
      split
      · exact .same rfl
      · exact .same rfl
    · exact .same rfl
  · exact .same rfl

theorem frame_accessEnded (purpose : Purpose) (data : Option (List Byte))
    (writes : data.isSome = true → ∃ k bytes, c = .memoryAccessComplete k bytes) :
    s.Frame c (s.accessEnded purpose data) := by
  unfold State.accessEnded
  split
  · exact (s.onlyPass_passEnded ..).frame
  · split
    · exact frame_startupEnded _ _ _ writes
    · exact .same rfl

theorem frame_accessFailed (a : Access) : s.Frame c (s.accessFailed a) := by
  have counted : s.Frame c ({ s with port := none }.countFailure) :=
    { Frame.refl (c := c) (s := s) with memErrors := .inr (bump_le _ _) }
  rw [State.accessFailed]
  exact counted.trans (frame_accessEnded _ _ fun h => nomatch h)

theorem frame_accessCompleted (a : Access) (data : List Byte) (n : Nat) (bytes : List Byte) :
    s.Frame (.memoryAccessComplete n bytes) (s.accessCompleted a data) := by
  have freed : s.Frame (.memoryAccessComplete n bytes) { s with port := none } := .same rfl
  rw [State.accessCompleted]
  exact freed.trans (frame_accessEnded _ _ fun _ => ⟨n, bytes, rfl⟩)

theorem frame_leaveRunning : s.Frame c s.leaveRunning := s.hands_leaveRunning.only.frame

theorem frame_concludeDirective (p : Pass) (d : DirectiveRun) (code : OutcomeCode) :
    s.Frame c (s.concludeDirective p d code) := (s.onlyPass_concludeDirective p d code).frame

theorem frame_walkRows (p : Pass) (n : Nat) (d : DirectiveRun) : s.Frame c (State.walkRows p n s d).1 := by
  induction n generalizing s d with
  | zero => exact .same rfl
  | succ n ih =>
    unfold State.walkRows
    split
    · dsimp only
      split
      · refine .after (ih _) ?_
        unfold State.takeRow
        split <;> exact .same rfl
      · split
        · split
          · exact .same rfl
          · exact ih _
        · exact ih _
    · exact .same rfl

theorem frame_expire : s.Frame c s.expire := by
  have counted (r : State) : r.Frame c r.countOverrun := { Frame.refl (c := c) (s := r) with overruns := .inr (bump_le _ _) }
  unfold State.expire
  dsimp only
  split
  · exact .same rfl
  · split
    · exact .after (counted _) (.same rfl)
    · exact .same rfl
  all_goals
    split
    · exact .after (counted _) (.same rfl)
    · exact .after (State.hands_beginWriteBack _ _).only.frame (.same rfl)

theorem frame_evalWindow (m : MinuteStamp) (n : WindowNo) (writes : ∃ order, c = .minuteEvent order) :
    s.Frame c (s.evalWindow m n) := by
  have phased {r : State} {v : WindowPhase} {f : Cluster → Cluster} : r.Frame c ((r.setPhase n v).on f) :=
    { Frame.refl (c := c) (s := r) with windows := .inr (.inr (.inl writes)) }
  have closes (r : State) : r.Frame c (r.closeMatch n) := by
    unfold State.closeMatch
    split
    · exact .same rfl
    · exact phased
  have opens (r : State) : r.Frame c (r.openMatch n) := by
    unfold State.openMatch
    split
    · exact phased
    · exact .same rfl
  have stops (r : State) : r.Frame c (r.deepStopMatch n) := by
    unfold State.deepStopMatch
    split
    · exact phased
    · exact .same rfl
  have follows (r : State) : r.Frame c (r.shallowFollowUp n) := by
    unfold State.shallowFollowUp
    split <;> exact .same rfl
  have branch {b : Bool} {q r v : State} (h : q.Frame c r) (g : r.Frame c v) : q.Frame c (if b then v else r) := by
    cases b
    · exact h
    · exact h.trans g
  unfold State.evalWindow
  exact (branch (branch (branch .refl (closes s)) (opens _)) (stops _)).trans (follows _)

theorem frame_minutePart (m : MinuteStamp) (part : MinutePart) (writes : ∃ order, c = .minuteEvent order) :
    s.Frame c (s.minutePart m part) := by
  cases part with
  | window n => exact frame_evalWindow m n writes
  | countdown =>
    simp only [State.minutePart]
    split <;> exact .same rfl
  | accounting =>
    simp only [State.minutePart]
    split
    · exact .same rfl
    · have bounded : min tallyTop (s.fleetTally + s.cluster.saving) ≤ 4294967295 := Nat.min_le_left _ _
      generalize min tallyTop (s.fleetTally + s.cluster.saving) = tally at bounded
      exact { Frame.refl (c := c) (s := s) with fleetTally := .inr ⟨bounded, .inr writes⟩ }

theorem frame_minuteParts (m : MinuteStamp) (parts : List MinutePart) (writes : ∃ order, c = .minuteEvent order) :
    s.Frame c (parts.foldl (fun v p => v.minutePart m p) s) := by
  induction parts generalizing s with
  | nil => exact .refl
  | cons part parts ih => exact (frame_minutePart m part writes).trans ih

/-! ## Commands -/

theorem frame_refuse : s.Frame c s.refuse := .same rfl

theorem frame_run (ht : execRun s = .next t) : s.Frame c t := by
  unfold execRun at ht
  cases ht
  split
  · split
    · unfold State.beginStartup
      dsimp only
      split <;> exact .same rfl
    · exact .same rfl
  all_goals exact .same rfl

theorem frame_hold (ht : execHold s = .next t) : s.Frame c t := by
  unfold execHold at ht
  cases ht
  split
  · exact .after frame_leaveRunning (.same rfl)
  all_goals exact .same rfl

theorem frame_release (ht : execRelease s = .next t) : s.Frame c t := by
  have released : s.Frame c s.release := by
    unfold State.release
    exact .after frame_leaveRunning (.after frame_testReleasingEnd (.after (.on (f := fun w => w.unwindAll .release)) (.same rfl)))
  unfold execRelease at ht
  cases ht
  split
  · exact released
  · exact released
  all_goals exact .same rfl

theorem frame_halt (ht : execHalt s = .next t) : s.Frame .halt t := by
  have cut (r : State) : r.Frame .halt r.cutPass := by
    unfold State.cutPass
    split
    · split <;> exact .same rfl
    · exact .same rfl
  unfold execHalt at ht
  cases ht
  split
  · refine .after (cut _) ?_
    exact
      { Frame.refl (c := .halt) (s := s) with
        sweepCount := .inr ⟨Nat.zero_lt_succ _, .inr rfl⟩
        late := .inr ⟨Nat.zero_le _, .inl rfl⟩
        overruns := .inr (Nat.zero_le _)
        memErrors := .inr (Nat.zero_le _) }
  · exact .same rfl

theorem frame_sweepBegin (ht : execSweepBegin s = .next t) : s.Frame .sweepBegin t := by
  unfold execSweepBegin at ht
  cases ht
  split
  · exact .after (State.onlyPass_gatherFrom ..).frame
      { Frame.refl (c := .sweepBegin) (s := s) with sweepCount := .inr ⟨wrapUp_lt _ _ (by decide), .inl rfl⟩ }
  · exact .same rfl

theorem frame_decisionVisit (ht : execDecisionVisit s = .next t) : s.Frame c t := by
  unfold execDecisionVisit at ht
  cases ht
  split
  · split
    · exact (s.onlyPass_visitNext ..).frame
    · exact .same rfl
  · exact .same rfl

theorem frame_loadPolicy {order : List WindowNo} (ht : execLoadPolicy order s = .next t) : s.Frame (.loadPolicy order) t := by
  unfold execLoadPolicy at ht
  cases ht
  split
  · split
    · next policy windows _ =>
      have policied : s.Frame (.loadPolicy order) { s with policy := policy, timer := s.timer.reloaded policy.reload } :=
        { Frame.refl (c := .loadPolicy order) (s := s) with policy := .inr (.inl ⟨order, rfl⟩) }
      exact ((policied.trans (frame_applyWindows windows order (.inl ⟨order, rfl⟩))).trans frame_testReleasingEnd).trans
        (frame_concludeDirective ..)
    · exact .same rfl
  · exact .same rfl

theorem frame_loadCarriers {count : Nat} (ht : execLoadCarriers count s = .next t) : s.Frame c t := by
  unfold execLoadCarriers at ht
  cases ht
  split
  · next p d _ =>
    have walked : s.Frame c (State.walkRows p count s { d with begun := true }).1.testReleasingEnd :=
      (frame_walkRows ..).trans frame_testReleasingEnd
    dsimp only
    split
    · exact walked.trans (frame_concludeDirective ..)
    · exact walked.trans (.same rfl)
  · exact .same rfl

theorem frame_setClock (ht : execSetClock s = .next t) : s.Frame .setClock t := by
  unfold execSetClock at ht
  cases ht
  split
  · split
    · exact .after (frame_concludeDirective ..) { Frame.refl (c := .setClock) (s := s) with clock := .inr (.inr rfl) }
    · exact frame_concludeDirective ..
  · exact .same rfl

theorem frame_sleepNow {count : Nat} (ht : execSleepNow count s = .next t) : s.Frame c t := by
  unfold execSleepNow at ht
  cases ht
  split
  · split
    · exact frame_concludeDirective ..
    · split <;> exact (s.onlyPass_walkDirective ..).frame
  · exact .same rfl

theorem frame_probe {count : Nat} (ht : execProbe count s = .next t) : s.Frame c t := by
  unfold execProbe at ht
  cases ht
  split
  · next p d _ =>
    dsimp only
    generalize DirectiveRun.walk (probeCarrier d.slot) count (if d.begun then s.cluster else s.cluster.placeProbe d.slot)
      { d with begun := true } = r
    split
    · exact .after (State.onlyPass_finishDirective ..).frame .on
    · exact .same rfl
  · exact .same rfl

theorem frame_clearTally (ht : execClearTally s = .next t) : s.Frame .clearTally t := by
  unfold execClearTally at ht
  cases ht
  split
  · exact .after (frame_concludeDirective ..)
      { Frame.refl (c := .clearTally) (s := s) with fleetTally := .inr ⟨Nat.zero_le _, .inl rfl⟩ }
  · exact .same rfl

theorem frame_radioReply {i : Site} {bytes : List Byte} (ht : execRadioReply i bytes s = .next t) :
    s.Frame (.radioReply i bytes) t := by
  have late : s.Frame (.radioReply i bytes) s.countLate :=
    { Frame.refl (c := .radioReply i bytes) (s := s) with late := .inr ⟨bump_le _ _, .inr ⟨i, bytes, rfl⟩⟩ }
  unfold execRadioReply at ht
  cases ht
  split
  · next r _ =>
    split
    · exact .after frame_testReleasingEnd (.on (f := fun w => w.takeReply s.policy i r))
    · exact late
  · exact late

theorem frame_minuteEvent {order : List MinutePart} (ht : execMinuteEvent order s = .next t) :
    s.Frame (.minuteEvent order) t := by
  unfold execMinuteEvent at ht
  cases ht
  split
  · next m ms _ =>
    have due : s.Frame (.minuteEvent order) { s with minutesDue := ms } := .same rfl
    exact ((due.trans (frame_minuteParts m _ ⟨order, rfl⟩)).trans (.on (f := fun w => w.notify .minute))).trans
      frame_testReleasingEnd
  · exact .same rfl

/-- What every command but power-on reset leaves. -/
theorem frame_exec (ht : Machine.exec c s = .next t) (reset : c ≠ .powerOnReset) : s.Frame c t := by
  cases c with
  | powerOnReset => exact absurd rfl reset
  | xbaseWrite v =>
    cases ht
    split
    · exact { Frame.refl (c := .xbaseWrite v) (s := s) with xbase := .inr ⟨v, rfl⟩ }
    · exact .same rfl
  | run => exact frame_run ht
  | hold => exact frame_hold ht
  | release => exact frame_release ht
  | halt => exact frame_halt ht
  | sweepNow =>
    have g : execSweepNow s = .next t := ht
    unfold execSweepNow at g
    cases g
    split <;> exact .same rfl
  | runctlInvalidCode code => cases ht; exact .same rfl
  | noteWrite v => cases ht; exact .same rfl
  | noteenWrite v => cases ht; exact { Frame.refl (c := .noteenWrite v) (s := s) with noteEn := .inr ⟨v, rfl⟩ }
  | registerWriteIgnored => cases ht; exact .same rfl
  | memoryAccessComplete n data =>
    have g : execMemoryAccessComplete n data s = .next t := ht
    unfold execMemoryAccessComplete at g
    cases g
    split
    · split
      · exact frame_accessCompleted ..
      · exact .same rfl
    · exact .same rfl
  | memoryAccessError n =>
    have g : execMemoryAccessError n s = .next t := ht
    unfold execMemoryAccessError at g
    cases g
    split
    · split
      · exact frame_accessFailed _
      · exact .same rfl
    · exact .same rfl
  | memoryAccessTimeout =>
    have g : execMemoryAccessTimeout s = .next t := ht
    unfold execMemoryAccessTimeout at g
    cases g
    split
    · exact frame_accessFailed _
    · exact .same rfl
  | sweepTimerExpiry => cases ht; exact frame_expire
  | sweepBegin => exact frame_sweepBegin ht
  | loadPolicy => exact frame_loadPolicy ht
  | loadCarriers => exact frame_loadCarriers ht
  | setClock => exact frame_setClock ht
  | holdOn =>
    cases ht
    split
    · exact (s.onlyPass_walkDirective ..).frame
    · exact .same rfl
  | releaseHold =>
    cases ht
    split
    · exact (s.onlyPass_walkDirective ..).frame
    · exact .same rfl
  | sleepNow => exact frame_sleepNow ht
  | probe => exact frame_probe ht
  | clearTally => exact frame_clearTally ht
  | directiveUnknownKind =>
    cases ht
    split
    · exact frame_concludeDirective ..
    · exact .same rfl
  | decisionVisit => exact frame_decisionVisit ht
  | hundredMsTick =>
    cases ht
    unfold State.hundredTick
    split <;> exact .same rfl
  | wantWaitExpiry k =>
    cases ht
    split <;> exact .same rfl
  | commandTimeout i =>
    cases ht
    split
    · exact .after frame_testReleasingEnd (.on (f := fun w => w.commandTimeout i))
    · exact .same rfl
  | laneGrant i => cases ht; exact .same rfl
  | radioReply => exact frame_radioReply ht
  | linkUp i =>
    cases ht
    split
    · exact .same rfl
    · exact .on
  | linkDown i =>
    cases ht
    split
    · exact .after frame_testReleasingEnd (.on (f := fun w => w.linkDown i))
    · exact .same rfl
  | civilClockSecond =>
    cases ht
    unfold State.clockSecond
    split
    · exact { Frame.refl (c := .civilClockSecond) (s := s) with clock := .inr (.inl rfl) }
    · exact .same rfl
  | minuteEvent => exact frame_minuteEvent ht

theorem exec_next (c : Instr) (s : State) : ∃ t, Machine.exec c s = .next t := by
  cases c <;> exact ⟨_, rfl⟩

end State

/-- Settles O2: no command answers with anything but a next state, and none writes the queue. -/
theorem everyCommandAnswers : Obligations.EveryCommandAnswers := by
  intro c s
  obtain ⟨t, ht⟩ := State.exec_next c s
  refine ⟨t, ht, ?_⟩
  by_cases reset : c = .powerOnReset
  · subst reset
    cases ht
    rfl
  · exact (State.frame_exec ht reset).pending

/-- Settles O3: the frame of every command, and the links and tags along its acts. -/
theorem registersHaveWriters : Obligations.RegistersHaveWriters := by
  intro c s t ht reset
  have frame := State.frame_exec ht reset
  have links (i : Site) : ((t.channel i).up = (s.channel i).up ∨ c = .linkUp i ∨ c = .linkDown i) ∧
      ((t.channel i).nextTag = (s.channel i).nextTag ∨ c = .laneGrant i ∨ ∃ k, siteOf k = i ∧ c = .wantWaitExpiry k) := by
    refine (State.ends_exec ht reset).induct (R := fun w => ((w.channel i).up = (s.channel i).up ∨ c = .linkUp i ∨ c = .linkDown i) ∧
      ((w.channel i).nextTag = (s.channel i).nextTag ∨ c = .laneGrant i ∨ ∃ k, siteOf k = i ∧ c = .wantWaitExpiry k))
      ⟨.inl rfl, .inl rfl⟩ (fun w v h act => ?_) fun w k h => by simpa using h
    have step : ((v.channel i).up = (w.channel i).up ∨ c = .linkUp i ∨ c = .linkDown i) ∧
        ((v.channel i).nextTag = (w.channel i).nextTag ∨ c = .laneGrant i ∨ ∃ k, siteOf k = i ∧ c = .wantWaitExpiry k) := by
      rcases Cluster.orderly_act act with g | ⟨_, g⟩ | ⟨_, rfl⟩
      · exact ⟨g.up i, g.nextTag i⟩
      · rw [g.sent.channel]; exact ⟨.inl rfl, .inl rfl⟩
      · exact ⟨.inl rfl, .inl rfl⟩
    exact ⟨step.1.elim (fun e => h.1.imp_left e.trans) .inr, step.2.elim (fun e => h.2.imp_left e.trans) .inr⟩
  exact ⟨frame.xbase.resolve_left, frame.noteEn.resolve_left, frame.clock.resolve_left,
    fun ne => (frame.fleetTally.resolve_left ne).2, fun ne => (frame.sweepCount.resolve_left ne).2,
    fun ne => (frame.late.resolve_left ne).2, frame.policy.resolve_left, frame.windows.resolve_left,
    fun i => ⟨(links i).1.resolve_left, (links i).2.resolve_left⟩⟩

/-- Settles O1: the step takes the front of the queue, or the event that is due. -/
theorem stepRunsFrontCommand : Obligations.StepRunsFrontCommand := by
  refine ⟨fun c rest s h => ?_, fun c s h due => ?_⟩
  · rw [step, h]
  · unfold step idleStep
    split
    · next g => rw [h] at g; cases g
    · rw [due]

end Sys2Proof.Machine
end

section
/-! The PROBE records and the outcome queue (sections 1.5 and 10.5), and the ranges of the counters. -/

namespace Sys2Proof.Machine

/-! ## Coherence along the acts -/

/-- From a coherent state every act keeps the cluster coherent. -/
theorem Cluster.coherent_act {c : Instr} {s : State} (hs : s.Coherent) {w v : Cluster} (h : w.CoherentBut fun _ => False)
    (act : Cluster.Act c s w v) : v.CoherentBut fun _ => False := by
  cases act with
  | plain g => exact g.alike.coherentBut h
  | unwindAll _ r => exact h.unwindAll r
  | closeEffects _ n => exact h.closeEffects n
  | deepStopEffects _ n => exact h.deepStopEffects n
  | followUp _ n => exact h.followUp n
  | passVisit t k => exact h.passVisit t k
  | holdOn _ minutes k => exact Cluster.CoherentBut.holdOnCarrier minutes w k h
  | releaseHold _ k => exact Cluster.CoherentBut.releaseHoldCarrier w k h
  | sleepNow _ t dark k => exact Cluster.CoherentBut.sleepNowCarrier t dark w k h
  | placeProbe _ n => exact (Cluster.alike_placeProbe w n).coherentBut h
  | probe _ n k => exact Cluster.CoherentBut.probeCarrier n w k h
  | endSelection _ n => exact (Cluster.alike_endSelection w n).coherentBut h
  | applyRow _ k row ok => exact h.applyRow ok row
  | configure rows startup => exact (hs.bare (hs.2.1.1 startup)).configure rows
  | halt _ quiet => exact quiet.coherent_halt
  | testGrant _ i rs t => exact h.testGrant i rs t
  | commandTimeout _ i => exact h.commandTimeout i
  | takeReply _ p i r => exact h.takeReply p i r
  | linkUp _ i => exact h.linkUp i
  | linkDown _ i => exact h.linkDown i

/-! ## The PROBE records -/

/-- Two records of distinct slots with disjoint members. -/
def ProbeRecord.Apart (q r : ProbeRecord) : Prop := q.slot ≠ r.slot ∧ ∀ c ∈ q.members, c ∉ r.members

/-- The records and outcomes but for the records that are finished and stand until they are closed (R178). -/
structure Cluster.ProbesLoose (w : Cluster) : Prop where
  outcomes : AscendingSlots w.outcomes
  apart : w.probes.Pairwise ProbeRecord.Apart
  nodup : ∀ r ∈ w.probes, r.members.Nodup
  probed : ∀ r ∈ w.probes, ∀ c ∈ r.members, (w.ctx c).Probed

namespace Cluster

variable {u w v : Cluster} {X : Carrier → Prop} {c : Carrier}

theorem probesFit_iff : w.ProbesFit ↔ w.ProbesLoose ∧ ∀ r ∈ w.probes, r.members = [] → r.selectionDone = false := by
  constructor
  · rintro ⟨outcomes, slots, members, each⟩
    obtain ⟨nodup, disjoint⟩ := nodup_flatMap_iff.mp members
    refine ⟨⟨outcomes, ?_, nodup, fun r hr => (each r hr).2⟩, fun r hr => (each r hr).1⟩
    exact (List.pairwise_map.mp slots).and disjoint
  · rintro ⟨⟨outcomes, apart, nodup, probed⟩, unfinished⟩
    refine ⟨outcomes, List.pairwise_map.mpr (apart.imp And.left), nodup_flatMap_iff.mpr ⟨nodup, apart.imp And.right⟩,
      fun r hr => ⟨unfinished r hr, probed r hr⟩⟩

/-- No record has the carrier as a member. -/
def Unlisted (w : Cluster) (c : Carrier) : Prop := ∀ r ∈ w.probes, c ∉ r.members

theorem ProbesLoose.unlisted (h : w.ProbesLoose) (hc : ¬(w.ctx c).Probed) : w.Unlisted c := fun r hr g => hc (h.probed r hr c g)

/-- Closing takes the finished records off, each with its outcome (R178). -/
theorem ProbesLoose.closeProbes (h : w.ProbesLoose) : w.closeProbes.ProbesFit := by
  refine probesFit_iff.mpr ⟨⟨?_, h.apart.filter _, fun r hr => ?_, fun r hr => ?_⟩, fun r hr empty => ?_⟩
  · exact List.foldlRecOn (motive := AscendingSlots) _ _ h.outcomes fun q g r _ => g.join r.outcome
  · exact h.nodup r (List.mem_filter.mp hr).1
  · exact h.probed r (List.mem_filter.mp hr).1
  · have live := (List.mem_filter.mp hr).2
    simpa [ProbeRecord.finished, empty] using live

/-- Records edited one by one, each in its slot and with members of its own or c besides. -/
theorem ProbesLoose.edit (h : w.ProbesLoose) {f : ProbeRecord → ProbeRecord} (slot : ∀ r, (f r).slot = r.slot)
    (members : ∀ r, (f r).members.Sublist r.members) : ({ w with probes := w.probes.map f } : Cluster).ProbesLoose where
  outcomes := h.outcomes
  apart := List.pairwise_map.mpr (h.apart.imp fun {q r} g =>
    ⟨by rw [slot, slot]; exact g.1, fun x hq hr => g.2 x ((members q).subset hq) ((members r).subset hr)⟩)
  nodup r hr := by
    obtain ⟨q, hq, rfl⟩ := List.mem_map.mp hr
    exact (h.nodup q hq).sublist (members q)
  probed r hr x hx := by
    obtain ⟨q, hq, rfl⟩ := List.mem_map.mp hr
    exact h.probed q hq x ((members q).subset hx)

theorem ProbesLoose.count (h : w.ProbesLoose) (c : Carrier) (answered : Bool) :
    ({ w with probes := w.probes.map (ProbeRecord.count c answered) } : Cluster).ProbesLoose := by
  refine h.edit (fun r => ?_) fun r => ?_ <;> unfold ProbeRecord.count <;> split
  · rfl
  · rfl
  · exact List.filter_sublist
  · exact .refl _

theorem ProbesFit.endQuery (h : w.ProbesFit) (c : Carrier) (answered : Bool) :
    (w.endQuery c answered).ProbesFit ∧ (w.endQuery c answered).Unlisted c := by
  have loose := (probesFit_iff.mp h).1
  unfold Cluster.endQuery
  split
  · refine ⟨(loose.count c answered).closeProbes, fun r hr => ?_⟩
    obtain ⟨q, _, rfl⟩ := List.mem_map.mp (List.mem_filter.mp hr).1
    unfold ProbeRecord.count
    split
    · simp
    · next g => simpa using g
  · next g =>
    refine ⟨h, loose.unlisted fun p => g ⟨p.1, ?_⟩⟩
    exact Option.isSome_iff_ne_none.mpr p.2

/-- Records and outcomes are left, and what the members need. -/
theorem ProbesFit.of_probed (h : w.ProbesFit) (probes : v.probes = w.probes) (outcomes : AscendingSlots v.outcomes)
    (probed : ∀ r ∈ w.probes, ∀ c ∈ r.members, (w.ctx c).Probed → (v.ctx c).Probed) : v.ProbesFit := by
  obtain ⟨loose, unfinished⟩ := probesFit_iff.mp h
  refine probesFit_iff.mpr ⟨⟨outcomes, ?_, ?_, ?_⟩, ?_⟩ <;> rw [probes]
  · exact loose.apart
  · exact loose.nodup
  · exact fun r hr c hc => probed r hr c hc (loose.probed r hr c hc)
  · exact unfinished

theorem ProbesFit.moves (h : w.ProbesFit) (g : w.Moves X v) (apart : ∀ c, X c → w.Unlisted c) : v.ProbesFit :=
  h.of_probed g.probes (g.outcomes ▸ (probesFit_iff.mp h).1.outcomes) fun r hr c hc =>
    g.probed c fun hX => apart c hX r hr hc

theorem ProbesFit.retire (h : w.ProbesFit) (i : Site) : (w.retire i).ProbesFit :=
  h.of_probed rfl (probesFit_iff.mp h).1.outcomes fun _ _ c _ p => by simpa [Cluster.retire] using p

theorem unlisted_abandon (h : w.Unlisted c) (k : Carrier) : (w.abandon k).Unlisted c := by
  unfold Cluster.abandon
  split <;> exact h

theorem ProbesFit.abandon (h : w.ProbesFit) (k : Carrier) : (w.abandon k).ProbesFit := by
  unfold Cluster.abandon
  split
  · exact h.retire _
  · exact h

/-- The carrier's query and command have ended, and then its context moves. -/
theorem ProbesFit.quieted (h : w.ProbesFit) (moves : ((w.endQuery c false).abandon c).Moves (· = c) v) : v.ProbesFit := by
  obtain ⟨fit, unlisted⟩ := ProbesFit.endQuery h c false
  exact ProbesFit.moves (ProbesFit.abandon fit c) moves fun k hk => hk ▸ unlisted_abandon unlisted c

theorem ProbesFit.enterFaulted (h : w.ProbesFit) (c : Carrier) (cause : FaultCause) : (w.enterFaulted c cause).ProbesFit :=
  ProbesFit.quieted h (w.moves_enterFaulted c cause)

theorem ProbesFit.takeReply (h : w.ProbesFit) (coherent : w.CoherentBut fun _ => False) (p : Policy) (i : Site) (r : Reply) :
    (w.takeReply p i r).ProbesFit := by
  have retired := ProbesFit.retire h i
  unfold Cluster.takeReply
  split
  · next o ho =>
    rcases (w.retire i).moves_handleReply p o r with ⟨answered, moves⟩ | ⟨cause, faults⟩ | ⟨moves, query⟩
    · obtain ⟨fit, unlisted⟩ := ProbesFit.endQuery retired o.carrier answered
      exact ProbesFit.moves fit moves fun k hk => hk ▸ unlisted
    · rw [faults]
      exact ProbesFit.enterFaulted retired o.carrier cause
    · by_cases hq : o.command = .query
      · exact ProbesFit.moves retired (query hq) fun _ g => g.elim
      · refine ProbesFit.moves retired moves fun k hk => hk ▸ (probesFit_iff.mp retired).1.unlisted fun g => ?_
        have fits := coherent.sent i o (by simp [ho]) id
        have unknown : (w.ctx o.carrier).state = .unknown := by simpa [Cluster.retire] using g.1
        cases hc : o.command <;> simp_all [RadioCommand.fitsSent]
  · exact retired

theorem ProbesFit.linkDown (h : w.ProbesFit) (i : Site) : (w.linkDown i).ProbesFit := by
  have lowered : (w.setChannel i { w.channel i with up := false }).ProbesFit :=
    h.of_probed rfl (probesFit_iff.mp h).1.outcomes fun _ _ _ _ p => by simpa using p
  unfold Cluster.linkDown
  dsimp only
  refine List.foldlRecOn (motive := fun v : Cluster => v.ProbesFit) _ _ ?_ fun v g k _ => ?_
  · split
    · exact ProbesFit.retire lowered i
    · exact lowered
  · unfold Cluster.faultByLink
    split
    · exact g
    · exact ProbesFit.enterFaulted g k .link

theorem ProbesFit.placeProbe (h : w.ProbesFit) (n : Slot) : (w.placeProbe n).ProbesFit := by
  obtain ⟨loose, unfinished⟩ := probesFit_iff.mp h
  have kept {r : ProbeRecord} (hr : r ∈ (w.placeProbe n).probes) : r ∈ w.probes ∨ (r.members = [] ∧ r.selectionDone = false) := by
    rcases List.mem_append.mp hr with g | g
    · exact .inl (List.mem_filter.mp g).1
    · rw [List.mem_singleton.mp g]; exact .inr ⟨rfl, rfl⟩
  refine probesFit_iff.mpr ⟨⟨loose.outcomes, ?_, fun r hr => ?_, fun r hr => ?_⟩, fun r hr empty => ?_⟩
  · refine List.pairwise_append.mpr ⟨loose.apart.filter _, List.pairwise_singleton _ _, fun q hq r hr => ?_⟩
    rw [List.mem_singleton.mp hr]
    exact ⟨by simpa using (List.mem_filter.mp hq).2, fun _ _ => List.not_mem_nil⟩
  · rcases kept hr with g | ⟨g, _⟩
    · exact loose.nodup r g
    · rw [g]; exact List.nodup_nil
  · rcases kept hr with g | ⟨g, _⟩
    · exact loose.probed r g
    · rw [g]; exact fun _ hc => nomatch hc
  · rcases kept hr with g | ⟨_, g⟩
    · exact unfinished r g empty
    · exact g

/-- A carrier that no record lists joins the record of a slot, and is probed (R177). -/
theorem ProbesFit.joinProbe (h : w.ProbesFit) (unlisted : w.Unlisted c) (probed : (w.ctx c).Probed) (n : Slot) :
    (w.joinProbe n c).ProbesFit := by
  obtain ⟨loose, unfinished⟩ := probesFit_iff.mp h
  have member {q : ProbeRecord} {x : Carrier}
      (hx : x ∈ (if q.slot = n then { q with members := q.members ++ [c] } else q).members) :
      x ∈ q.members ∨ (x = c ∧ q.slot = n) := by
    split at hx
    · next g => exact (List.mem_append.mp hx).imp_right fun k => ⟨List.mem_singleton.mp k, g⟩
    · exact .inl hx
  refine probesFit_iff.mpr ⟨⟨loose.outcomes, List.pairwise_map.mpr ?_, fun r hr => ?_, fun r hr x hx => ?_⟩,
    fun r hr empty => ?_⟩
  · refine loose.apart.imp_of_mem fun {q r} hq hr g => ⟨?_, fun x hx hy => ?_⟩
    · dsimp only; split <;> split <;> exact g.1
    · rcases member hx with inq | ⟨isc, hn⟩ <;> rcases member hy with inr | ⟨isc', hn'⟩
      · exact g.2 x inq inr
      · exact unlisted q hq (isc' ▸ inq)
      · exact unlisted r hr (isc ▸ inr)
      · exact g.1 (hn.trans hn'.symm)
  · obtain ⟨q, hq, rfl⟩ := List.mem_map.mp hr
    dsimp only
    split
    · exact List.nodup_append.mpr ⟨loose.nodup q hq, List.nodup_cons.mpr ⟨List.not_mem_nil, List.nodup_nil⟩, fun x hx y hy => by
        rw [List.mem_singleton.mp hy]; exact fun g => unlisted q hq (g ▸ hx)⟩
    · exact loose.nodup q hq
  · obtain ⟨q, hq, rfl⟩ := List.mem_map.mp hr
    rcases member hx with hx | ⟨rfl, _⟩
    · exact loose.probed q hq x hx
    · exact probed
  · obtain ⟨q, hq, rfl⟩ := List.mem_map.mp hr
    dsimp only at empty ⊢
    split at empty <;> split
    · simp at empty
    · next g k => exact absurd g k
    · next g k => exact absurd k g
    · exact unfinished q hq empty

theorem ProbesFit.probeCarrier (h : w.ProbesFit) (n : Slot) (c : Carrier) : (Machine.probeCarrier n w c).1.ProbesFit := by
  have loose := (probesFit_iff.mp h).1
  have joins {v : Cluster} (hc : ¬(w.ctx c).Probed) (moves : w.Moves (· = c) v) (probed : (v.ctx c).Probed) :
      (v.joinProbe n c).ProbesFit := by
    refine ProbesFit.joinProbe (ProbesFit.moves h moves fun k hk => hk ▸ loose.unlisted hc) ?_ probed n
    unfold Unlisted
    rw [moves.probes]
    exact loose.unlisted hc
  unfold Machine.probeCarrier
  dsimp only
  split
  · next g =>
    have taken : w.Moves (· = c) ((w.editCtx c fun x => { x.enter .unknown with probeOrigin := some .serving }).want c .query) :=
      moves_takeUp (by simp [g.1]) rfl rfl rfl rfl rfl rfl
    exact joins (by simp [Context.Probed, g.1]) taken (by simp [Context.Probed])
  · split
    · next g =>
      refine joins (by simp [Context.Probed, g.2]) (.editCtx (.edit ?_ rfl) fun k => absurd rfl k) (by simp [Context.Probed, g.1])
      exact .of_same rfl (.inl rfl) (.inl rfl) (.inl rfl) (.inr g.1) (.inl rfl) id
    · split
      · next g =>
        have taken : w.Moves (· = c) ((w.editCtx c fun x =>
            { x.enter .unknown with probeOrigin := some .faulted, cls := .absent }).want c .query) :=
          moves_takeUp (by simp [g.1]) rfl rfl rfl rfl rfl rfl
        exact joins (by simp [Context.Probed, g.1]) taken (by simp [Context.Probed])
      · obtain ⟨loose, unfinished⟩ := probesFit_iff.mp h
        refine probesFit_iff.mpr ⟨loose.edit (fun r => ?_) fun r => ?_, fun r hr => ?_⟩
        · split <;> rfl
        · split <;> exact .refl _
        · obtain ⟨q, hq, rfl⟩ := List.mem_map.mp hr
          dsimp only
          split <;> exact unfinished q hq

theorem ProbesFit.endSelection (h : w.ProbesFit) (n : Slot) : (w.endSelection n).ProbesFit := by
  refine ProbesLoose.closeProbes ((probesFit_iff.mp h).1.edit (fun r => ?_) fun r => ?_)
  · split <;> rfl
  · split <;> exact .refl _

theorem ProbesFit.testGrant (h : w.ProbesFit) (i : Site) (rs : RunState) (t : Timeouts) : (w.testGrant i rs t).ProbesFit := by
  unfold Cluster.testGrant
  split
  · next x _ =>
    refine h.of_probed rfl (probesFit_iff.mp h).1.outcomes fun _ _ c _ p => ?_
    rw [Cluster.ctx_send]
    split
    · obtain ⟨state, origin⟩ := p
      unfold Context.edit Context.atSend Context.Probed
      have rest : sendState x.command (w.ctx c).state = (w.ctx c).state := by
        rw [state]; cases x.command <;> rfl
      simp only [rest, if_true]
      split <;> exact ⟨state, origin⟩
    · exact p
  · exact h

theorem records_configure (w : Cluster) (rows : List CarrierRow) :
    (w.configure rows).probes = w.probes ∧ (w.configure rows).outcomes = w.outcomes := by
  unfold Cluster.configure
  rw [Cluster.probes_markAllDirty, Cluster.outcomes_markAllDirty]
  refine List.foldlRecOn (motive := fun v : Cluster => v.probes = w.probes ∧ v.outcomes = w.outcomes) _ _ ⟨rfl, rfl⟩
    fun v g r _ => ?_
  unfold Cluster.configureRow Cluster.makePresent
  split
  · rw [Cluster.probes_want, Cluster.outcomes_want]
    exact g
  · exact g

theorem ProbesFit.applyRow (h : w.ProbesFit) (k : Carrier) (row : CarrierRow) : (w.applyRow k row).1.ProbesFit := by
  unfold Cluster.applyRow
  split
  · split
    · split
      · next g => exact ProbesFit.moves h (moves_makePresent (X := fun _ => False) g row.cfg) fun _ g => g.elim
      · exact ProbesFit.moves (X := fun _ => False) h (.editPlain ⟨rfl, rfl, rfl, rfl, rfl, fun _ => rfl, id⟩) fun _ g => g.elim
    · exact h
  · split
    · exact h
    · exact ProbesFit.quieted h (w.moves_makeUnmanaged k)

theorem probesFit_act {i : Instr} {s : State} (hs : s.Coherent) (coherent : w.CoherentBut fun _ => False) (h : w.ProbesFit)
    (act : Cluster.Act i s w v) : v.ProbesFit := by
  have moves (g : w.Moves (fun _ => False) v) : v.ProbesFit := ProbesFit.moves h g fun _ k => k.elim
  cases act with
  | plain g =>
    exact h.of_probed g.probes (g.outcomes (probesFit_iff.mp h).1.outcomes) fun _ _ c _ p =>
      ⟨(g.ctx c).state.trans p.1, (g.ctx c).probeOrigin.symm ▸ p.2⟩
  | unwindAll _ r => exact moves (.unwindAll ..)
  | closeEffects _ n => exact moves (.wakeAll ..)
  | deepStopEffects _ n => exact moves (.foldl moves_deepStop ..)
  | followUp _ n => exact moves (.foldl moves_deepStop ..)
  | passVisit t k =>
    have drifts := s.cluster.drifts_passVisit t k
    exact h.of_probed drifts.probes (drifts.outcomes ▸ (probesFit_iff.mp h).1.outcomes) fun _ _ c _ => drifts.probed c
  | holdOn _ minutes k => exact moves (moves_holdOn ..)
  | releaseHold _ k => exact moves (moves_releaseHold ..)
  | sleepNow _ t dark k => exact moves (moves_sleepNow ..)
  | placeProbe _ n => exact ProbesFit.placeProbe h n
  | probe _ n k => exact ProbesFit.probeCarrier h n k
  | endSelection _ n => exact ProbesFit.endSelection h n
  | applyRow _ k row ok => exact ProbesFit.applyRow h k row
  | configure rows startup =>
    obtain ⟨probes, outcomes⟩ := s.cluster.records_configure rows
    refine h.of_probed probes (outcomes ▸ (probesFit_iff.mp h).1.outcomes) fun _ _ c _ p => ?_
    rw [Context.Probed, show (s.cluster.ctx c).state = .unmanaged from hs.unmanaged (hs.2.1.1 startup) c] at p
    cases p.1
  | halt _ quiet =>
    exact probesFit_iff.mpr ⟨⟨(probesFit_iff.mp h).1.outcomes, .nil, fun _ hr => (nomatch hr), fun _ hr => (nomatch hr)⟩,
      fun _ hr => (nomatch hr)⟩
  | testGrant _ i rs t => exact ProbesFit.testGrant h i rs t
  | commandTimeout _ i =>
    unfold Cluster.commandTimeout
    split
    · exact ProbesFit.enterFaulted (ProbesFit.retire h i) _ _
    · exact ProbesFit.retire h i
  | takeReply _ p i r => exact ProbesFit.takeReply h coherent p i r
  | linkUp _ i =>
    have raised : (w.setChannel i { w.channel i with up := true }).ProbesFit :=
      h.of_probed rfl (probesFit_iff.mp h).1.outcomes fun _ _ _ _ p => by simpa using p
    exact ProbesFit.moves raised (Moves.foldl (X := fun _ => False) moves_relinkIfFree _ _) fun _ k => k.elim
  | linkDown _ i => exact ProbesFit.linkDown h i

theorem probesFit_reset : Cluster.reset.ProbesFit := ⟨.nil, .nil, .nil, fun _ hr => nomatch hr⟩

end Cluster

/-- Every command keeps the records and outcomes of a coherent state. -/
theorem State.Coherent.probesFit {c : Instr} {s t : State} (hs : s.Coherent) (h : s.cluster.ProbesFit)
    (ht : Machine.exec c s = .next t) : t.cluster.ProbesFit := by
  by_cases reset : c = .powerOnReset
  · subst reset
    cases ht
    exact Cluster.probesFit_reset
  · refine ((State.ends_exec ht reset).induct (R := fun w => (w.CoherentBut fun _ => False) ∧ w.ProbesFit) ⟨hs.tables, h⟩
      (fun w v g act => ⟨Cluster.coherent_act hs g.1 act, Cluster.probesFit_act hs g.1 g.2 act⟩) fun w k g => ⟨?_, ?_⟩).2
    · exact (Cluster.alike_setCtx w k { w.ctx k with dirty := false } rfl rfl rfl).coherentBut g.1
    · refine g.2.of_probed rfl g.2.1 fun _ _ c _ p => ?_
      rw [Cluster.ctx_setCtx]
      split
      · next e => subst e; exact p
      · exact p

/-! ## The ranges of the counters -/

theorem State.countersInRange_exec {c : Instr} {s t : State} (h : s.CountersInRange) (ht : Machine.exec c s = .next t) :
    t.CountersInRange := by
  by_cases reset : c = .powerOnReset
  · subst reset
    cases ht
    exact (by decide : (0 < 4294967296 ∧ 0 ≤ 65535 ∧ 0 ≤ 255 ∧ 0 ≤ 65535 ∧ 0 ≤ 65535 ∧ 0 ≤ 65535 ∧ 0 ≤ 65535 ∧ 0 ≤ 4294967295))
  · obtain ⟨sweeps, overruns, starvation, torn, late, memErrors, edition, tally⟩ := h
    have frame := State.frame_exec ht reset
    have ends := State.ends_exec ht reset
    exact ⟨frame.sweepCount.elim (· ▸ sweeps) And.left, frame.overruns.elim (· ▸ overruns) id, ends.starvation starvation,
      ends.torn torn, frame.late.elim (· ▸ late) And.left, frame.memErrors.elim (· ▸ memErrors) id, ends.edition edition,
      frame.fleetTally.elim (· ▸ tally) And.left⟩

end Sys2Proof.Machine
end

section
/-! The outstanding access lies in the area at the base in use (sections 1.1 and 1.3). -/

namespace Sys2Proof.Machine

/-- XBASE and the base of a start-up leave room for the area (R1). -/
def State.Rooted (s : State) : Prop := s.xbase ≤ 0xFFFFA#20 ∧ ∀ u ∈ s.startup.toList, u.base ≤ 0xFFFFA#20

/-- The bytes of an access lie in the area, clear of its gap (R1). -/
def Placed (offset length : Nat) : Prop := offset + length ≤ 0x0600 ∨ (0x0800 ≤ offset ∧ offset + length ≤ 0x5800)

theorem placed_slot (n : Slot) (offset length : Nat) (h : offset + length ≤ 32) : Placed (slotOffset n + offset) length :=
  .inl (by unfold slotOffset; omega)

theorem placed_row (c : Carrier) : Placed (rowOffset c) 32 := .inr (by unfold rowOffset; omega)

theorem placed_observation (c : Carrier) (offset length : Nat) (h : offset + length ≤ 16) :
    Placed (observationOffset c + offset) length := .inr (by unfold observationOffset; omega)

theorem placed_mirror (c : Carrier) : Placed (mirrorOffset c) 32 := .inr (by unfold mirrorOffset; omega)

namespace State

variable {s u t : State} {p : Pass}

theorem Rooted.only (h : s.Rooted) (g : s.OnlyPass t) : t.Rooted := by
  unfold State.Rooted
  rw [g.xbase, g.startup]
  exact h

theorem PortInArea.rooted (h : s.PortInArea) : s.Rooted := ⟨h.1.1, h.1.2.2⟩

theorem PortInArea.base (h : s.PortInArea) (hp : s.pass = some p) : p.base ≤ 0xFFFFA#20 := h.1.2.1 p (by simp [hp])

/-! ## Accesses -/

theorem portInArea_free (h : t.Rooted) (bases : ∀ q ∈ t.pass.toList, q.base ≤ 0xFFFFA#20) (port : t.port = none) :
    t.PortInArea :=
  ⟨⟨h.1, bases, h.2⟩, fun a ha => by rw [port] at ha; cases ha⟩

/-- The pass and the port as they were, at the base that the pass had (R2). -/
theorem PortInArea.same (h : s.PortInArea) (rooted : t.Rooted) (pass : t.pass.map Pass.base = s.pass.map Pass.base)
    (port : t.port.map (fun a => (a.address, a.length)) = s.port.map fun a => (a.address, a.length))
    (startup : s.pass = none → t.startup.map Startup.base = s.startup.map Startup.base) : t.PortInArea := by
  refine ⟨⟨rooted.1, fun q hq => ?_, rooted.2⟩, fun a ha => ?_⟩
  · have : some q.base = s.pass.map Pass.base := by rw [← pass, Option.mem_toList.mp hq, Option.map_some]
    obtain ⟨p, hp, e⟩ := Option.map_eq_some_iff.mp this.symm
    exact e ▸ h.base hp
  · rw [ha, Option.map_some] at port
    obtain ⟨a', ha', e⟩ := Option.map_eq_some_iff.mp port.symm
    obtain ⟨base, hbase, area⟩ := h.2 a' ha'
    obtain ⟨address, length⟩ := Prod.mk.injEq .. ▸ e
    refine ⟨base, ?_, address ▸ length ▸ area⟩
    unfold State.baseInUse at hbase ⊢
    rw [pass]
    cases hp : s.pass with
    | none => rw [startup hp]; rwa [hp] at hbase
    | some p => rwa [hp] at hbase

section
variable (h : u.Rooted) (hp : p.base ≤ 0xFFFFA#20)
include h hp

theorem portInArea_issued {a : Access} (pass : u.pass = some p) (port : u.port = some a)
    (area : inArea p.base a.address a.length) : u.PortInArea := by
  refine ⟨⟨h.1, fun q hq => ?_, h.2⟩, fun b hb => ?_⟩
  · rw [pass] at hq
    rw [← Option.some.inj (Option.mem_toList.mp hq)]
    exact hp
  · rw [port] at hb
    cases hb
    exact ⟨p.base, by simp [State.baseInUse, pass], area⟩

theorem portInArea_read (pass : u.pass = some p) {offset length : Nat} (area : Placed offset length) (q : Purpose) :
    (u.read p.base offset length q).PortInArea :=
  portInArea_issued (u := u.read p.base offset length q) h hp pass rfl ⟨offset, rfl, area⟩

theorem portInArea_write (pass : u.pass = some p) {offset : Nat} {data : List Byte} (area : Placed offset data.length) (q : Purpose) :
    (u.write p.base offset data q).PortInArea :=
  portInArea_issued (u := u.write p.base offset data q) h hp pass rfl ⟨offset, rfl, area⟩

theorem portInArea_readIn (ph : Phase) {offset length : Nat} (area : Placed offset length) (q : Purpose) :
    ((u.enterPhase p ph).read p.base offset length q).PortInArea :=
  portInArea_issued (u := (u.enterPhase p ph).read p.base offset length q) (p := { p with phase := ph }) h hp rfl rfl
    ⟨offset, rfl, area⟩

theorem portInArea_writeIn (ph : Phase) {offset : Nat} {data : List Byte} (area : Placed offset data.length) (q : Purpose) :
    ((u.enterPhase p ph).write p.base offset data q).PortInArea :=
  portInArea_issued (u := (u.enterPhase p ph).write p.base offset data q) (p := { p with phase := ph }) h hp rfl rfl
    ⟨offset, rfl, area⟩

theorem portInArea_enterPhase (port : u.port = none) (ph : Phase) : (u.enterPhase p ph).PortInArea := by
  refine portInArea_free (t := u.enterPhase p ph) h (fun q hq => ?_) port
  cases Option.mem_toList.mp hq
  exact hp

/-! ## Write-back -/

theorem portInArea_issueHeader (wrote : Bool) : (u.issueHeader p wrote).PortInArea := by
  have area (r : State) : Placed 0 (headerBytes r).length := .inl (by rw [headerBytes_length]; decide)
  cases wrote
  · exact portInArea_writeIn h hp _ (area _) _
  · exact portInArea_writeIn (u := { u with editionWord := wrapUp 65536 u.editionWord }) h hp _ (area _) _

theorem portInArea_nextOutcome (wrote : Bool) (todo : List Slot) : (u.nextOutcome p wrote todo).PortInArea := by
  cases todo with
  | nil => exact portInArea_issueHeader h hp wrote
  | cons n ns => exact portInArea_readIn h hp _ (placed_slot n 0 1 (by decide)) _

theorem portInArea_writeRecords (wrote : Bool) (start : Nat) : (u.writeRecords p wrote start).PortInArea := by
  unfold State.writeRecords
  split
  · next c _ =>
    exact portInArea_writeIn (u := u.on fun w => w.setCtx c { w.ctx c with dirty := false }) h hp _
      (by rw [mirrorRecord_length]; exact placed_mirror c) _
  · exact portInArea_nextOutcome h hp wrote _

theorem portInArea_beginWriteBack : (u.beginWriteBack p).PortInArea := portInArea_writeRecords h hp false 0

omit hp in
theorem portInArea_endPass (port : u.port = none) (wrote : Bool) : (u.endPass wrote).PortInArea := by
  unfold State.endPass
  generalize hv : (if wrote then u.notify .change else u) = v
  have rooted : v.Rooted := by rw [← hv]; cases wrote <;> exact h
  have free : v.port = none := by rw [← hv]; cases wrote <;> exact port
  dsimp only
  split
  · next su hs =>
    refine ⟨⟨rooted.1, fun q hq => (nomatch hq), rooted.2⟩, fun a ha => ?_⟩
    cases ha
    refine ⟨su.base, ?_, policyOffset, rfl, (.inl (by decide) : Placed policyOffset 192)⟩
    exact congrArg (fun o => (none : Option (BitVec 20)).or (Option.map Startup.base o)) hs
  · exact portInArea_free (t := { v with pass := none }) rooted (fun q hq => (nomatch hq)) free

theorem portInArea_writeBackNext (port : u.port = none) (pass : u.pass = some p) (wrote : Bool) (todo : List Slot)
    (purpose : Purpose) (data : Option (List Byte)) : (u.writeBackNext p wrote todo purpose data).PortInArea := by
  unfold State.writeBackNext
  split
  · exact portInArea_writeRecords h hp wrote _
  · split
    · split
      · refine portInArea_write h hp pass ?_ _
        exact placed_slot _ 0x10 _ (by simp [outcomeBytes, leBytes_length])
      · exact portInArea_nextOutcome h hp wrote _
    · exact portInArea_nextOutcome h hp wrote _
  · split
    · exact portInArea_write h hp pass (placed_slot _ 0 1 (by decide)) _
    · exact portInArea_nextOutcome h hp wrote _
  · have remarked : (u.remark p).Rooted ∧ (u.remark p).port = none := by
      unfold State.remark
      split <;> exact ⟨h, port⟩
    exact portInArea_endPass remarked.1 remarked.2 wrote
  · exact portInArea_nextOutcome h hp wrote _

theorem portInArea_writeBackEnded (port : u.port = none) (wrote : Bool) (todo : List Slot) (purpose : Purpose)
    (data : Option (List Byte)) : (u.writeBackEnded p wrote todo purpose data).PortInArea := by
  have rooted := h.only (u.onlyPass_writeBackEffect purpose data)
  have free : (u.writeBackEffect purpose data).port = none := by
    unfold State.writeBackEffect
    split
    · exact port
    · exact port
    · repeat' split
      all_goals exact port
    · exact port
    · exact port
  unfold State.writeBackEnded
  generalize u.writeBackEffect purpose data = v at rooted free
  generalize (wrote || recordWritten purpose data) = wrote'
  dsimp only
  split
  · split
    · exact portInArea_endPass (u := { v with editionWord := wrapUp 65536 v.editionWord }) rooted free _
    · exact portInArea_endPass rooted free _
  · exact portInArea_writeBackNext (u := v.enterPhase p (.writeBack wrote' todo))
      (p := { p with phase := .writeBack wrote' todo }) rooted hp free rfl _ _ _ _

/-! ## Intake -/

theorem portInArea_intakeFrom (port : u.port = none) (n : Nat) : (u.intakeFrom p n).PortInArea := by
  unfold State.intakeFrom
  split
  · next hn => exact portInArea_readIn h hp _ (placed_slot ⟨n, hn⟩ 0 1 (by decide)) _
  · unfold State.endIntake
    split
    · exact portInArea_beginWriteBack h hp
    · exact portInArea_enterPhase h hp port _

theorem portInArea_readFields (n : Slot) : (u.readFields p n).PortInArea :=
  portInArea_readIn (u := u.on fun w => w.outcomeLeaves n) h hp _ (placed_slot n 1 15 (by decide)) _

theorem portInArea_writeTaken (n : Slot) : (u.writeTaken p n).PortInArea :=
  portInArea_writeIn (u := u.on fun w => w.outcomeLeaves n) h hp _ (placed_slot n 0 1 (by decide)) _

theorem portInArea_slotStateRead (port : u.port = none) (n : Slot) (v : Nat) : (u.slotStateRead p n v).PortInArea := by
  unfold State.slotStateRead
  split
  · exact portInArea_intakeFrom h hp port _
  · split
    · exact portInArea_writeTaken h hp n
    · split
      · split
        · exact portInArea_readFields h hp n
        · exact portInArea_intakeFrom (u := { u with retake := none }) h hp port _
      · exact portInArea_intakeFrom h hp port _

theorem portInArea_intakeEnded (port : u.port = none) (pass : u.pass = some p) (run : Option DirectiveRun) (purpose : Purpose)
    (data : Option (List Byte)) : (u.intakeEnded p run purpose data).PortInArea := by
  have fails (n : Slot) : (u.failTaken p n).PortInArea := portInArea_beginWriteBack (u := { u with retake := some n }) h hp
  unfold State.intakeEnded
  split
  · exact portInArea_slotStateRead h hp port _ _
  · exact portInArea_readFields h hp _
  · unfold State.beginDirective
    dsimp only
    split
    · exact portInArea_readIn h hp _ (.inl (by decide)) _
    · exact portInArea_enterPhase h hp port _
  · exact portInArea_read h hp pass (.inl (by decide)) _
  · exact portInArea_enterPhase h hp port _
  · exact portInArea_enterPhase h hp port _
  · exact fails _
  · exact fails _
  · exact fails _
  · exact fails _
  · exact fails _
  · exact portInArea_beginWriteBack h hp

theorem portInArea_finishDirective (port : u.port = none) (d : DirectiveRun) : (u.finishDirective p d).PortInArea :=
  portInArea_intakeFrom (u := { u with retake := if u.retake = some d.slot then none else u.retake }) h hp port _

theorem portInArea_concludeDirective (port : u.port = none) (d : DirectiveRun) (code : OutcomeCode) :
    (u.concludeDirective p d code).PortInArea :=
  portInArea_finishDirective (u := u.on fun w => w.outcomeJoins { slot := d.slot, affected := d.affected, skipped := d.skipped, code })
    h hp port d

/-! ## Gather -/

theorem portInArea_endGather (taken visited failed : Bool) : (u.endGather p taken visited failed).PortInArea := by
  have rooted := h.only (u.onlyPass_starvationCheck taken visited failed)
  unfold State.endGather
  dsimp only
  split
  · exact portInArea_beginWriteBack rooted hp
  · exact portInArea_readIn rooted hp _ (placed_slot 0 0 1 (by decide)) _

theorem portInArea_gatherFrom (taken visited : Bool) (start : Nat) : (u.gatherFrom p taken visited start).PortInArea := by
  unfold State.gatherFrom
  split
  · next c _ => exact portInArea_readIn h hp _ (placed_observation c 0 1 (by decide)) _
  · exact portInArea_endGather h hp ..

theorem portInArea_gatherEnded (pass : u.pass = some p) (taken visited : Bool) (purpose : Purpose) (data : Option (List Byte)) :
    (u.gatherEnded p taken visited purpose data).PortInArea := by
  unfold State.gatherEnded
  split
  · next c b => exact portInArea_read h hp pass (placed_observation c 4 4 (by decide)) _
  · next c stamp b => exact portInArea_read h hp pass (placed_observation c 0 1 (by decide)) _
  · next c stamp used users b =>
    have rooted : (u.slotVisited c stamp (b.getD 0 0#8) used users).Rooted := by
      unfold State.slotVisited
      dsimp only
      split <;> exact h
    exact portInArea_gatherFrom rooted hp ..
  · exact portInArea_endGather h hp ..

theorem portInArea_passEnded (port : u.port = none) (pass : u.pass = some p) (purpose : Purpose) (data : Option (List Byte)) :
    (u.passEnded p purpose data).PortInArea := by
  have cut : (u.cutEnded purpose data).PortInArea :=
    portInArea_endPass (u := { u with retake := if data.isNone then purpose.takenSlot.or u.retake else u.retake }) h port false
  unfold State.passEnded
  split
  · exact portInArea_writeBackEnded h hp port ..
  · split
    · exact cut
    · exact portInArea_gatherEnded h hp pass ..
  · split
    · exact cut
    · exact portInArea_intakeEnded h hp port pass ..
  · refine portInArea_free h (fun q hq => ?_) port
    rw [pass] at hq
    cases Option.mem_toList.mp hq
    exact hp

end

/-! ## The ends of accesses -/

theorem portInArea_startup {v : Startup} (h : u.Rooted) (pass : u.pass = none) (hv : u.startup = some v) {offset length : Nat}
    (area : Placed offset length) (q : Purpose) : (u.read v.base offset length q).PortInArea := by
  have away (r : Pass) (hr : r ∈ (u.read v.base offset length q).pass.toList) : False := by
    rw [State.pass_read, pass] at hr
    cases hr
  refine ⟨⟨h.1, fun r hr => (away r hr).elim, h.2⟩, fun a ha => ?_⟩
  cases ha
  exact ⟨v.base, by simp [State.baseInUse, pass, hv], offset, rfl, area⟩

/-- The windows of a start-up leave the port's setting. -/
theorem rooted_applyWindows (ws : Vector WindowEntry 8) (order : List WindowNo) :
    (u.applyWindows ws order).xbase = u.xbase ∧ (u.applyWindows ws order).startup = u.startup ∧
      (u.applyWindows ws order).pass = u.pass ∧ (u.applyWindows ws order).port = u.port := by
  unfold State.applyWindows
  refine List.foldlRecOn (motive := fun v : State => v.xbase = u.xbase ∧ v.startup = u.startup ∧ v.pass = u.pass ∧ v.port = u.port)
    _ _ ⟨rfl, rfl, rfl, rfl⟩ fun v g n _ => ?_
  unfold State.settleWindow
  dsimp only
  split
  · exact g
  · split <;> exact g

theorem portInArea_startupEnded {v : Startup} (h : u.Rooted) (pass : u.pass = none) (port : u.port = none)
    (hv : u.startup = some v) (purpose : Purpose) (data : Option (List Byte)) : (u.startupEnded v purpose data).PortInArea := by
  have free {r : State} (rooted : r.Rooted) (away : r.pass = none) (idle : r.port = none) : r.PortInArea :=
    portInArea_free rooted (fun q hq => by rw [away] at hq; cases hq) idle
  unfold State.startupEnded
  split
  · next b =>
    unfold State.startupRead
    split
    · exact portInArea_startup h pass hv (.inl (by decide)) _
    · next policy =>
      obtain ⟨xbase, startup, pass', _⟩ := rooted_applyWindows (u := { u with policy := policy }) (parseWindows b) windowNos
      refine portInArea_startup ?_ (pass'.trans pass) (startup.trans hv) (placed_row 0) _
      exact ⟨xbase.symm ▸ h.1, startup.symm ▸ h.2⟩
    · next c =>
      dsimp only
      split
      · next hc =>
        refine portInArea_startup (v := { v with rows := parseRow c b :: v.rows })
          (u := { u with startup := some { v with rows := parseRow c b :: v.rows } }) ⟨h.1, fun r hr => ?_⟩ pass rfl (placed_row _) _
        cases Option.mem_toList.mp hr
        exact h.2 v (by rw [hv]; simp)
      · exact free (r := u.configure _) ⟨h.1, fun r hr => (nomatch hr)⟩ pass port
    · exact free h pass port
  · exact free (r := { u with startup := none }) ⟨h.1, fun r hr => (nomatch hr)⟩ pass port

theorem portInArea_accessEnded (h : u.Rooted) (bases : ∀ q ∈ u.pass.toList, q.base ≤ 0xFFFFA#20) (port : u.port = none)
    (purpose : Purpose) (data : Option (List Byte)) : (u.accessEnded purpose data).PortInArea := by
  unfold State.accessEnded
  split
  · next p hp => exact portInArea_passEnded h (bases p (by simp [hp])) port hp purpose data
  · next hp =>
    split
    · next v hv => exact portInArea_startupEnded h hp port hv purpose data
    · exact portInArea_free h bases port

theorem PortInArea.accessFailed (h : s.PortInArea) (a : Access) : (s.accessFailed a).PortInArea := by
  have ended := portInArea_accessEnded (u := { s with port := none }.countFailure) h.rooted h.1.2.1 rfl a.purpose none
  rw [State.accessFailed]
  exact ended

theorem PortInArea.accessCompleted (h : s.PortInArea) (a : Access) (data : List Byte) : (s.accessCompleted a data).PortInArea := by
  have ended := portInArea_accessEnded (u := { s with port := none }) h.rooted h.1.2.1 rfl a.purpose (some data)
  rw [State.accessCompleted]
  exact ended

/-! ## The commands -/

/-- XBASE, pass, port and start-up are left. -/
theorem PortInArea.untouched (h : s.PortInArea) (xbase : t.xbase = s.xbase) (pass : t.pass = s.pass) (port : t.port = s.port)
    (startup : t.startup = s.startup) : t.PortInArea := by
  refine h.same ⟨xbase ▸ h.rooted.1, startup ▸ h.rooted.2⟩ (by rw [pass]) (by rw [port]) fun _ => by rw [startup]

theorem PortInArea.testReleasingEnd (h : s.PortInArea) : s.testReleasingEnd.PortInArea :=
  h.untouched (by simp) (by simp) (by simp) (by simp)

theorem PortInArea.refuse (h : s.PortInArea) : s.refuse.PortInArea := h.untouched rfl rfl rfl rfl

theorem PortInArea.leaveRunning (h : s.PortInArea) : s.leaveRunning.PortInArea := by
  unfold State.leaveRunning
  split
  · next p hp =>
    split
    · split
      · exact portInArea_beginWriteBack (p := { p with leftRunning := true }) h.rooted (h.base (p := p) hp)
      · exact h.same h.rooted (by rw [hp]; rfl) rfl fun _ => rfl
    · exact h
  · exact h

theorem PortInArea.run (h : s.PortInArea) (coherent : s.Coherent) (ht : execRun s = .next t) : t.PortInArea := by
  unfold execRun at ht
  cases ht
  split
  · next halted =>
    split
    · next idle =>
      have unstarted : s.startup = none := Option.isNone_iff_eq_none.mp idle
      have rooted : ({ s with refused := false, startup := some { base := s.xbase, rows := [] } } : State).Rooted :=
        ⟨h.rooted.1, fun v hv => by cases Option.mem_toList.mp hv; exact h.rooted.1⟩
      unfold State.beginStartup
      dsimp only
      split
      · next free =>
        have pass : s.pass = none := by
          cases hp : s.pass with
          | none => rfl
          | some p => exact absurd halted (coherent.awake_of_pass hp (.inl (Option.isNone_iff_eq_none.mp free)))
        exact portInArea_startup (v := { base := s.xbase, rows := [] }) rooted pass rfl (.inl (by decide)) _
      · next busy =>
        refine h.same rooted rfl rfl fun hp => ?_
        obtain ⟨a, ha⟩ := Option.ne_none_iff_exists'.mp fun g => busy (Option.isNone_iff_eq_none.mpr g)
        obtain ⟨base, hbase, _⟩ := h.2 a ha
        rw [State.baseInUse, hp, unstarted] at hbase
        cases hbase
    · exact h.refuse
  · exact h.untouched rfl rfl rfl rfl
  · exact h.refuse
  · exact h.refuse

theorem PortInArea.hold (h : s.PortInArea) (ht : execHold s = .next t) : t.PortInArea := by
  unfold execHold at ht
  cases ht
  split
  · have left : ({ s with runState := .holding, refused := false }.clearPending).PortInArea := h.untouched rfl rfl rfl rfl
    exact left.leaveRunning
  all_goals exact h.refuse

theorem PortInArea.release (h : s.PortInArea) (ht : execRelease s = .next t) : t.PortInArea := by
  have released : s.release.PortInArea := by
    unfold State.release
    dsimp only
    refine PortInArea.leaveRunning (PortInArea.testReleasingEnd (h.untouched ?_ ?_ ?_ ?_)) <;> rfl
  unfold execRelease at ht
  cases ht
  split
  · exact released
  · exact released
  all_goals exact h.refuse

theorem PortInArea.halt (h : s.PortInArea) (ht : execHalt s = .next t) : t.PortInArea := by
  have cut {r : State} (g : r.PortInArea) : r.cutPass.PortInArea := by
    unfold State.cutPass
    split
    · next p hp =>
      split
      · exact g.same g.rooted (by rw [hp]; rfl) rfl fun _ => rfl
      · next free =>
        exact portInArea_free (t := { r with pass := none }) g.rooted (fun q hq => (nomatch hq)) (by simpa using free)
    · exact g
  unfold execHalt at ht
  cases ht
  split
  · exact cut (h.untouched rfl rfl rfl rfl)
  · exact h.refuse

theorem PortInArea.expire (h : s.PortInArea) : s.expire.PortInArea := by
  unfold State.expire
  dsimp only
  split
  · exact h
  · split <;> exact h.untouched rfl rfl rfl rfl
  all_goals
    split
    · exact h.untouched rfl rfl rfl rfl
    · refine portInArea_beginWriteBack (u := { s with timer := { s.timer with downCount := s.policy.reload } }) ?_ ?_
      · exact h.rooted
      · exact h.rooted.1

theorem PortInArea.sweepBegin (h : s.PortInArea) (ht : execSweepBegin s = .next t) : t.PortInArea := by
  unfold execSweepBegin at ht
  cases ht
  split
  · refine portInArea_gatherFrom ?_ ?_ _ _ _
    · exact h.rooted
    · exact h.rooted.1
  · exact h

theorem PortInArea.decisionVisit (h : s.PortInArea) (coherent : s.Coherent) (ht : execDecisionVisit s = .next t) :
    t.PortInArea := by
  unfold execDecisionVisit at ht
  cases ht
  split
  · next p hp =>
    split
    · next position hph =>
      have port : s.port = none := coherent.2.2 p (by simp [hp]) (by rw [hph]; rfl)
      unfold State.visitNext
      split
      · next hn =>
        have visited := s.setting
        have tested : ((s.on fun w => w.passVisit s.setting ⟨position, hn⟩).testReleasingEnd).Rooted ∧
            ((s.on fun w => w.passVisit s.setting ⟨position, hn⟩).testReleasingEnd).port = none := by
          refine ⟨Rooted.only (s := s.on _) h.rooted (State.onlyPass_testReleasingEnd _), ?_⟩
          rw [State.port_testReleasingEnd]
          exact port
        dsimp only
        split
        · exact portInArea_enterPhase tested.1 (h.base hp) tested.2 _
        · exact portInArea_beginWriteBack tested.1 (h.base hp)
      · exact portInArea_beginWriteBack h.rooted (h.base hp)
    · exact h
  · exact h

/-! ### Directives -/

section
variable {d : DirectiveRun}

/-- The directive that waits ends, in a state that leaves the port free. -/
theorem PortInArea.concludes (h : s.PortInArea) (hp : s.pass = some p) (rooted : u.Rooted) (free : u.port = none)
    (code : OutcomeCode) : (u.concludeDirective p d code).PortInArea :=
  portInArea_concludeDirective rooted (h.base hp) free d code

theorem PortInArea.walkDirective (h : s.PortInArea) (hp : s.pass = some p) (free : s.port = none) (n : Nat)
    (act : Cluster → Carrier → Cluster × Bool) : (s.walkDirective p d n act).PortInArea := by
  unfold State.walkDirective
  generalize DirectiveRun.walk act n s.cluster { d with begun := true } = r
  have tested : ((s.on fun _ => r.1).testReleasingEnd).Rooted ∧ ((s.on fun _ => r.1).testReleasingEnd).port = none := by
    refine ⟨Rooted.only (s := s.on _) h.rooted (State.onlyPass_testReleasingEnd _), ?_⟩
    rw [State.port_testReleasingEnd]
    exact free
  dsimp only
  split
  · exact portInArea_concludeDirective tested.1 (h.base hp) tested.2 _ _
  · exact portInArea_enterPhase tested.1 (h.base hp) tested.2 _

end

theorem PortInArea.loadPolicy (h : s.PortInArea) {order : List WindowNo} (ht : execLoadPolicy order s = .next t) :
    t.PortInArea := by
  unfold execLoadPolicy at ht
  cases ht
  split
  · next p d hd =>
    obtain ⟨hp, free, _⟩ := State.directiveOf_spec hd
    split
    · next policy windows _ =>
      obtain ⟨xbase, startup, _, port⟩ :=
        rooted_applyWindows (u := { s with policy := policy, timer := s.timer.reloaded policy.reload }) windows order
      refine h.concludes hp ?_ ?_ .ok
      · exact Rooted.only ⟨xbase.symm ▸ h.rooted.1, startup.symm ▸ h.rooted.2⟩ (State.onlyPass_testReleasingEnd _)
      · rw [State.port_testReleasingEnd]
        exact port.trans free
    · exact h
  · exact h

/-- A walk over rows leaves the setting of the port, and its one read is that of a row (R172). -/
theorem walkRows_port (p : Pass) (n : Nat) (s : State) (d : DirectiveRun) :
    (State.walkRows p n s d).1.xbase = s.xbase ∧ (State.walkRows p n s d).1.startup = s.startup ∧
      ((State.walkRows p n s d).1.port = s.port ∨
        ∃ (c : Carrier) (a : Access), (State.walkRows p n s d).1.port = some a ∧
          a.address = addressOf p.base (rowOffset c) ∧ a.length = 32) := by
  induction n generalizing s d with
  | zero => exact ⟨rfl, rfl, .inl rfl⟩
  | succ n ih =>
    unfold State.walkRows
    split
    · next hn =>
      dsimp only
      split
      · next row _ =>
        have taken : (s.takeRow d ⟨d.position, hn⟩ row).1.xbase = s.xbase ∧ (s.takeRow d ⟨d.position, hn⟩ row).1.startup = s.startup ∧
            (s.takeRow d ⟨d.position, hn⟩ row).1.port = s.port := by
          unfold State.takeRow
          split <;> exact ⟨rfl, rfl, rfl⟩
        obtain ⟨xbase, startup, port⟩ := taken
        obtain ⟨xbase', startup', port'⟩ := ih (s.takeRow d ⟨d.position, hn⟩ row).1 (s.takeRow d ⟨d.position, hn⟩ row).2
        exact ⟨xbase'.trans xbase, startup'.trans startup, port'.imp_left fun g => g.trans port⟩
      · split
        · split
          · exact ⟨rfl, rfl, .inr ⟨⟨d.position, hn⟩, _, rfl, rfl, rfl⟩⟩
          · exact ih s _
        · exact ih s _
    · exact ⟨rfl, rfl, .inl rfl⟩

theorem PortInArea.loadCarriers (h : s.PortInArea) {count : Nat} (ht : execLoadCarriers count s = .next t) : t.PortInArea := by
  unfold execLoadCarriers at ht
  cases ht
  split
  · next p d hd =>
    obtain ⟨hp, free, _⟩ := State.directiveOf_spec hd
    obtain ⟨xbase, startup, port⟩ := walkRows_port p count s { d with begun := true }
    have all := (State.keeps_walkRows p count s { d with begun := true }).2
    generalize State.walkRows p count s { d with begun := true } = r at xbase startup port all
    have rooted : r.1.testReleasingEnd.Rooted :=
      Rooted.only ⟨xbase.symm ▸ h.rooted.1, startup.symm ▸ h.rooted.2⟩ (State.onlyPass_testReleasingEnd _)
    dsimp only
    split
    · next done =>
      refine h.concludes hp rooted ?_ .ok
      rw [State.port_testReleasingEnd]
      exact (all done).trans free
    · rcases port with port | ⟨c, a, port, address, length⟩
      · refine portInArea_enterPhase rooted (h.base hp) ?_ _
        rw [State.port_testReleasingEnd]
        exact port.trans free
      · refine portInArea_issued (u := r.1.testReleasingEnd.enterPhase p (.intake (some r.2)))
          (p := { p with phase := .intake (some r.2) }) (a := a) rooted (h.base (p := p) hp) rfl ?_ ?_
        · rw [State.port_enterPhase, State.port_testReleasingEnd]
          exact port
        · rw [address, length]
          exact ⟨rowOffset c, rfl, placed_row c⟩
  · exact h

theorem PortInArea.probe (h : s.PortInArea) {count : Nat} (ht : execProbe count s = .next t) : t.PortInArea := by
  unfold execProbe at ht
  cases ht
  split
  · next p d hd =>
    obtain ⟨hp, free, _⟩ := State.directiveOf_spec hd
    dsimp only
    generalize DirectiveRun.walk (probeCarrier d.slot) count (if d.begun then s.cluster else s.cluster.placeProbe d.slot)
      { d with begun := true } = r
    split
    · exact portInArea_finishDirective (u := s.on _) h.rooted (h.base hp) free _
    · exact portInArea_enterPhase (u := s.on _) h.rooted (h.base hp) free _
  · exact h

theorem PortInArea.moveBase (h : s.PortInArea) {v : Word} (fits : baseOf v ≤ 0xFFFFA#20) : (s.moveBase v).PortInArea := by
  refine h.same ⟨fits, h.rooted.2⟩ ?_ rfl fun _ => rfl
  rw [State.pass_moveBase]
  cases s.pass <;> rfl

/-- XBASE, start-up, pass and port are those of `s`. -/
def PortUnmoved (s v : State) : Prop := v.xbase = s.xbase ∧ v.startup = s.startup ∧ v.pass = s.pass ∧ v.port = s.port

theorem portUnmoved_evalWindow (h : s.PortUnmoved u) (m : MinuteStamp) (n : WindowNo) : s.PortUnmoved (u.evalWindow m n) := by
  have closes (r : State) (k : s.PortUnmoved r) : s.PortUnmoved (r.closeMatch n) := by unfold State.closeMatch; split <;> exact k
  have opens (r : State) (k : s.PortUnmoved r) : s.PortUnmoved (r.openMatch n) := by unfold State.openMatch; split <;> exact k
  have stops (r : State) (k : s.PortUnmoved r) : s.PortUnmoved (r.deepStopMatch n) := by
    unfold State.deepStopMatch; split <;> exact k
  have follows (r : State) (k : s.PortUnmoved r) : s.PortUnmoved (r.shallowFollowUp n) := by
    unfold State.shallowFollowUp; split <;> exact k
  have branch {b : Bool} {q r : State} (hq : s.PortUnmoved q) (hr : s.PortUnmoved r) : s.PortUnmoved (if b then q else r) := by
    cases b
    · exact hr
    · exact hq
  unfold State.evalWindow
  exact follows _ (branch (stops _ (branch (opens _ (branch (closes _ h) h)) (branch (closes _ h) h)))
    (branch (opens _ (branch (closes _ h) h)) (branch (closes _ h) h)))

theorem portUnmoved_minuteParts (m : MinuteStamp) (parts : List MinutePart) :
    s.PortUnmoved (parts.foldl (fun v p => v.minutePart m p) s) := by
  refine List.foldlRecOn (motive := fun v : State => s.PortUnmoved v) _ _ ⟨rfl, rfl, rfl, rfl⟩ fun v g part _ => ?_
  cases part with
  | window n => exact portUnmoved_evalWindow g m n
  | countdown =>
    simp only [State.minutePart]
    split <;> exact g
  | accounting =>
    simp only [State.minutePart]
    generalize min tallyTop (v.fleetTally + v.cluster.saving) = tally
    split <;> exact g

theorem PortInArea.minuteEvent (h : s.PortInArea) {order : List MinutePart} (ht : execMinuteEvent order s = .next t) :
    t.PortInArea := by
  unfold execMinuteEvent at ht
  cases ht
  split
  · next m ms _ =>
    obtain ⟨xbase, startup, pass, port⟩ := portUnmoved_minuteParts (s := { s with minutesDue := ms }) m (completeParts order)
    exact PortInArea.testReleasingEnd (h.untouched xbase pass port startup)
  · exact h

/-- Every command of a coherent state keeps the access in its area. -/
theorem PortInArea.exec {c : Instr} (h : s.PortInArea) (coherent : s.Coherent) (ht : Machine.exec c s = .next t) :
    t.PortInArea := by
  cases c with
  | powerOnReset =>
    cases ht
    exact portInArea_free ⟨(by decide : reset.xbase ≤ 0xFFFFA#20), fun v hv => (nomatch hv)⟩ (fun q hq => (nomatch hq)) rfl
  | xbaseWrite v =>
    cases ht
    split
    · next takes =>
      refine h.moveBase ?_
      simpa using (Bool.and_eq_true_iff.mp takes).2
    · exact h.refuse
  | run => exact h.run coherent ht
  | hold => exact h.hold ht
  | release => exact h.release ht
  | halt => exact h.halt ht
  | sweepNow =>
    have g : execSweepNow s = .next t := ht
    unfold execSweepNow at g
    cases g
    split
    · exact h.untouched rfl rfl rfl rfl
    all_goals exact h.refuse
  | runctlInvalidCode => cases ht; exact h.refuse
  | noteWrite => cases ht; exact h.untouched rfl rfl rfl rfl
  | noteenWrite => cases ht; exact h.untouched rfl rfl rfl rfl
  | registerWriteIgnored => cases ht; exact h
  | memoryAccessComplete =>
    cases ht
    split
    · split
      · exact h.accessCompleted ..
      · exact h
    · exact h
  | memoryAccessError =>
    cases ht
    split
    · split
      · exact h.accessFailed _
      · exact h
    · exact h
  | memoryAccessTimeout =>
    cases ht
    split
    · exact h.accessFailed _
    · exact h
  | sweepTimerExpiry => cases ht; exact h.expire
  | sweepBegin => exact h.sweepBegin ht
  | loadPolicy => exact h.loadPolicy ht
  | loadCarriers => exact h.loadCarriers ht
  | setClock =>
    have g : execSetClock s = .next t := ht
    unfold execSetClock at g
    cases g
    split
    · next p d hd =>
      obtain ⟨hp, free, _⟩ := State.directiveOf_spec hd
      split
      · exact h.concludes (u := { s with clock := d.clock }) hp h.rooted free .ok
      · exact h.concludes hp h.rooted free .rejParam
    · exact h
  | holdOn =>
    cases ht
    split
    · next p d hd =>
      obtain ⟨hp, free, _⟩ := State.directiveOf_spec hd
      exact h.walkDirective hp free ..
    · exact h
  | releaseHold =>
    cases ht
    split
    · next p d hd =>
      obtain ⟨hp, free, _⟩ := State.directiveOf_spec hd
      exact h.walkDirective hp free ..
    · exact h
  | sleepNow =>
    cases ht
    split
    · next p d hd =>
      obtain ⟨hp, free, _⟩ := State.directiveOf_spec hd
      split
      · exact h.concludes hp h.rooted free .rejRun
      · split <;> exact h.walkDirective hp free ..
    · exact h
  | probe => exact h.probe ht
  | clearTally =>
    cases ht
    split
    · next p d hd =>
      obtain ⟨hp, free, _⟩ := State.directiveOf_spec hd
      exact h.concludes (u := State.on { s with fleetTally := 0 } _) hp h.rooted free .ok
    · exact h
  | directiveUnknownKind =>
    cases ht
    split
    · next p d hd =>
      obtain ⟨hp, free, _⟩ := State.directiveOf_spec hd
      exact h.concludes hp h.rooted free .rejKind
    · exact h
  | decisionVisit => exact h.decisionVisit coherent ht
  | hundredMsTick =>
    cases ht
    unfold State.hundredTick
    split <;> exact h.untouched rfl rfl rfl rfl
  | wantWaitExpiry =>
    cases ht
    split <;> exact h.untouched rfl rfl rfl rfl
  | commandTimeout i =>
    cases ht
    split
    · exact PortInArea.testReleasingEnd (s := s.on fun w => w.commandTimeout i) (h.untouched rfl rfl rfl rfl)
    · exact h
  | laneGrant => cases ht; exact h.untouched rfl rfl rfl rfl
  | radioReply i frame =>
    have g : execRadioReply i frame s = .next t := ht
    unfold execRadioReply at g
    cases g
    split
    · next r _ =>
      split
      · exact PortInArea.testReleasingEnd (s := s.on fun w => w.takeReply s.policy i r) (h.untouched rfl rfl rfl rfl)
      · exact h.untouched rfl rfl rfl rfl
    · exact h.untouched rfl rfl rfl rfl
  | linkUp i =>
    cases ht
    split
    · exact h
    · exact h.untouched rfl rfl rfl rfl
  | linkDown i =>
    cases ht
    split
    · exact PortInArea.testReleasingEnd (s := s.on fun w => w.linkDown i) (h.untouched rfl rfl rfl rfl)
    · exact h
  | civilClockSecond =>
    cases ht
    unfold State.clockSecond
    split <;> exact h.untouched rfl rfl rfl rfl
  | minuteEvent => exact h.minuteEvent ht

end State

/-- Settles O7: stacks along the acts, counters by the frame of each command, the access by the course of the passes, and records
and outcomes along the acts of a coherent state. -/
theorem boundsStep : Obligations.BoundsStep := by
  refine ⟨fun s t ht => ⟨fun h => ?_, fun h => ?_, fun coherent h => ?_, fun coherent h => ?_⟩,
    fun o q h => ⟨AscendingSlots.join h o, mem_joinOutcome o q h⟩⟩
  · exact State.step_keeps_cluster (P := fun w => w.StacksFit) (fun _ _ _ _ => Cluster.stacksFit_act)
      (fun w k g d => by simpa using g d) Cluster.stacksFit_reset h ht
  · refine State.step_keeps (P := State.CountersInRange) (fun _ _ _ => State.countersInRange_exec) (fun s t ticked h => ?_) h ht
    obtain ⟨_, _, _, _, _, rfl⟩ := ticked
    exact h
  · refine (State.step_keeps (P := fun s => s.Coherent ∧ s.PortInArea) (fun _ _ _ h ht => ⟨h.1.exec ht, h.2.exec h.1 ht⟩)
      (fun s t ticked h => ?_) ⟨coherent, h⟩ ht).2
    obtain ⟨_, _, waited, _, _, rfl⟩ := ticked
    have port : s.port.map (fun a => ({ a with waited := waited a } : Access)) = none ↔ s.port = none := by simp
    refine ⟨?_, h.2.same h.2.rooted rfl (by simp [Option.map_map, Function.comp_def]) fun _ => rfl⟩
    refine .mk h.1.tables (h.1.haltedSound_of_alike (.refl _) rfl h.1.2.1.1 fun halted p hp => ?_) fun p hp hd => ?_
    · obtain ⟨cut, out⟩ := (h.1.2.1.2 halted).2.2 p hp
      exact ⟨cut, by simpa using out⟩
    · exact port.mpr (h.1.2.2 p hp hd)
  · refine (State.step_keeps (P := fun s => s.Coherent ∧ s.cluster.ProbesFit)
      (fun _ _ _ h ht => ⟨h.1.exec ht, h.1.probesFit h.2 ht⟩) (fun s t ticked h => ?_) ⟨coherent, h⟩ ht).2
    obtain ⟨_, _, waited, _, _, rfl⟩ := ticked
    refine ⟨.mk h.1.tables (h.1.haltedSound_of_alike (.refl _) rfl h.1.2.1.1 fun halted p hp => ?_) fun p hp hd => ?_, h.2⟩
    · obtain ⟨cut, out⟩ := (h.1.2.1.2 halted).2.2 p hp
      exact ⟨cut, by simpa using out⟩
    · simpa using h.1.2.2 p hp hd

end Sys2Proof.Machine
end

section
/-! Power-on reset, the register port and the 100 ms tick. -/

namespace Sys2Proof.Machine

/-! ## Power-on reset -/

@[simp] theorem State.ctx_reset (c : Carrier) : State.reset.ctx c = {} := by simp [State.ctx, Cluster.ctx, State.reset, Cluster.reset]

@[simp] theorem State.stack_reset (c : Carrier) : State.reset.stack c = [] := by
  simp [State.stack, Cluster.stack, State.reset, Cluster.reset]

@[simp] theorem State.lane_reset (i : Site) : State.reset.lane i = {} := by simp [State.lane, Cluster.lane, State.reset, Cluster.reset]

@[simp] theorem State.channel_reset (i : Site) : State.reset.channel i = {} := by
  simp [State.channel, Cluster.channel, State.reset, Cluster.reset]

@[simp] theorem State.window_reset (n : WindowNo) : State.reset.window n = {} := by simp [State.window, State.reset]

theorem State.readRegister_reset (offset : Nat) : State.reset.readRegister offset = 0#32 := by
  unfold State.readRegister
  repeat' split
  all_goals rfl

/-- Settles O8: each piece is read off at its default value. -/
theorem resetState : Obligations.ResetState := by
  refine ⟨State.readRegister_reset, rfl, rfl, rfl, rfl, rfl, rfl, rfl, rfl, fun c => ⟨State.stack_reset c, State.ctx_reset c⟩,
    fun i => ⟨State.lane_reset i, ?_⟩, fun n => State.window_reset n, rfl, rfl, rfl, rfl, rfl, rfl, rfl, rfl, rfl, rfl, rfl, rfl,
    rfl, fun command => by cases command <;> rfl, rfl, rfl, rfl, rfl, rfl, rfl, rfl, rfl, rfl⟩
  rw [State.channel_reset]
  exact ⟨rfl, rfl, rfl, rfl⟩

/-- Settles O9: the invariants of the reset cluster, of zero counters and of a port without an access. -/
theorem resetMeetsInvariants : Obligations.ResetMeetsInvariants := by
  refine ⟨State.coherent_reset, Cluster.tagsAgree_reset, Cluster.stacksFit_reset, ?_, ?_, Cluster.probesFit_reset⟩
  · decide
  · exact State.portInArea_free ⟨by decide, fun v hv => (nomatch hv)⟩ (fun q hq => (nomatch hq)) rfl

/-- Settles O10: the arm of the command. -/
theorem powerOnResetResult : Obligations.PowerOnResetResult := fun _ => rfl

/-! ## Register writes -/

theorem exec_xbaseWrite (v : Word) (s : State) :
    exec (.xbaseWrite v) s = .next (if s.takesBase v then s.moveBase v else s.refuse) := rfl

theorem State.takesBase_iff (s : State) (v : Word) :
    s.takesBase v = true ↔ (s.runState = .halted ∨ s.runState = .holding) ∧ v.extractLsb' 12 20 ≤ 0xFFFFA#20 := by
  simp only [State.takesBase, baseOf, Bool.and_eq_true, Bool.or_eq_true, beq_iff_eq]
  exact and_congr_right' decide_eq_true_iff

/-- The base of a written value reads back with bits 11:0 at 0 (R1). -/
theorem base_append_zero (v : Word) : baseOf v ++ 0#12 = v &&& 0xFFFFF000#32 := by
  apply BitVec.eq_of_getLsbD_eq
  intro i hi
  by_cases h : i < 12
  · have mask : (0xFFFFF000#32).getLsbD i = false := (by decide : ∀ j : Fin 12, (0xFFFFF000#32).getLsbD j = false) ⟨i, h⟩
    rw [BitVec.getLsbD_and, mask, Bool.and_false]
    exact (BitVec.getLsbD_append (x := baseOf v) (y := 0#12)).trans (by simp [h])
  · have mask : (0xFFFFF000#32).getLsbD i = true := by
      have high : ∀ j : Fin 32, 12 ≤ j.val → (0xFFFFF000#32).getLsbD j = true := by decide
      exact high ⟨i, hi⟩ (Nat.le_of_not_lt h)
    rw [BitVec.getLsbD_and, mask, Bool.and_true]
    refine (BitVec.getLsbD_append (x := baseOf v) (y := 0#12)).trans ?_
    simp [baseOf, h, show i - 12 < 20 by omega, show 12 + (i - 12) = i by omega]

/-- Settles O11, by the test of the write. -/
theorem xbaseWriteResult : Obligations.XbaseWriteResult := by
  intro v s
  rw [exec_xbaseWrite]
  split
  · next takes =>
    rw [if_pos ((s.takesBase_iff v).mpr takes)]
    exact ⟨s.moveBase v, rfl, base_append_zero v, fun c => Cluster.ctx_markAllDirty s.cluster c, rfl⟩
  · next takes => rw [if_neg (mt (s.takesBase_iff v).mp takes)]; rfl

/-- A write that the port ignores is the command that does nothing (R16). -/
theorem commandOfWrite_of_ignored {offset : Nat} (v : Word) {strobes : BitVec 4} (h : writeIgnored offset strobes = true) :
    commandOfWrite offset v strobes = .registerWriteIgnored offset v strobes := by
  unfold commandOfWrite
  split
  · rfl
  · next full =>
    have away : offset ≠ 0x00 ∧ offset ≠ 0x04 ∧ offset ≠ 0x0C ∧ offset ≠ 0x10 := by
      simp [writeIgnored, Bool.not_eq_true _ ▸ full] at h
      omega
    simp [away]

theorem runctl_code (v : Word) : (v &&& 7#32).extractLsb' 0 3 = v.extractLsb' 0 3 := by
  apply BitVec.eq_of_getLsbD_eq
  intro i hi
  have mask : (7#32).getLsbD i = true := (by decide : ∀ j : Fin 3, (7#32).getLsbD j = true) ⟨i, hi⟩
  simp [hi, mask]

/-- The three low bits of a value, as the code of a RUNCTL write. -/
theorem runctl_code_eq {v : Word} {code : BitVec 3} (h : v &&& 7#32 = code.setWidth 32) : v.extractLsb' 0 3 = code := by
  rw [← runctl_code, h]
  exact BitVec.eq_of_getLsbD_eq fun i hi => by simp [hi, show i < 32 by omega]

/-- The table of the RUNCTL codes (R17). -/
theorem commandOfWrite_runctl {v : Word} {code : BitVec 3} (h : v &&& 7#32 = code.setWidth 32) :
    commandOfWrite 0x04 v 0xF#4 =
      if code = 1#3 then .run else if code = 2#3 then .hold else if code = 3#3 then .release else if code = 4#3 then .halt
      else if code = 5#3 then .sweepNow else .runctlInvalidCode code := by
  simp [commandOfWrite, runctl_code_eq h]

/-! ## Register reads -/

/-- STAT as the sum of a two-bit code and four flags (section 1.7). -/
theorem stat_bits (code : Fin 4) (valid failsafe pass refused : Bool) :
    (let stat := BitVec.ofNat 32
      (code.val + 4 * valid.toNat + 8 * failsafe.toNat + 16 * pass.toNat + 32 * refused.toNat)
     stat &&& 3#32 = BitVec.ofNat 32 code.val ∧ stat.getLsbD 2 = valid ∧ stat.getLsbD 3 = failsafe ∧ stat.getLsbD 4 = pass ∧
       stat.getLsbD 5 = refused ∧ stat < 64#32) := by
  revert code valid failsafe pass refused
  decide

theorem RunState.code_lt (r : RunState) : r.code < 4 := by cases r <;> decide

theorem getLsbD_of_lt_64 {x : Word} (h : x < 64#32) {i : Nat} (hi : 6 ≤ i) : x.getLsbD i = false :=
  Nat.testBit_lt_two_pow (Nat.lt_of_lt_of_le h (Nat.pow_le_pow_right (n := 2) (by decide) hi))

theorem State.readRegister_of_unused (s : State) {offset : Nat} (h : offset ∉ [0x00, 0x04, 0x08, 0x0C, 0x10]) :
    s.readRegister offset = 0#32 := by
  simp at h
  simp [State.readRegister, h]

/-- Settles O12: the decoding of a write by its three code bits, and the registers bit by bit. -/
theorem portWrites : Obligations.PortWrites := by
  refine ⟨fun offset v strobes h => commandOfWrite_of_ignored v h, fun v => ⟨rfl, rfl, rfl, ?_, ?_, ?_, ?_, ?_, ?_, ?_⟩,
    fun _ _ _ _ => rfl, fun _ _ => rfl, rfl, fun s => ?_⟩
  · simp [commandOfWrite, runctl_code]
  · exact commandOfWrite_runctl (code := 1#3)
  · exact commandOfWrite_runctl (code := 2#3)
  · exact commandOfWrite_runctl (code := 3#3)
  · exact commandOfWrite_runctl (code := 4#3)
  · exact commandOfWrite_runctl (code := 5#3)
  · have unused {code : BitVec 3} (h : v &&& 7#32 = code.setWidth 32) (none : code = 0#3 ∨ code = 6#3 ∨ code = 7#3) :
        commandOfWrite 0x04 v 0xF#4 = .runctlInvalidCode (v.extractLsb' 0 3) := by
      rw [commandOfWrite_runctl h, runctl_code_eq h]
      rcases none with rfl | rfl | rfl <;> rfl
    rintro (h | h | h)
    · exact unused (code := 0#3) h (by decide)
    · exact unused (code := 6#3) h (by decide)
    · exact unused (code := 7#3) h (by decide)
  · obtain ⟨code, valid, failsafe, pass, refused, small⟩ :=
      stat_bits ⟨s.runState.code, s.runState.code_lt⟩ s.clock.valid s.failsafe s.pass.isSome s.refused
    have narrow (x : BitVec 6) {i : Nat} (hi : 6 ≤ i) : (x.setWidth 32).getLsbD i = false := by
      simp [BitVec.getLsbD_of_ge x i hi]
    have wide (x : BitVec 6) (n : Notice) : (x.setWidth 32).getLsbD n.bit = x.getLsbD n.bit := by
      simp [show n.bit < 32 from Nat.lt_trans n.bit_lt (by decide)]
    refine ⟨rfl, ?_, code, valid, failsafe, pass, refused, fun n => ⟨wide _ n, wide _ n⟩,
      fun i hi => ⟨getLsbD_of_lt_64 small hi, narrow _ hi, narrow _ hi⟩, fun offset => s.readRegister_of_unused⟩
    show BitVec.ofNat 32 s.runState.code = _
    cases s.runState <;> rfl

/-- Settles O13, flag by flag. -/
theorem noteWrites : Obligations.NoteWrites := by
  intro v s
  refine ⟨⟨_, exec_noteWrite v s, fun n => ?_, rfl⟩, ⟨_, exec_noteenWrite v s, fun n => ?_, rfl⟩⟩
  · simp
  · exact Notice.isIn_setWidth n v

/-! ## The 100 ms tick -/

/-- Settles O41: lane by lane and channel by channel. -/
theorem hundredMsTickLowers : Obligations.HundredMsTickLowers := by
  intro s
  have runs : exec .hundredMsTick s = .next s.hundredTick := rfl
  refine ⟨fun halted => by rw [runs, State.hundredTick, if_pos halted], fun awake => ?_⟩
  rw [State.hundredTick, if_neg awake] at runs
  refine ⟨_, runs, fun i => ⟨?_, ?_⟩, rfl⟩
  · have stays (n : Nat) : n - 1 = if n = 0 then 0 else n - 1 := by split <;> omega
    show s.cluster.hundredTick.lane i = _
    rw [Cluster.lane_hundredTick, Lane.tick]
    simp only [← stays]
    rfl
  · show s.cluster.hundredTick.channel i = _
    rw [Cluster.channel_hundredTick, Channel.tick]
    show _ = if (s.cluster.channel i).liveTag = none then s.cluster.channel i else _
    by_cases live : (s.cluster.channel i).liveTag = none
    · rw [if_pos live, if_neg (by simp [live])]
    · rw [if_neg live, if_pos (Option.isSome_iff_ne_none.mpr live)]
      rfl

end Sys2Proof.Machine
end

section
/-! The edges of the run state (sections 11.1 to 11.4). -/

namespace Sys2Proof.Machine
namespace State

variable {c : Instr} {s u t : State} {p : Pass}

/-- The run state is as it was, or RELEASING has ended. -/
def Lapses (s t : State) : Prop := t.runState = s.runState ∨ (s.runState = .releasing ∧ t.runState = .holding)

namespace Lapses

theorem trans (h : s.Lapses u) (g : u.Lapses t) : s.Lapses t := by
  rcases h with h | ⟨h, h'⟩ <;> rcases g with g | ⟨g, g'⟩
  · exact .inl (g.trans h)
  · exact .inr ⟨h ▸ g, g'⟩
  · exact .inr ⟨h, g.trans h'⟩
  · rw [h'] at g
    cases g

theorem after (g : u.Lapses t) (h : s.Lapses u) : s.Lapses t := h.trans g

end Lapses

theorem Hands.lapses (h : s.Hands t) : s.Lapses t := .inl h.run

theorem lapses_testReleasingEnd : s.Lapses s.testReleasingEnd := by
  rw [State.testReleasingEnd_eq]
  unfold State.Lapses
  dsimp only
  split
  · next ends => exact .inr ⟨ends.1, rfl⟩
  · exact .inl rfl

/-! ## Passes -/

theorem lapses_endGather (taken visited failed : Bool) : s.Lapses (s.endGather p taken visited failed) := by
  have checked : s.Lapses (s.starvationCheck taken visited failed) := by
    unfold State.starvationCheck
    split
    · exact .inl rfl
    · split
      · exact .inl rfl
      · dsimp only
        split
        · exact .after lapses_testReleasingEnd (.inl rfl)
        · exact .inl rfl
  refine checked.trans ?_
  unfold State.endGather
  dsimp only
  split
  · exact (State.hands_beginWriteBack ..).lapses
  · exact (State.hands_intakeFrom ..).lapses

theorem lapses_gatherFrom (taken visited : Bool) (start : Nat) : s.Lapses (s.gatherFrom p taken visited start) := by
  unfold State.gatherFrom
  split
  · exact .inl rfl
  · exact lapses_endGather ..

theorem lapses_passEnded (purpose : Purpose) (data : Option (List Byte)) : s.Lapses (s.passEnded p purpose data) := by
  unfold State.passEnded
  split
  · exact (s.hands_writeBackEnded ..).lapses
  · split
    · exact (s.hands_cutEnded ..).lapses
    · unfold State.gatherEnded
      split
      · exact .inl rfl
      · exact .inl rfl
      · exact (s.hands_slotVisited ..).lapses.trans (lapses_gatherFrom ..)
      · exact lapses_endGather ..
  · split
    · exact (s.hands_cutEnded ..).lapses
    · exact (s.hands_intakeEnded ..).lapses
  · exact .inl rfl

theorem runState_applyWindows (ws : Vector WindowEntry 8) (order : List WindowNo) :
    (s.applyWindows ws order).runState = s.runState := by
  unfold State.applyWindows
  refine List.foldlRecOn (motive := fun v : State => v.runState = s.runState) _ _ rfl fun v g n _ => ?_
  unfold State.settleWindow
  dsimp only
  split
  · exact g
  · split <;> exact g

/-- The end of an access changes the run state at the end of a start-up, besides the end of RELEASING. -/
theorem lapses_accessEnded (purpose : Purpose) (data : Option (List Byte)) :
    s.Lapses (s.accessEnded purpose data) ∨
      (s.startup ≠ none ∧ data.isSome = true ∧ (s.accessEnded purpose data).runState = .running) := by
  unfold State.accessEnded
  split
  · exact .inl (lapses_passEnded ..)
  · split
    · next v hv =>
      unfold State.startupEnded
      split
      · next b =>
        unfold State.startupRead
        split
        · exact .inl (.inl rfl)
        · next policy =>
          have applied := runState_applyWindows (s := { s with policy := policy }) (parseWindows b) windowNos
          generalize State.applyWindows { s with policy := policy } _ _ = u at applied
          exact .inl (.inl applied)
        · dsimp only
          split
          · exact .inl (.inl rfl)
          · exact .inr ⟨by simp [hv], rfl, rfl⟩
        · exact .inl (.inl rfl)
      · exact .inl (.inl rfl)
    · exact .inl (.inl rfl)

theorem lapses_visitNext (position : Nat) : s.Lapses (s.visitNext p position) := by
  unfold State.visitNext
  split
  · next h =>
    have visited : s.Lapses (s.on fun w => w.passVisit s.setting ⟨position, h⟩).testReleasingEnd :=
      .after lapses_testReleasingEnd (.inl rfl)
    refine visited.trans ?_
    dsimp only
    split
    · exact .inl rfl
    · exact (State.hands_beginWriteBack ..).lapses
  · exact (s.hands_beginWriteBack p).lapses

/-! ## Directives and minutes -/

theorem lapses_walkDirective (d : DirectiveRun) (n : Nat) (act : Cluster → Carrier → Cluster × Bool) :
    s.Lapses (s.walkDirective p d n act) := by
  unfold State.walkDirective
  generalize DirectiveRun.walk act n s.cluster { d with begun := true } = r
  have walked : s.Lapses (s.on fun _ => r.1).testReleasingEnd := .after lapses_testReleasingEnd (.inl rfl)
  refine walked.trans ?_
  dsimp only
  split
  · exact (State.hands_concludeDirective ..).lapses
  · exact .inl rfl

theorem runState_walkRows (p : Pass) (n : Nat) (s : State) (d : DirectiveRun) :
    (State.walkRows p n s d).1.runState = s.runState := by
  induction n generalizing s d with
  | zero => rfl
  | succ n ih =>
    unfold State.walkRows
    split
    · dsimp only
      split
      · refine (ih _ _).trans ?_
        unfold State.takeRow
        split <;> rfl
      · split
        · split
          · rfl
          · exact ih _ _
        · exact ih _ _
    · rfl

theorem runState_evalWindow (m : MinuteStamp) (n : WindowNo) : (s.evalWindow m n).runState = s.runState := by
  have closes (r : State) : (r.closeMatch n).runState = r.runState := by unfold State.closeMatch; split <;> rfl
  have opens (r : State) : (r.openMatch n).runState = r.runState := by unfold State.openMatch; split <;> rfl
  have stops (r : State) : (r.deepStopMatch n).runState = r.runState := by unfold State.deepStopMatch; split <;> rfl
  have follows (r : State) : (r.shallowFollowUp n).runState = r.runState := by unfold State.shallowFollowUp; split <;> rfl
  have branch {b : Bool} {q r : State} (h : q.runState = r.runState) : (if b then q else r).runState = r.runState := by
    cases b
    · rfl
    · exact h
  unfold State.evalWindow
  exact (follows _).trans ((branch (stops _)).trans ((branch (opens _)).trans (branch (closes _))))

theorem runState_minuteParts (m : MinuteStamp) (parts : List MinutePart) :
    (parts.foldl (fun v p => v.minutePart m p) s).runState = s.runState := by
  refine List.foldlRecOn (motive := fun v : State => v.runState = s.runState) _ _ rfl fun v g part _ => ?_
  cases part with
  | window n => exact (runState_evalWindow m n).trans g
  | countdown =>
    simp only [State.minutePart]
    split <;> exact g
  | accounting =>
    simp only [State.minutePart]
    generalize min tallyTop (v.fleetTally + v.cluster.saving) = tally
    split <;> exact g

theorem lapses_minuteEvent {order : List MinutePart} (ht : execMinuteEvent order s = .next t) : s.Lapses t := by
  unfold execMinuteEvent at ht
  cases ht
  split
  · next m ms _ =>
    exact .after lapses_testReleasingEnd (.inl (runState_minuteParts (s := { s with minutesDue := ms }) m (completeParts order)))
  · exact .inl rfl

/-! ## Commands -/

/-- The edges that a command can take along with its own part. -/
def Edge (c : Instr) (s t : State) : Prop :=
  s.Lapses t ∨
    (s.runState = .halted ∧ t.runState = .running ∧ ∃ n data, c = .memoryAccessComplete n data) ∨
    (s.runState = .running ∧ t.runState = .holding ∧ (c = .hold ∨ c = .release)) ∨
    (s.runState = .running ∧ t.runState = .releasing ∧ c = .release) ∨
    (s.runState = .holding ∧ t.runState = .running ∧ c = .run) ∨
    (s.runState = .holding ∧ t.runState = .releasing ∧ c = .release) ∨
    (s.runState = .holding ∧ t.runState = .halted ∧ c = .halt)

theorem edge_run (ht : execRun s = .next t) : s.Edge .run t := by
  unfold execRun at ht
  cases ht
  split
  · split
    · refine .inl (.inl ?_)
      unfold State.beginStartup
      dsimp only
      split <;> rfl
    · exact .inl (.inl rfl)
  · next holding => exact .inr (.inr (.inr (.inr (.inl ⟨holding, rfl, rfl⟩))))
  all_goals exact .inl (.inl rfl)

theorem edge_hold (ht : execHold s = .next t) : s.Edge .hold t := by
  unfold execHold at ht
  cases ht
  split
  · next running => exact .inr (.inr (.inl ⟨running, (State.hands_leaveRunning _).run, .inl rfl⟩))
  all_goals exact .inl (.inl rfl)

/-- A taken RELEASE leaves RELEASING, or HOLDING where the part is quiet at once. -/
theorem runState_release : s.release.runState = .releasing ∨ s.release.runState = .holding := by
  unfold State.release
  dsimp only
  rw [(State.hands_leaveRunning _).run]
  rcases lapses_testReleasingEnd (s := State.on { s with runState := .releasing, refused := false }.clearPending
    fun w => w.unwindAll .release) with same | ⟨_, ended⟩
  · exact .inl same
  · exact .inr ended

theorem edge_release (ht : execRelease s = .next t) : s.Edge .release t := by
  unfold execRelease at ht
  cases ht
  split
  · next running =>
    exact s.runState_release.elim (fun h => .inr (.inr (.inr (.inl ⟨running, h, rfl⟩))))
      fun h => .inr (.inr (.inl ⟨running, h, .inr rfl⟩))
  · next holding =>
    exact s.runState_release.elim (fun h => .inr (.inr (.inr (.inr (.inr (.inl ⟨holding, h, rfl⟩))))))
      fun h => .inl (.inl (h.trans holding.symm))
  all_goals exact .inl (.inl rfl)

theorem edge_halt (ht : execHalt s = .next t) : s.Edge .halt t := by
  unfold execHalt at ht
  cases ht
  split
  · next takes =>
    refine .inr (.inr (.inr (.inr (.inr (.inr ⟨takes.1, ?_, rfl⟩)))))
    unfold State.halt State.cutPass
    split
    · split <;> rfl
    · rfl
  · exact .inl (.inl rfl)

theorem lapses_accessFailed (a : Access) : s.Lapses (s.accessFailed a) := by
  rw [State.accessFailed]
  have failed : s.Lapses ({ s with port := none }.countFailure) := .inl rfl
  exact (lapses_accessEnded (s := { s with port := none }.countFailure) a.purpose none).elim failed.trans
    fun h => nomatch h.2.1

theorem edge_memoryAccessComplete (sound : s.HaltedSound) {n : Nat} {data : List Byte}
    (ht : execMemoryAccessComplete n data s = .next t) : s.Edge (.memoryAccessComplete n data) t := by
  unfold execMemoryAccessComplete at ht
  cases ht
  split
  · next a _ =>
    split
    · rw [State.accessCompleted]
      have freed : s.Lapses { s with port := none } := .inl rfl
      exact (lapses_accessEnded (s := { s with port := none }) a.purpose (some data)).elim (fun h => .inl (freed.trans h))
        fun h => .inr (.inl ⟨sound.1 h.1, h.2.2, n, data, rfl⟩)
    · exact .inl (.inl rfl)
  · exact .inl (.inl rfl)

theorem lapses_expire : s.Lapses s.expire := by
  unfold State.expire
  dsimp only
  split
  · exact .inl rfl
  · split <;> exact .inl rfl
  all_goals
    split
    · exact .inl rfl
    · exact .after (State.hands_beginWriteBack _ _).lapses (.inl rfl)

theorem lapses_loadPolicy {order : List WindowNo} (ht : execLoadPolicy order s = .next t) : s.Lapses t := by
  unfold execLoadPolicy at ht
  cases ht
  split
  · split
    · next policy windows _ =>
      have applied : s.Lapses ({ s with policy := policy, timer := s.timer.reloaded policy.reload }.applyWindows windows order) :=
        .inl (runState_applyWindows (s := { s with policy := policy, timer := s.timer.reloaded policy.reload }) windows order)
      exact (applied.trans lapses_testReleasingEnd).trans (State.hands_concludeDirective ..).lapses
    · exact .inl rfl
  · exact .inl rfl

theorem lapses_loadCarriers {count : Nat} (ht : execLoadCarriers count s = .next t) : s.Lapses t := by
  unfold execLoadCarriers at ht
  cases ht
  split
  · next p d _ =>
    have walked : s.Lapses (State.walkRows p count s { d with begun := true }).1.testReleasingEnd :=
      .after lapses_testReleasingEnd (.inl (runState_walkRows p count s _))
    dsimp only
    split
    · exact walked.trans (State.hands_concludeDirective ..).lapses
    · exact walked.trans (.inl rfl)
  · exact .inl rfl

theorem lapses_probe {count : Nat} (ht : execProbe count s = .next t) : s.Lapses t := by
  unfold execProbe at ht
  cases ht
  split
  · next p d _ =>
    dsimp only
    generalize DirectiveRun.walk (probeCarrier d.slot) count (if d.begun then s.cluster else s.cluster.placeProbe d.slot)
      { d with begun := true } = r
    split
    · exact .after (State.hands_finishDirective ..).lapses (.inl rfl)
    · exact .inl rfl
  · exact .inl rfl

/-- The edges of the run state, command by command. -/
theorem edge_exec (sound : s.HaltedSound) (ht : Machine.exec c s = .next t) (reset : c ≠ .powerOnReset) : s.Edge c t := by
  cases c with
  | powerOnReset => exact absurd rfl reset
  | run => exact edge_run ht
  | hold => exact edge_hold ht
  | release => exact edge_release ht
  | halt => exact edge_halt ht
  | memoryAccessComplete => exact edge_memoryAccessComplete sound ht
  | memoryAccessError n =>
    cases ht
    split
    · split
      · exact .inl (lapses_accessFailed _)
      · exact .inl (.inl rfl)
    · exact .inl (.inl rfl)
  | memoryAccessTimeout =>
    cases ht
    split
    · exact .inl (lapses_accessFailed _)
    · exact .inl (.inl rfl)
  | sweepTimerExpiry => cases ht; exact .inl lapses_expire
  | sweepBegin =>
    cases ht
    split
    · exact .inl (.after (lapses_gatherFrom ..) (.inl rfl))
    · exact .inl (.inl rfl)
  | decisionVisit =>
    cases ht
    split
    · split
      · exact .inl (lapses_visitNext _)
      · exact .inl (.inl rfl)
    · exact .inl (.inl rfl)
  | loadPolicy => exact .inl (lapses_loadPolicy ht)
  | loadCarriers => exact .inl (lapses_loadCarriers ht)
  | probe => exact .inl (lapses_probe ht)
  | minuteEvent => exact .inl (lapses_minuteEvent ht)
  | setClock =>
    cases ht
    split
    · split
      · exact .inl (.after (State.hands_concludeDirective ..).lapses (.inl rfl))
      · exact .inl (State.hands_concludeDirective ..).lapses
    · exact .inl (.inl rfl)
  | clearTally =>
    cases ht
    split
    · exact .inl (.after (State.hands_concludeDirective ..).lapses (.inl rfl))
    · exact .inl (.inl rfl)
  | directiveUnknownKind =>
    cases ht
    split
    · exact .inl (State.hands_concludeDirective ..).lapses
    · exact .inl (.inl rfl)
  | sleepNow =>
    cases ht
    split
    · split
      · exact .inl (State.hands_concludeDirective ..).lapses
      · split <;> exact .inl (lapses_walkDirective ..)
    · exact .inl (.inl rfl)
  | holdOn =>
    cases ht
    split
    · exact .inl (lapses_walkDirective ..)
    · exact .inl (.inl rfl)
  | releaseHold =>
    cases ht
    split
    · exact .inl (lapses_walkDirective ..)
    · exact .inl (.inl rfl)
  | commandTimeout i =>
    cases ht
    split
    · exact .inl (.after lapses_testReleasingEnd (.inl rfl))
    · exact .inl (.inl rfl)
  | radioReply i frame =>
    have g : execRadioReply i frame s = .next t := ht
    unfold execRadioReply at g
    cases g
    split
    · split
      · exact .inl (.after lapses_testReleasingEnd (.inl rfl))
      · exact .inl (.inl rfl)
    · exact .inl (.inl rfl)
  | linkDown i =>
    cases ht
    split
    · exact .inl (.after lapses_testReleasingEnd (.inl rfl))
    · exact .inl (.inl rfl)
  | linkUp i => cases ht; split <;> exact .inl (.inl rfl)
  | wantWaitExpiry k => cases ht; split <;> exact .inl (.inl rfl)
  | hundredMsTick =>
    cases ht
    unfold State.hundredTick
    split <;> exact .inl (.inl rfl)
  | civilClockSecond =>
    cases ht
    unfold State.clockSecond
    split <;> exact .inl (.inl rfl)
  | sweepNow =>
    have g : execSweepNow s = .next t := ht
    unfold execSweepNow at g
    cases g
    split <;> exact .inl (.inl rfl)
  | xbaseWrite v => cases ht; split <;> exact .inl (.inl rfl)
  | runctlInvalidCode => cases ht; exact .inl (.inl rfl)
  | noteWrite => cases ht; exact .inl (.inl rfl)
  | noteenWrite => cases ht; exact .inl (.inl rfl)
  | registerWriteIgnored => cases ht; exact .inl (.inl rfl)
  | laneGrant => cases ht; exact .inl (.inl rfl)

end State

/-- Settles O4: each command takes one of its edges or leaves the run state, but for the end of RELEASING. -/
theorem runStateEdges : Obligations.RunStateEdges := by
  intro c s t sound ht reset changed
  rcases State.edge_exec sound ht reset with (same | ended) | edge
  · exact absurd same changed
  · exact .inr (.inr (.inr (.inr (.inr (.inr ended)))))
  · rcases edge with h | h | h | h | h | h
    · exact .inl h
    · exact .inr (.inl h)
    · exact .inr (.inr (.inl h))
    · exact .inr (.inr (.inr (.inl h)))
    · exact .inr (.inr (.inr (.inr (.inl h))))
    · exact .inr (.inr (.inr (.inr (.inr (.inl h)))))

end Sys2Proof.Machine
end

section
/-! Run control and the accesses: what RUN, HOLD, HALT and the answers of the Exchange Port leave (sections 1.3, 4.5, 11.1 and
11.4). -/

namespace Sys2Proof.Machine

/-! ## Run control -/

/-- Settles O15, by the run state. -/
theorem runctlTable : Obligations.RunctlTable := by
  intro s
  refine ⟨fun halted idle => ?_, fun holding => ?_, fun refused => ?_, fun running free => ?_, fun away => ?_, fun away => ?_,
    fun loud => ?_, fun running => ?_, fun away => ?_⟩
  · have runs : exec .run s = .next s.beginStartup := by simp [exec, execRun, halted, idle]
    refine ⟨_, runs, ?_⟩
    unfold State.beginStartup
    cases hp : s.port <;> simp [State.read, addressOf, policyOffset]
  · simp [exec, execRun, holding]
  · have refuses : execRun s = .next s.refuse := by
      rcases refused with ⟨halted, busy⟩ | running | releasing
      · simp [execRun, halted, busy]
      · simp [execRun, running]
      · simp [execRun, releasing]
    exact refuses
  · simp [exec, execHold, running, State.leaveRunning, State.clearPending, free]
  · have refuses : execHold s = .next s.refuse := by cases h : s.runState <;> simp_all [execHold]
    exact refuses
  · have refuses : execRelease s = .next s.refuse := by rcases away with h | h <;> simp [execRelease, h]
    exact refuses
  · exact congrArg Host.Outcome.next (if_neg loud)
  · simp [exec, execSweepNow, running]
  · have refuses : execSweepNow s = .next s.refuse := by cases h : s.runState <;> simp_all [execSweepNow]
    exact refuses

/-- Settles O16: the sweep in progress learns of the HOLD as of every end of RUNNING. -/
theorem holdCarriesSweep : Obligations.HoldCarriesSweep := by
  intro s running
  have holds : exec .hold s = .next ({ s with runState := .holding, refused := false }.clearPending).leaveRunning := by
    simp [exec, execHold, running]
  exact ⟨_, holds, State.leaveRunning_leavesRunning _⟩

/-! ## The end of an access -/

section
variable {s : State} {p : Pass} {a : Access}

theorem exec_memoryAccessComplete (port : s.port = some a) {data : List Byte} (h : a.write = true ∨ data.length = a.length) :
    exec (.memoryAccessComplete a.number data) s = .next (s.accessCompleted a data) := by
  have completes : a.completedBy a.number data = true := by simpa [Access.completedBy] using h
  simp [exec, execMemoryAccessComplete, port, completes]

theorem exec_memoryAccessError (port : s.port = some a) :
    exec (.memoryAccessError a.number) s = .next (s.accessFailed a) := by simp [exec, execMemoryAccessError, port]

theorem exec_memoryAccessTimeout (port : s.port = some a) : exec .memoryAccessTimeout s = .next (s.accessFailed a) := by
  simp [exec, execMemoryAccessTimeout, port]

theorem State.accessCompleted_of_pass (pass : s.pass = some p) (data : List Byte) :
    s.accessCompleted a data = { s with port := none }.passEnded p a.purpose (some data) := by
  simp [State.accessCompleted, State.accessEnded, pass]

/-- A failure is counted, and the operation goes on without data. -/
theorem State.accessFailed_eq : s.accessFailed a = { s.failed with port := none }.accessEnded a.purpose none := rfl

theorem State.accessFailed_of_pass (pass : s.pass = some p) :
    s.accessFailed a = { s.failed with port := none }.passEnded p a.purpose none := by
  rw [State.accessFailed_eq]
  simp [State.accessEnded, State.failed, pass]

theorem State.accessEnded_of_startup {u : State} {v : Startup} (pass : u.pass = none) (startup : u.startup = some v)
    (purpose : Purpose) (data : Option (List Byte)) : u.accessEnded purpose data = u.startupEnded v purpose data := by
  simp [State.accessEnded, pass, startup]

/-- A read of the pass in progress has completed. -/
theorem exec_complete_of_pass (pass : s.pass = some p) (port : s.port = some a) {data : List Byte}
    (h : a.write = true ∨ data.length = a.length) :
    exec (.memoryAccessComplete a.number data) s = .next ({ s with port := none }.passEnded p a.purpose (some data)) := by
  rw [exec_memoryAccessComplete port h, State.accessCompleted_of_pass pass]

theorem exec_error_of_pass (pass : s.pass = some p) (port : s.port = some a) :
    exec (.memoryAccessError a.number) s = .next ({ s.failed with port := none }.passEnded p a.purpose none) := by
  rw [exec_memoryAccessError port, State.accessFailed_of_pass pass]

/-! ### The phases by name -/

theorem State.passEnded_writeBack {wrote : Bool} {todo : List Slot} (phase : p.phase = .writeBack wrote todo) (u : State)
    (purpose : Purpose) (data : Option (List Byte)) :
    u.passEnded p purpose data = u.writeBackEnded p wrote todo purpose data := by simp [State.passEnded, phase]

theorem State.passEnded_gather {taken visited : Bool} (phase : p.phase = .gather taken visited) (cut : p.cut = false) (u : State)
    (purpose : Purpose) (data : Option (List Byte)) :
    u.passEnded p purpose data = u.gatherEnded p taken visited purpose data := by simp [State.passEnded, phase, cut]

theorem State.passEnded_intake {run : Option DirectiveRun} (phase : p.phase = .intake run) (cut : p.cut = false) (u : State)
    (purpose : Purpose) (data : Option (List Byte)) :
    u.passEnded p purpose data = u.intakeEnded p run purpose data := by simp [State.passEnded, phase, cut]

/-- Write-back begins with an access of its own, whatever the port held. -/
theorem State.beginWriteBack_beginsWriteBack (u : State) (p : Pass) : u.BeginsWriteBack (u.beginWriteBack p) p :=
  u.writeRecords_writesRecords p false 0

/-! ### A failed access -/

theorem State.note_nextOutcome (u : State) (wrote : Bool) (todo : List Slot) :
    (u.nextOutcome p wrote todo).cluster.note = u.cluster.note := by
  cases todo with
  | nil => cases wrote <;> rfl
  | cons n ns => rfl

theorem State.note_writeRecords (u : State) (wrote : Bool) (start : Nat) :
    (u.writeRecords p wrote start).cluster.note = u.cluster.note := by
  unfold State.writeRecords
  split
  · rfl
  · exact u.note_nextOutcome wrote _

/-- The end of a pass sets no flag but CHANGE. -/
theorem State.note_endPass {u : State} (wrote : Bool) {n : Notice} (h : n.isIn u.cluster.note = true) :
    n.isIn (u.endPass wrote).cluster.note = true := by
  have raised : n.isIn (if wrote then u.notify .change else u).cluster.note = true := by
    cases wrote
    · exact h
    · exact (Notice.isIn_raiseIn n .change u.cluster.note).trans (by rw [h, Bool.or_true])
  unfold State.endPass
  dsimp only
  split <;> exact raised

/-- A failed access of a write-back leaves the flags, but for CHANGE. -/
theorem State.note_writeBackEnded {u : State} (wrote : Bool) (todo : List Slot) (purpose : Purpose) {n : Notice}
    (h : n.isIn u.cluster.note = true) : n.isIn (u.writeBackEnded p wrote todo purpose none).cluster.note = true := by
  have effect : (u.writeBackEffect purpose none).cluster.note = u.cluster.note := by cases purpose <;> rfl
  rw [← effect] at h
  unfold State.writeBackEnded
  generalize u.writeBackEffect purpose none = v at h
  generalize (wrote || recordWritten purpose none) = wrote'
  dsimp only
  split
  · refine State.note_endPass _ ?_
    split <;> exact h
  · unfold State.writeBackNext
    split
    · rwa [State.note_writeRecords]
    · next b => cases b
    · next b => cases b
    · refine State.note_endPass _ ?_
      unfold State.remark
      split <;> exact h
    · rwa [State.note_nextOutcome]

/-- A failed access leaves the flags that are set (R6). -/
theorem State.note_failed {u : State} (purpose : Purpose) {n : Notice} (h : n.isIn u.cluster.note = true) :
    n.isIn (u.accessEnded purpose none).cluster.note = true := by
  unfold State.accessEnded
  split
  · next p _ =>
    have cut : n.isIn (u.cutEnded purpose none).cluster.note = true :=
      State.note_endPass (u := { u with retake := if (none : Option (List Byte)).isNone then purpose.takenSlot.or u.retake else u.retake })
        false h
    have begins (r : State) (g : n.isIn r.cluster.note = true) : n.isIn (r.beginWriteBack p).cluster.note = true := by
      rwa [State.beginWriteBack, State.note_writeRecords]
    unfold State.passEnded
    split
    · exact State.note_writeBackEnded _ _ _ h
    · split
      · exact cut
      · have gathered (taken visited : Bool) : u.gatherEnded p taken visited purpose none = u.endGather p taken visited true := by
          cases purpose <;> rfl
        rw [gathered]
        have checked (taken visited : Bool) : n.isIn (u.starvationCheck taken visited true).cluster.note = true := by
          cases taken <;> exact h
        exact begins _ (checked _ _)
    · split
      · exact cut
      · cases purpose with
        | slotTaken n | slotFields n | directivePolicy n | directiveWindows n q | directiveRow n c =>
          exact begins { u with retake := some n } h
        | _ => exact begins u h
    · exact h
  · split <;> exact h

/-- A failed access leaves the registers. -/
theorem State.registers_failed {u : State} (purpose : Purpose) :
    (u.accessEnded purpose none).clock = u.clock ∧ (u.accessEnded purpose none).timer = u.timer ∧
      (u.accessEnded purpose none).xbase = u.xbase ∧ (u.accessEnded purpose none).policy = u.policy ∧
        (u.accessEnded purpose none).windows = u.windows ∧ (u.accessEnded purpose none).memErrors = u.memErrors := by
  have of_only {t : State} (h : u.OnlyPass t) : t.clock = u.clock ∧ t.timer = u.timer ∧ t.xbase = u.xbase ∧
      t.policy = u.policy ∧ t.windows = u.windows ∧ t.memErrors = u.memErrors :=
    ⟨h.clock, h.timer, h.xbase, h.policy, h.windows, h.memErrors⟩
  unfold State.accessEnded
  split
  · exact of_only (u.onlyPass_passEnded ..)
  · split <;> exact ⟨rfl, rfl, rfl, rfl, rfl, rfl⟩

end

/-- Settles O19: the failed access is counted and its operation ends by its phase. -/
theorem accessEnds : Obligations.AccessEnds := by
  intro s
  refine ⟨fun a port => ⟨?_, fun n other => ?_, fun data reads short => ?_, fun p n cut pass phase => ?_, fun free starts => ?_⟩,
    fun free => ?_⟩
  · obtain ⟨clock, timer, xbase, policy, windows, memErrors⟩ := State.registers_failed (u := { s.failed with port := none }) a.purpose
    refine ⟨_, exec_memoryAccessError port, exec_memoryAccessTimeout port, memErrors, ?_, clock, timer, xbase, policy, windows⟩
    refine State.note_failed (u := { s.failed with port := none }) a.purpose ?_
    simp [State.failed, Notice.isIn_raiseIn]
  · constructor
    · simp [exec, execMemoryAccessError, port, Ne.symm other]
    · intro data
      simp [exec, execMemoryAccessComplete, port, Access.completedBy, Ne.symm other]
  · simp [exec, execMemoryAccessComplete, port, Access.completedBy, reads, short]
  · obtain ⟨run, phase⟩ := phase
    have ended := exec_error_of_pass pass port
    rw [State.passEnded_intake phase cut] at ended
    constructor
    · intro purpose
      rw [purpose] at ended
      exact ⟨_, ended, State.beginWriteBack_beginsWriteBack _ p⟩
    · rintro (purpose | purpose | purpose | ⟨q, purpose⟩ | ⟨c, purpose⟩) <;> rw [purpose] at ended <;>
        exact ⟨_, ended, State.beginWriteBack_beginsWriteBack _ p⟩
  · obtain ⟨v, hv⟩ := Option.ne_none_iff_exists'.mp starts
    rw [exec_memoryAccessError port]
    exact congrArg Host.Outcome.next (State.accessEnded_of_startup (u := { s.failed with port := none }) free hv a.purpose none)
  · simp [exec, execMemoryAccessError, execMemoryAccessComplete, execMemoryAccessTimeout, free]

/-! ## HALT -/

/-- The state that a pass which HALT has cut leaves at its end: a start-up that waits issues its first read (log 14). -/
def State.afterCut (s x : State) : State :=
  match s.startup with
  | none => { x with pass := none, port := none }
  | some v =>
    { x with
      pass := none
      port := some
        { number := s.accessSeq, write := false, address := addressOf v.base policyOffset, length := 192, data := [],
          purpose := .startupPolicy, waited := 0 }
      accessSeq := s.accessSeq + 1 }

/-- CHANGE is set where a mirror record has been written. -/
def State.changed (x : State) (wrote : Bool) : State := if wrote then x.notify .change else x

/-- The mirror edition word rises, and CHANGE is set, where a mirror record has been written. -/
def State.closed (x : State) (wrote : Bool) : State :=
  if wrote then { x with editionWord := wrapUp 65536 x.editionWord }.notify .change else x

section
variable {s x : State} {p : Pass}

theorem State.endPass_eq_afterCut (startup : x.startup = s.startup) (seq : x.accessSeq = s.accessSeq) (wrote : Bool) :
    ({ x with port := none }).endPass wrote = s.afterCut (x.changed wrote) := by
  unfold State.endPass State.afterCut State.changed
  rw [← startup, ← seq]
  cases wrote
  · simp only [Bool.false_eq_true, if_false]
    cases x.startup <;> rfl
  · simp only [if_true, State.notify, State.on]
    cases x.startup <;> rfl

/-- The end of the access of a write-back that HALT has cut (R76, log 27). -/
theorem State.cut_writeBackEnded (cut : p.cut = true) {u : State} {purpose : Purpose} {data : Option (List Byte)} {wrote : Bool}
    {todo : List Slot} (effect : u.writeBackEffect purpose data = { x with port := none })
    (startup : x.startup = s.startup) (seq : x.accessSeq = s.accessSeq) :
    u.writeBackEnded p wrote todo purpose data =
      s.afterCut (if purpose = .header then x.changed (wrote || recordWritten purpose data)
        else x.closed (wrote || recordWritten purpose data)) := by
  unfold State.writeBackEnded
  rw [effect]
  generalize (wrote || recordWritten purpose data) = wrote'
  simp only [cut, if_true]
  by_cases header : purpose = .header
  · simp only [header, if_true, bne_self_eq_false, Bool.and_false, Bool.false_eq_true, if_false]
    exact State.endPass_eq_afterCut startup seq wrote'
  · have other : (purpose != .header) = true := by simpa using header
    simp only [header, if_false, other, Bool.and_true]
    cases wrote'
    · exact State.endPass_eq_afterCut startup seq false
    · exact State.endPass_eq_afterCut (x := { x with editionWord := wrapUp 65536 x.editionWord }) startup seq true

/-- What HALT clears and what it keeps (R22, R187). -/
theorem State.halt_eq (s : State) :
    s.halt = { s with
      runState := .halted
      refused := false
      sweepCount := 0
      overruns := 0
      starvation := 0
      failsafe := false
      torn := 0
      late := 0
      memErrors := 0
      timer := { s.timer with sweepPending := false }
      cluster := s.cluster.halt
      pass := if s.port = none then none else s.pass.map fun p => { p with cut := true } } := by
  unfold State.halt State.cutPass
  cases hp : s.pass <;> cases ha : s.port <;> simp [State.clearPending, State.on]

/-- The access that a pass cut by HALT has outstanding ends a write-back (R76, log 27). -/
theorem exec_complete_of_cut {a : Access} (pass : s.pass = some p) (cut : p.cut = true) (port : s.port = some a) {wrote : Bool}
    {todo : List Slot} (phase : p.phase = .writeBack wrote todo) {purpose : Purpose} (made : a.purpose = purpose)
    {data : List Byte} (h : a.write = true ∨ data.length = a.length)
    (effect : ({ s with port := none } : State).writeBackEffect purpose (some data) = { x with port := none })
    (startup : x.startup = s.startup) (seq : x.accessSeq = s.accessSeq) :
    exec (.memoryAccessComplete a.number data) s =
      .next (s.afterCut (if purpose = .header then x.changed (wrote || recordWritten purpose (some data))
        else x.closed (wrote || recordWritten purpose (some data)))) := by
  rw [exec_complete_of_pass pass port h, State.passEnded_writeBack phase, made, State.cut_writeBackEnded cut effect startup seq]

theorem exec_error_of_cut {a : Access} (pass : s.pass = some p) (cut : p.cut = true) (port : s.port = some a) {wrote : Bool}
    {todo : List Slot} (phase : p.phase = .writeBack wrote todo) {purpose : Purpose} (made : a.purpose = purpose)
    (effect : ({ s.failed with port := none } : State).writeBackEffect purpose none = { x with port := none })
    (startup : x.startup = s.startup) (seq : x.accessSeq = s.accessSeq) :
    exec (.memoryAccessError a.number) s =
      .next (s.afterCut (if purpose = .header then x.changed (wrote || recordWritten purpose none)
        else x.closed (wrote || recordWritten purpose none))) := by
  rw [exec_error_of_pass pass port, State.passEnded_writeBack phase, made, State.cut_writeBackEnded cut effect startup seq]

/-- The end of a gather or an intake that HALT has cut (R12, R76, log 13). -/
theorem State.cut_passEnded (cut : p.cut = true)
    (phase : (∃ taken visited, p.phase = .gather taken visited) ∨ ∃ d, p.phase = .intake d) (purpose : Purpose)
    (data : Option (List Byte)) (startup : x.startup = s.startup) (seq : x.accessSeq = s.accessSeq) :
    ({ x with port := none } : State).passEnded p purpose data =
      s.afterCut { x with retake := if data.isNone then purpose.takenSlot.or x.retake else x.retake } := by
  have ended := State.endPass_eq_afterCut (s := s)
    (x := { x with retake := if data.isNone then purpose.takenSlot.or x.retake else x.retake }) startup seq false
  rcases phase with ⟨taken, visited, phase⟩ | ⟨d, phase⟩ <;> simp only [State.passEnded, phase, cut, if_true] <;> exact ended

end

theorem byteAt_singleton (b : Byte) : byteAt [b] 0 = b.toNat := rfl

theorem byteAt_eq_taken_iff (b : Byte) : byteAt [b] 0 = slotTaken ↔ b = 2#8 := by
  rw [byteAt_singleton, ← BitVec.toNat_inj]
  rfl

theorem byteAt_eq_finalState_iff (b : Byte) (o : OutcomeCode) :
    byteAt [b] 0 = o.finalState ↔ b = if o = .ok then 3#8 else 4#8 := by
  rw [byteAt_singleton, ← BitVec.toNat_inj]
  cases o <;> rfl

@[simp] theorem recordWritten_none (purpose : Purpose) : recordWritten purpose none = false := by cases purpose <;> rfl

/-- Only the write of a mirror record writes one. -/
theorem recordWritten_of_other {purpose : Purpose} (other : ∀ c e, purpose ≠ .mirrorRecord c e) (data : Option (List Byte)) :
    recordWritten purpose data = false := by
  unfold recordWritten
  split
  · exact absurd rfl (other _ _)
  · rfl

/-- What the state read back for an outcome does to it (R11). -/
theorem State.writeBackEffect_outcomeCheck {u : State} {n : Slot} {o : DirectiveOutcome}
    (queued : u.cluster.outcomes.find? (fun q => q.slot == n) = some o) (b : Byte) :
    u.writeBackEffect (.outcomeCheck n) (some [b]) =
      if b = 2#8 then u
      else if b = if o.code = .ok then 3#8 else 4#8 then (u.on fun w => w.outcomeLeaves n).notify .directive
      else u.on fun w => w.outcomeLeaves n := by
  simp only [State.writeBackEffect, queued, byteAt_eq_taken_iff, byteAt_eq_finalState_iff]

/-- Settles O18: what HALT leaves, and the end of each access of a pass that it cuts. -/
theorem haltResult : Obligations.HaltResult := by
  refine ⟨fun s holding quiet => ?_, fun s p a pass cut port => ?_⟩
  · refine ⟨_, congrArg Host.Outcome.next (if_pos ⟨holding, quiet⟩), ?_, fun c => ?_, fun i => ?_⟩
    · rw [State.halt_eq]
      rfl
    · rw [State.halt_eq, State.ctx_reset]
      exact Cluster.ctx_halt ..
    · rw [State.halt_eq]
      obtain ⟨idle, empty⟩ := quiet.2 i
      refine (Cluster.lane_halt s.cluster i).trans ?_
      rw [← idle, ← empty]
  · refine ⟨fun c e wrote todo phase made write => ⟨?_, ?_⟩, fun o wrote todo phase queued => ⟨fun made read one b => ?_,
      fun made write => ?_, fun made write => ?_, fun made => ?_⟩, fun wrote todo phase made write => ⟨?_, ?_⟩,
      fun phase => ⟨fun data h => ?_, ?_⟩⟩
    · have ends := exec_complete_of_cut pass cut port phase made (data := []) (.inl write)
        (x := s.on fun w => w.setCtx c { w.ctx c with edition := e }) rfl rfl rfl
      rw [if_neg (by nofun), recordWritten, Bool.or_true] at ends
      exact ⟨_, s.on fun w => w.setCtx c { w.ctx c with edition := e }, ends, Cluster.ctx_setCtx_self ..,
        fun d hd => Cluster.ctx_setCtx_ne _ (Ne.symm hd) _, rfl, rfl⟩
    · have ends := exec_error_of_cut pass cut port phase made (x := s.failed.on fun w => w.markDirty c) rfl rfl rfl
      rw [if_neg (by nofun), recordWritten_none, Bool.or_false] at ends
      exact ⟨_, s.failed.on fun w => w.markDirty c, ends, (Cluster.ctx_markDirty ..).trans (if_pos rfl),
        fun d hd => (Cluster.ctx_markDirty ..).trans (if_neg (Ne.symm hd)), rfl, rfl⟩
    · have ends {x : State} (effect : ({ s with port := none } : State).writeBackEffect (.outcomeCheck o.slot) (some [b]) =
          { x with port := none }) (startup : x.startup = s.startup) (seq : x.accessSeq = s.accessSeq) :
          exec (.memoryAccessComplete a.number [b]) s = .next (s.afterCut (x.closed wrote)) := by
        rw [exec_complete_of_cut pass cut port phase made (data := [b]) (.inr one.symm) effect startup seq, if_neg (by nofun),
          recordWritten_of_other (by nofun), Bool.or_false]
      rw [State.writeBackEffect_outcomeCheck (u := { s with port := none }) queued] at ends
      by_cases taken : b = 2#8
      · simp only [taken, if_true] at ends ⊢
        exact ends rfl rfl rfl
      · simp only [taken, if_false] at ends ⊢
        by_cases final : b = if o.code = .ok then 3#8 else 4#8
        · rw [if_pos final] at ends
          rw [decide_eq_true final]
          exact ends (x := (s.on fun w => w.outcomeLeaves o.slot).notify .directive) rfl rfl rfl
        · rw [if_neg final] at ends
          rw [decide_eq_false final]
          exact ends (x := s.on fun w => w.outcomeLeaves o.slot) rfl rfl rfl
    · have ends := exec_complete_of_cut pass cut port phase made (data := []) (.inl write) (x := s) rfl rfl rfl
      rw [if_neg (by nofun), recordWritten_of_other (by nofun), Bool.or_false] at ends
      exact ends
    · have ends := exec_complete_of_cut pass cut port phase made (data := []) (.inl write)
        (x := (s.on fun w => w.outcomeLeaves o.slot).notify .directive) rfl rfl rfl
      rw [if_neg (by nofun), recordWritten_of_other (by nofun), Bool.or_false] at ends
      exact ends
    · have ends {purpose : Purpose} (made : a.purpose = purpose) (other : purpose ≠ .header)
          (effect : ({ s.failed with port := none } : State).writeBackEffect purpose none = { s.failed with port := none }) :
          exec (.memoryAccessError a.number) s = .next (s.afterCut (s.failed.closed wrote)) := by
        rw [exec_error_of_cut pass cut port phase made (x := s.failed) effect rfl rfl, if_neg other,
          recordWritten_none, Bool.or_false]
      rcases made with made | made | made <;> exact ends made (by nofun) rfl
    · have ends := exec_complete_of_cut pass cut port phase made (data := []) (.inl write) (x := s) rfl rfl rfl
      rw [if_pos rfl, recordWritten_of_other (by nofun), Bool.or_false] at ends
      exact ends
    · have ends := exec_error_of_cut pass cut port phase made (x := s.failed) rfl rfl rfl
      rw [if_pos rfl, recordWritten_of_other (by nofun), Bool.or_false] at ends
      exact ends
    · rw [exec_complete_of_pass pass port h, State.cut_passEnded cut phase _ _ rfl rfl]
      rfl
    · have ended := State.cut_passEnded cut phase (x := s.failed) (s := s) a.purpose none rfl rfl
      rw [exec_error_of_pass pass port, ended]
      rfl

end Sys2Proof.Machine
end

section
/-! The gather and the directive intake, access by access (sections 1.4, 1.5, 3.1 and 4.3). -/

namespace Sys2Proof.Machine

/-! ## Accesses of a pass that is not cut -/

section
variable {s : State} {p : Pass} {a : Access} {purpose : Purpose}

/-- An access that leaves the pass in its phase. -/
theorem State.read_of_pass (pass : s.pass = some p) (offset length : Nat) (q : Purpose) :
    ({ s with port := none } : State).read p.base offset length q = s.issued p p.phase false offset length [] q := by
  simp [State.read, State.issued, addressOf, pass]

theorem State.write_of_pass (pass : s.pass = some p) (offset : Nat) (data : List Byte) (q : Purpose) :
    ({ s with port := none } : State).write p.base offset data q = s.issued p p.phase true offset data.length data q := by
  simp [State.write, State.issued, addressOf, pass]

theorem exec_complete_gather (awaiting : s.Awaiting p a purpose) {taken visited : Bool} (phase : p.phase = .gather taken visited)
    {data : List Byte} (h : a.write = true ∨ data.length = a.length) :
    exec (.memoryAccessComplete a.number data) s =
      .next (({ s with port := none } : State).gatherEnded p taken visited purpose (some data)) := by
  obtain ⟨pass, cut, port, rfl⟩ := awaiting
  rw [exec_complete_of_pass pass port h, State.passEnded_gather phase cut]

theorem exec_complete_intake (awaiting : s.Awaiting p a purpose) {run : Option DirectiveRun} (phase : p.phase = .intake run)
    {data : List Byte} (h : a.write = true ∨ data.length = a.length) :
    exec (.memoryAccessComplete a.number data) s =
      .next (({ s with port := none } : State).intakeEnded p run purpose (some data)) := by
  obtain ⟨pass, cut, port, rfl⟩ := awaiting
  rw [exec_complete_of_pass pass port h, State.passEnded_intake phase cut]

theorem exec_error_intake (awaiting : s.Awaiting p a purpose) {run : Option DirectiveRun} (phase : p.phase = .intake run) :
    exec (.memoryAccessError a.number) s = .next (({ s.failed with port := none } : State).intakeEnded p run purpose none) := by
  obtain ⟨pass, cut, port, rfl⟩ := awaiting
  rw [exec_error_of_pass pass port, State.passEnded_intake phase cut]

end

/-! ## The directive intake -/

theorem Cluster.inFlight_iff (w : Cluster) (n : Slot) : w.inFlight n = true ↔ ∃ r ∈ w.probes, r.slot = n := by
  simp [Cluster.inFlight]

section
variable {u : State} {p : Pass} {n : Slot}

theorem State.slotStateRead_held (h : ∃ r ∈ u.cluster.probes, r.slot = n) (v : Nat) :
    u.slotStateRead p n v = u.intakeFrom p (n.val + 1) := if_pos ((Cluster.inFlight_iff ..).mpr h)

variable (free : ¬∃ r ∈ u.cluster.probes, r.slot = n)
include free

theorem State.slotStateRead_posted : u.slotStateRead p n slotPosted = u.writeTaken p n := by
  rw [State.slotStateRead, if_neg (mt (Cluster.inFlight_iff ..).mp free), if_pos rfl]

theorem State.slotStateRead_retake (retake : u.retake = some n) : u.slotStateRead p n slotTaken = u.readFields p n := by
  rw [State.slotStateRead, if_neg (mt (Cluster.inFlight_iff ..).mp free), if_neg (by decide), if_pos retake, if_pos rfl]

/-- Any other slot is passed over, and is no longer the retake slot (R10, R12). -/
theorem State.slotStateRead_other {v : Nat} (posted : v ≠ slotPosted) (other : v ≠ slotTaken ∨ u.retake ≠ some n) :
    u.slotStateRead p n v =
      ({ u with retake := if u.retake = some n then none else u.retake } : State).intakeFrom p (n.val + 1) := by
  rw [State.slotStateRead, if_neg (mt (Cluster.inFlight_iff ..).mp free), if_neg posted]
  by_cases retake : u.retake = some n
  · rw [if_pos retake, if_neg (other.resolve_right (Classical.not_not.mpr retake)), if_pos retake]
  · rw [if_neg retake, if_neg retake]

end

theorem byteAt_eq_posted_iff (b : Byte) : byteAt [b] 0 = slotPosted ↔ b = 1#8 := by
  rw [byteAt_singleton, ← BitVec.toNat_inj]
  rfl

/-- Settles O20: the slot's state, the fields, and what LOAD_POLICY and LOAD_CARRIERS read. -/
theorem intakeSlots : Obligations.IntakeSlots := by
  intro s p a n
  refine ⟨fun phase awaiting read one => ⟨fun held b => ?_, fun free => ⟨?_, fun retake => ?_, fun b posted other => ?_⟩⟩,
    fun phase awaiting write => ⟨?_, ?_⟩, fun phase awaiting read fifteen data h => ⟨fun kind => ?_, fun kind => ?_⟩,
    fun d data phase read h => ⟨fun awaiting => ?_, fun q awaiting => ?_, fun c awaiting => ?_⟩⟩
  · have passed := State.slotStateRead_held (u := { s with port := none }) (p := p) held (byteAt [b] 0)
    exact ⟨_, (exec_complete_intake awaiting phase (data := [b]) (.inr one.symm)).trans (congrArg Host.Outcome.next passed),
      State.intakeFrom_nextSlot ..⟩
  · rw [exec_complete_intake awaiting phase (data := [1#8]) (.inr one.symm), phase]
    exact congrArg Host.Outcome.next (State.slotStateRead_posted (u := { s with port := none }) (p := p) free)
  · rw [exec_complete_intake awaiting phase (data := [2#8]) (.inr one.symm), phase]
    exact congrArg Host.Outcome.next (State.slotStateRead_retake (u := { s with port := none }) (p := p) free retake)
  · have passed := State.slotStateRead_other (u := { s with port := none }) (p := p) free (v := byteAt [b] 0)
      (mt (byteAt_eq_posted_iff b).mp posted) (other.imp_left (mt (byteAt_eq_taken_iff b).mp))
    exact ⟨_, (exec_complete_intake awaiting phase (data := [b]) (.inr one.symm)).trans (congrArg Host.Outcome.next passed),
      State.intakeFrom_nextSlot ..⟩
  · rw [exec_complete_intake awaiting phase (data := []) (.inl write), phase]
    rfl
  · exact ⟨_, exec_error_intake awaiting phase, State.beginWriteBack_beginsWriteBack { s.failed with retake := some n } p⟩
  · rw [exec_complete_intake awaiting phase (.inr (h.trans fifteen.symm))]
    exact congrArg Host.Outcome.next (if_neg kind)
  · rw [exec_complete_intake awaiting phase (.inr (h.trans fifteen.symm))]
    exact congrArg Host.Outcome.next (if_pos kind)
  · rw [exec_complete_intake awaiting phase (.inr h)]
    exact congrArg Host.Outcome.next (State.read_of_pass awaiting.1 ..)
  · rw [exec_complete_intake awaiting phase (.inr h)]
    rfl
  · rw [exec_complete_intake awaiting phase (.inr h)]
    rfl

/-! ## The visit of an observation slot -/

section
variable {x : Context} {stamp b : Byte} (freshness used users : Nat)

theorem observationTaken_iff : observationTaken x stamp b = true ↔ stamp = b ∧ x.lastStamp ≠ some stamp := by
  simp [observationTaken]

theorem Context.visitSlot_of_missed (h : ¬(stamp = b ∧ x.lastStamp ≠ some stamp)) :
    x.visitSlot freshness stamp b used users =
      { x with
        age := min 255 (x.age + 1)
        cls := if (x.cls = .fresh ∨ x.cls = .clipped) ∧ freshness < min 255 (x.age + 1) then .aged else x.cls } := by
  rw [Context.visitSlot, if_neg (mt observationTaken_iff.mp h), Context.missObservation, Context.ageClass]
  by_cases aged : (x.cls = .fresh ∨ x.cls = .clipped) ∧ freshness < min 255 (x.age + 1)
  · exact (if_pos aged).trans (by rw [if_pos aged]; rfl)
  · exact (if_neg aged).trans (by rw [if_neg aged]; rfl)

/-- A taken observation has age 0, so that the class does not age (R41, R43). -/
theorem Context.visitSlot_of_taken (h : stamp = b ∧ x.lastStamp ≠ some stamp) (resting : x.state ≠ .serving) :
    x.visitSlot freshness stamp b used users = { x with lastStamp := some stamp, age := 0 } := by
  rw [Context.visitSlot, if_pos (observationTaken_iff.mpr h), Context.takeObservation, Context.ageClass]
  simp [resting]

theorem Context.visitSlot_of_serving (h : stamp = b ∧ x.lastStamp ≠ some stamp) (serving : x.state = .serving) :
    x.visitSlot freshness stamp b used users =
      ({ x with lastStamp := some stamp, age := 0 } : Context).applyObservation used users := by
  rw [Context.visitSlot, if_pos (observationTaken_iff.mpr h), Context.takeObservation, Context.ageClass]
  simp [serving, Context.applyObservation]

/-- Only what an observation carries is written by the visit of a slot. -/
theorem Context.visitSlot_only (x : Context) (stamp b : Byte) :
    (let y := x.visitSlot freshness stamp b used users
     y = { x with
       lastStamp := y.lastStamp, age := y.age, load := y.load, cls := y.cls, lastUsers := y.lastUsers,
       unorderedNow := y.unorderedNow }) := by
  by_cases taken : stamp = b ∧ x.lastStamp ≠ some stamp
  · by_cases serving : x.state = .serving
    · rw [Context.visitSlot_of_serving _ _ _ taken serving]
      rfl
    · rw [Context.visitSlot_of_taken _ _ _ taken serving]
  · rw [Context.visitSlot_of_missed _ _ _ taken]

end

/-- A change of what an observation carries shows in the mirror when age, load, class or the unordered mark changes. -/
theorem Context.view_ne_iff_of_observed {x y : Context}
    (h : y = { x with
      lastStamp := y.lastStamp, age := y.age, load := y.load, cls := y.cls, lastUsers := y.lastUsers,
      unorderedNow := y.unorderedNow }) :
    y.view ≠ x.view ↔ y.age ≠ x.age ∨ y.load ≠ x.load ∨ y.cls ≠ x.cls ∨ y.unorderedNow ≠ x.unorderedNow := by
  have view : y.view = { x.view with age := y.age, load := y.load, cls := y.cls, unorderedNow := y.unorderedNow } := by
    rw [h]
    rfl
  rw [view]
  simp only [Context.view, ne_eq, MirrorView.mk.injEq, true_and, and_true]
  rw [Classical.not_and_iff_not_or_not, Classical.not_and_iff_not_or_not, Classical.not_and_iff_not_or_not, or_left_comm]
  exact or_congr_right or_left_comm

/-- The visit of a slot is the one that the statements name. -/
theorem State.slotVisited_slotVisited (s : State) (c : Carrier) (stamp b : Byte) (used users : Nat) :
    s.SlotVisited (s.slotVisited c stamp b used users) c stamp b used users := by
  have ctx : (s.slotVisited c stamp b used users).ctx c =
      (s.ctx c).edit (Context.visitSlot s.policy.freshness stamp b used users) := by
    unfold State.slotVisited
    dsimp only
    split <;> exact Cluster.ctx_editCtx_self ..
  have others : s.OtherContexts (s.slotVisited c stamp b used users) c := by
    intro d hd
    unfold State.slotVisited
    dsimp only
    split <;> exact Cluster.ctx_editCtx_ne _ (Ne.symm hd) _
  have only := Context.visitSlot_only s.policy.freshness used users (s.ctx c) stamp b
  unfold State.SlotVisited
  simp only [ctx]
  refine ⟨?_, fun missed => ?_, fun taken => ?_, fun taken resting => ?_, fun taken serving => ?_, ?_, others, ?_⟩
  · unfold Context.edit
    generalize (s.ctx c).visitSlot s.policy.freshness stamp b used users = y at only
    exact congrArg (fun z : Context => { z with dirty := y.dirty || decide (y.view ≠ (s.ctx c).view) }) only
  · rw [Context.edit, Context.visitSlot_of_missed _ _ _ missed]
    exact ⟨rfl, rfl, rfl, rfl, rfl, rfl⟩
  · by_cases serving : (s.ctx c).state = .serving
    · rw [Context.edit, Context.visitSlot_of_serving _ _ _ taken serving]
      exact ⟨rfl, rfl⟩
    · rw [Context.edit, Context.visitSlot_of_taken _ _ _ taken serving]
      exact ⟨rfl, rfl⟩
  · rw [Context.edit, Context.visitSlot_of_taken _ _ _ taken resting]
    exact ⟨rfl, rfl, rfl, rfl⟩
  · rw [Context.edit, Context.visitSlot_of_serving _ _ _ taken serving]
    exact ⟨rfl, rfl, rfl, rfl⟩
  · have dirty : ((s.ctx c).visitSlot s.policy.freshness stamp b used users).dirty = (s.ctx c).dirty := by rw [only]
    simp only [Context.edit, dirty, Bool.or_eq_true, decide_eq_true_iff, Context.view_ne_iff_of_observed only]
  · unfold State.slotVisited
    dsimp only
    split <;> rfl

/-! ## The gather -/

/-- The first present carrier from a number on. -/
theorem Cluster.nextPresent_eq_some {w : Cluster} {start : Nat} {d : Carrier} (hs : start ≤ d.val)
    (present : (w.ctx d).cfg.present = true) (first : ∀ e : Carrier, start ≤ e.val → e < d → (w.ctx e).cfg.present = false) :
    w.nextPresent start = some d := by
  refine find_carriers_eq_some (by simp [hs, present]) fun e he => ?_
  by_cases h : start ≤ e.val
  · simp [first e h he]
  · simp [h]

theorem Cluster.nextPresent_eq_none {w : Cluster} {start : Nat}
    (h : ∀ c : Carrier, start ≤ c.val → (w.ctx c).cfg.present = false) : w.nextPresent start = none := by
  refine List.find?_eq_none.2 fun c _ => ?_
  by_cases hc : start ≤ c.val
  · simp [h c hc]
  · simp [hc]

theorem State.gatherFrom_of_present {u : State} {p : Pass} {taken visited : Bool} {start : Nat} {d : Carrier}
    (h : u.cluster.nextPresent start = some d) :
    u.gatherFrom p taken visited start =
      u.issued p (.gather taken true) false (0x2800 + 16 * d.val) 1 [] (.firstStamp d) := by
  rw [State.gatherFrom, h]
  rfl

/-- The visit of a slot leaves every carrier's configuration. -/
theorem State.SlotVisited.cfg {s u : State} {c : Carrier} {stamp b : Byte} {used users : Nat}
    (h : s.SlotVisited u c stamp b used users) (d : Carrier) : (u.ctx d).cfg = (s.ctx d).cfg := by
  obtain ⟨only, _, _, _, _, _, others, _⟩ := h
  by_cases hd : d = c
  · rw [hd, only]
  · rw [others d hd]

/-- Settles O21: two reads go on, and the third decides the slot and goes to the next present carrier. -/
theorem slotDecided : Obligations.SlotDecided := by
  intro s p a c tk visited stamp b phase read
  refine ⟨fun awaiting one => ?_, fun data awaiting four h => ?_, fun used users d awaiting one above present first => ?_⟩
  · rw [exec_complete_gather awaiting phase (data := [b]) (.inr one.symm)]
    exact congrArg Host.Outcome.next (State.read_of_pass awaiting.1 ..)
  · rw [exec_complete_gather awaiting phase (.inr (h.trans four.symm))]
    exact congrArg Host.Outcome.next (State.read_of_pass awaiting.1 ..)
  · have visited := s.slotVisited_slotVisited c stamp b used users
    have next : (({ s with port := none } : State).slotVisited c stamp b used users).cluster.nextPresent (c.val + 1) = some d := by
      have same : (({ s with port := none } : State).slotVisited c stamp b used users).cluster =
          (s.slotVisited c stamp b used users).cluster := by
        unfold State.slotVisited
        dsimp only
        split <;> rfl
      rw [same]
      refine Cluster.nextPresent_eq_some above ?_ fun e he hd => ?_
      · exact (congrArg _ (visited.cfg d)).trans present
      · exact (congrArg _ (visited.cfg e)).trans (first e he hd)
    refine ⟨_, s.slotVisited c stamp b used users, exec_complete_gather awaiting phase (data := [b]) (.inr one.symm), visited, ?_⟩
    refine (State.gatherFrom_of_present next).trans ?_
    have taken : observationTaken (s.ctx c) stamp b = decide (stamp = b ∧ (s.ctx c).lastStamp ≠ some stamp) := by
      rw [Bool.eq_iff_iff, observationTaken_iff, decide_eq_true_iff]
    rw [← taken]
    unfold State.slotVisited
    dsimp only
    split <;> rfl

end Sys2Proof.Machine
end

section
/-! The records as bytes, write-back access by access, and how sweeps and cycles of the reference begin (sections 1.5, 1.6, 4.1 to 4.5). -/

namespace Sys2Proof.Machine

/-! ## Bytes -/

section
variable {xs ys : List Byte} {i : Nat}

theorem byteAt_append_left (h : i < xs.length) : byteAt (xs ++ ys) i = byteAt xs i := by
  simp [byteAt, List.getElem?_append_left h]

theorem byteAt_append_right (h : xs.length ≤ i) : byteAt (xs ++ ys) i = byteAt ys (i - xs.length) := by
  simp [byteAt, List.getElem?_append_right h]

/-- A byte of two parts is one of the first part, or one of the second. -/
theorem byteAt_append : byteAt (xs ++ ys) i = if i < xs.length then byteAt xs i else byteAt ys (i - xs.length) := by
  split
  · next h => exact byteAt_append_left h
  · next h => exact byteAt_append_right (Nat.le_of_not_lt h)

end

theorem byteAt_zeros (n i : Nat) : byteAt (zeros n) i = 0 := by
  simp [byteAt, zeros, List.getElem?_replicate]
  split <;> rfl

/-- The bytes of a little-endian field. -/
theorem byteAt_leBytes {n i : Nat} (h : i < n) (v : Nat) : byteAt (leBytes n v) i = v / 256 ^ i % 256 := by
  induction n generalizing i v with
  | zero => omega
  | succ n ih =>
    cases i with
    | zero => simp [byteAt, leBytes]
    | succ i =>
      have step : byteAt (leBytes (n + 1) v) (i + 1) = byteAt (leBytes n (v / 256)) i := by simp [byteAt, leBytes]
      rw [step, ih (by omega), Nat.div_div_eq_div_mul, Nat.pow_succ']

/-- The bytes of an outcome (section 12.4). -/
theorem outcomeBytes_layout (o : DirectiveOutcome) :
    (let b := outcomeBytes o
     b.length = 5 ∧ le16 b 0 = o.affected % 65536 ∧ le16 b 2 = o.skipped % 65536 ∧ byteAt b 4 = o.code.code) := by
  have code : o.code.code < 256 := by cases o.code <;> decide
  refine ⟨by simp [outcomeBytes, leBytes_length], ?_, ?_, ?_⟩
  · simp [outcomeBytes, le16, byteAt_append, leBytes_length, byteAt_leBytes]
    omega
  · simp [outcomeBytes, le16, byteAt_append, leBytes_length, byteAt_leBytes]
    omega
  · simp [outcomeBytes, byteAt_append, leBytes_length, byteAt_leBytes]
    omega

/-! ## Write-back -/

section
variable {s : State} {p : Pass} {a : Access} {purpose : Purpose} {wrote : Bool} {todo : List Slot}

theorem State.writeBackEnded_of_uncut (cut : p.cut = false) (u : State) (data : Option (List Byte)) :
    u.writeBackEnded p wrote todo purpose data =
      ((u.writeBackEffect purpose data).enterPhase p (.writeBack (wrote || recordWritten purpose data) todo)).writeBackNext p
        (wrote || recordWritten purpose data) todo purpose data := by
  simp [State.writeBackEnded, cut]

theorem exec_complete_writeBack (awaiting : s.Awaiting p a purpose) (phase : p.phase = .writeBack wrote todo) {data : List Byte}
    (h : a.write = true ∨ data.length = a.length) :
    exec (.memoryAccessComplete a.number data) s =
      .next ((((({ s with port := none } : State).writeBackEffect purpose (some data)).enterPhase p
        (.writeBack (wrote || recordWritten purpose (some data)) todo)).writeBackNext p
          (wrote || recordWritten purpose (some data)) todo purpose (some data))) := by
  obtain ⟨pass, cut, port, rfl⟩ := awaiting
  rw [exec_complete_of_pass pass port h, State.passEnded_writeBack phase, State.writeBackEnded_of_uncut cut]

theorem exec_error_writeBack (awaiting : s.Awaiting p a purpose) (phase : p.phase = .writeBack wrote todo) :
    exec (.memoryAccessError a.number) s =
      .next (((({ s.failed with port := none } : State).writeBackEffect purpose none).enterPhase p
        (.writeBack wrote todo)).writeBackNext p wrote todo purpose none) := by
  obtain ⟨pass, cut, port, rfl⟩ := awaiting
  rw [exec_error_of_pass pass port, State.passEnded_writeBack phase, State.writeBackEnded_of_uncut cut, recordWritten_none,
    Bool.or_false]

/-- The records go on from a state whatever its port and pass held. -/
theorem State.writesRecords_of_idle (u : State) (ph : Phase) (start : Nat) :
    u.WritesRecords ((({ u with port := none } : State).enterPhase p ph).writeRecords p wrote start) p wrote start :=
  State.writeRecords_writesRecords (({ u with port := none } : State).enterPhase p ph) p wrote start

theorem State.goesOnWith_of_idle (u : State) (ph : Phase) (todo : List Slot) :
    u.GoesOnWith ((({ u with port := none } : State).enterPhase p ph).nextOutcome p wrote todo) p wrote todo := by
  cases todo with
  | nil => exact State.issueHeader_issuesHeader (({ u with port := none } : State).enterPhase p ph) p wrote
  | cons n ns => rfl

/-- The end of the header's write ends the pass (R14, R15; log 31 for the marks). -/
theorem State.endPass_remark {u : State} (startup : u.startup = none) (wrote : Bool) :
    (∀ c : Carrier, ((u.remark p).endPass wrote).ctx c = { u.ctx c with dirty := (u.ctx c).dirty || p.moved }) ∧
      (u.remark p).endPass wrote = { u with
        pass := none
        cluster :=
          { u.cluster with
            contexts := ((u.remark p).endPass wrote).cluster.contexts
            note := if wrote = true then Notice.change.raiseIn u.cluster.note else u.cluster.note } } := by
  have ended : (u.remark p).endPass wrote = { (u.remark p).changed wrote with pass := none } := by
    unfold State.endPass State.changed State.remark
    cases p.moved <;> cases wrote <;> simp [State.notify, State.on, startup]
  rw [ended]
  constructor
  · intro c
    have same : ({ (u.remark p).changed wrote with pass := none } : State).ctx c = (u.remark p).ctx c := by cases wrote <;> rfl
    rw [same, State.ctx_remark]
  · rw [State.remark_eq]
    cases wrote <;> rfl

end

/-- Settles O27: the effect of the write, and then the next record or the end of the pass. -/
theorem writeBackEnds : Obligations.WriteBackEnds := by
  refine ⟨fun s p a c e wrote todo phase awaiting write => ⟨?_, ?_⟩, fun s p a wrote todo phase awaiting write unstarted => ?_⟩
  · have ended := exec_complete_writeBack awaiting phase (data := []) (.inl write)
    rw [recordWritten, Bool.or_true] at ended
    exact ⟨_, s.on fun w => w.setCtx c { w.ctx c with edition := e }, ended, Cluster.ctx_setCtx_self ..,
      fun d hd => Cluster.ctx_setCtx_ne _ (Ne.symm hd) _, rfl, State.writesRecords_of_idle _ _ _⟩
  · exact ⟨_, s.failed.on fun w => w.markDirty c, exec_error_writeBack awaiting phase,
      (Cluster.ctx_markDirty ..).trans (if_pos rfl), fun d hd => (Cluster.ctx_markDirty ..).trans (if_neg (Ne.symm hd)), rfl,
      State.writesRecords_of_idle _ _ _⟩
  · constructor
    · have ended := exec_complete_writeBack awaiting phase (data := []) (.inl write)
      rw [recordWritten_of_other (by nofun), Bool.or_false] at ended
      obtain ⟨ctx, only⟩ := State.endPass_remark (p := p)
        (u := ({ s with port := none } : State).enterPhase p (.writeBack wrote todo)) unstarted wrote
      exact ⟨_, ended, ctx, only⟩
    · obtain ⟨ctx, only⟩ := State.endPass_remark (p := p)
        (u := ({ s.failed with port := none } : State).enterPhase p (.writeBack wrote todo)) unstarted wrote
      exact ⟨_, exec_error_writeBack awaiting phase, ctx, only⟩

/-! ## Outcomes -/

theorem OutcomeCode.finalByte (o : OutcomeCode) : BitVec.ofNat 8 o.finalState = if o = .ok then 3#8 else 4#8 := by cases o <;> rfl

theorem find_dropOutcome (n : Slot) (q : List DirectiveOutcome) : (dropOutcome n q).find? (fun o => o.slot == n) = none := by
  refine List.find?_eq_none.mpr fun o ho => ?_
  have other := (List.mem_filter.mp ho).2
  simpa using other

/-- The next outcome follows when the check has ended the outcome (R11). -/
theorem State.writeBackNext_of_dropped {u : State} {p : Pass} {wrote : Bool} {todo : List Slot} {n : Slot} {b : List Byte}
    (dropped : u.cluster.outcomes.find? (fun o => o.slot == n) = none) :
    u.writeBackNext p wrote todo (.outcomeCheck n) (some b) = u.nextOutcome p wrote todo.tail := by
  simp only [State.writeBackNext, dropped]

/-- Settles O28: the check, the fields and the final state of an outcome. -/
theorem outcomeHandled : Obligations.OutcomeHandled := by
  refine ⟨fun o => ?_, fun s p a o wrote todo phase queued => ?_⟩
  · obtain ⟨length, affected, skipped, code⟩ := outcomeBytes_layout o
    refine ⟨length, affected, skipped, code.trans ?_⟩
    cases o.code <;> rfl
  · have fails {purpose : Purpose} (awaiting : s.Awaiting p a purpose)
        (made : purpose = .outcomeCheck o.slot ∨ purpose = .outcomeFields o.slot ∨ purpose = .outcomeState o.slot) :
        ∃ t, exec (.memoryAccessError a.number) s = .next t ∧ s.failed.GoesOnWith t p wrote todo.tail := by
      have ended := exec_error_writeBack awaiting phase
      rcases made with rfl | rfl | rfl <;> exact ⟨_, ended, State.goesOnWith_of_idle s.failed _ _⟩
    have completes {purpose : Purpose} (awaiting : s.Awaiting p a purpose) (other : ∀ c e, purpose ≠ .mirrorRecord c e)
        {data : List Byte} (h : a.write = true ∨ data.length = a.length) {x : State}
        (effect : ({ s with port := none } : State).writeBackEffect purpose (some data) = { x with port := none }) :
        exec (.memoryAccessComplete a.number data) s =
          .next ((({ x with port := none } : State).enterPhase p (.writeBack wrote todo)).writeBackNext p wrote todo purpose
            (some data)) := by
      rw [exec_complete_writeBack awaiting phase h, recordWritten_of_other other, Bool.or_false, effect]
    have length : (outcomeBytes o).length = 5 := (outcomeBytes_layout o).1
    refine ⟨fun awaiting read one => ⟨?_, fun b other => ?_, fails awaiting (.inl rfl)⟩,
      fun awaiting write => ⟨?_, fails awaiting (.inr (.inl rfl))⟩, fun awaiting write => ⟨?_, fails awaiting (.inr (.inr rfl))⟩⟩
    · have effect := State.writeBackEffect_outcomeCheck (u := { s with port := none }) queued 2#8
      rw [if_pos rfl] at effect
      rw [completes awaiting (by nofun) (data := [2#8]) (.inr one.symm) (x := s) effect, phase, ← length]
      simp only [State.writeBackNext, State.cluster_enterPhase, queued, byteAt_eq_taken_iff, if_true]
      rfl
    · have effect := State.writeBackEffect_outcomeCheck (u := { s with port := none }) queued b
      rw [if_neg other] at effect
      by_cases final : b = if o.code = .ok then 3#8 else 4#8
      · rw [if_pos final] at effect
        rw [decide_eq_true final]
        refine ⟨_, completes awaiting (by nofun) (data := [b]) (.inr one.symm)
          (x := (s.on fun w => w.outcomeLeaves o.slot).notify .directive) effect, ?_⟩
        rw [State.writeBackNext_of_dropped (find_dropOutcome ..)]
        exact State.goesOnWith_of_idle _ _ _
      · rw [if_neg final] at effect
        rw [decide_eq_false final]
        refine ⟨_, completes awaiting (by nofun) (data := [b]) (.inr one.symm) (x := s.on fun w => w.outcomeLeaves o.slot) effect, ?_⟩
        rw [State.writeBackNext_of_dropped (find_dropOutcome ..)]
        exact State.goesOnWith_of_idle _ _ _
    · rw [completes awaiting (by nofun) (data := []) (.inl write) (x := s) rfl, phase]
      simp only [State.writeBackNext, State.cluster_enterPhase, queued, OutcomeCode.finalByte]
      rfl
    · exact ⟨_, completes awaiting (by nofun) (data := []) (.inl write)
        (x := (s.on fun w => w.outcomeLeaves o.slot).notify .directive) rfl, State.goesOnWith_of_idle _ _ _⟩

/-! ## The sweep -/

/-- Settles O31: the begin and the first present carrier. -/
theorem sweepBegins : Obligations.SweepBegins := by
  intro s
  have begins : exec .sweepBegin s = .next (if s.sweepMayBegin then s.beginSweep else s) := rfl
  have may : s.sweepMayBegin = true ↔ s.timer.sweepPending = true ∧ s.pass = none ∧ s.runState = .running := by
    simp [State.sweepMayBegin, and_assoc]
  refine ⟨fun c pending free running present first => ?_, fun bars => ?_⟩
  · rw [begins, if_pos (may.mpr ⟨pending, free, running⟩)]
    have next : s.cluster.nextPresent 0 = some c := Cluster.nextPresent_eq_some (Nat.zero_le _) present fun d _ hd => first d hd
    exact congrArg Host.Outcome.next (State.gatherFrom_of_present next)
  · rw [begins, if_neg (mt may.mp bars)]

/-- An empty queue with nothing due: one cycle of the reference passes (log 24). -/
theorem step_of_nothingDue {s : State} (empty : s.pending = []) (idle : s.NothingDue) :
    step s = .next s.accessCycle.clockCycle.timerCycle := by
  have none := s.nothingDue_iff.mp idle
  simp only [step, empty, idleStep, none]
  rfl

/-- Settles O32: the cycles in turn, and the expiry by run state. -/
theorem expiryTable : Obligations.ExpiryTable := by
  refine ⟨fun s empty idle => ?_, fun s => ?_⟩
  · exact ⟨_, _, _, step_of_nothingDue empty idle, s.accessCycle_cycled, State.clockCycle_cycled _, State.timerCycle_cycled _⟩
  · have expires : exec .sweepTimerExpiry s = .next s.expire := rfl
    refine ⟨fun halted => ?_, fun running unpending => ?_, fun counts => ?_, fun waits free => ?_⟩
    · simp [expires, State.expire, halted]
    · simp [expires, State.expire, running, unpending]
    · rcases counts with ⟨running, pending⟩ | ⟨waits, busy⟩
      · simp [expires, State.expire, running, pending, State.countOverrun, bump]
      · have busy : s.pass.isSome = true := Option.isSome_iff_ne_none.mpr busy
        rcases waits with run | run <;> simp [expires, State.expire, run, busy, State.countOverrun, bump]
    · refine ⟨_, expires, ?_⟩
      have begins := State.beginWriteBack_beginsWriteBack { s with timer := { s.timer with downCount := s.policy.reload } }
        (s.newPass false)
      have expired : s.expire =
          ({ s with timer := { s.timer with downCount := s.policy.reload } } : State).beginWriteBack (s.newPass false) := by
        rcases waits with run | run <;> rw [State.expire, run] <;> exact if_neg (by simp [free])
      exact expired ▸ begins

end Sys2Proof.Machine
end

section
/-! Load arithmetic, records and the fields that are read (chapters 3 and 12). -/

namespace Sys2Proof.Machine

/-! ## Smoothing comes to rest -/

theorem repeat_succ_start {α : Type} (f : α → α) (n : Nat) (a : α) : Nat.repeat f (n + 1) a = Nat.repeat f n (f a) := by
  induction n with
  | zero => rfl
  | succ n ih => exact congrArg f ih

theorem repeat_of_fixed {α : Type} {f : α → α} {a : α} (h : f a = a) (n : Nat) : Nat.repeat f n a = a := by
  induction n with
  | zero => rfl
  | succ n ih => exact (congrArg f ih).trans h

theorem smooth_of_rest {k load target : Nat} (h : smoothStep k (loadDistance load target) = 0) : smooth k load target = load := by
  rw [smooth_eq, h]
  split <;> rfl

/-- A step takes L nearer to the target by its own size. -/
theorem loadDistance_smooth (k load target : Nat) :
    loadDistance (smooth k load target) target = loadDistance load target - smoothStep k (loadDistance load target) := by
  have bound := smoothStep_le k (loadDistance load target)
  rw [smooth_eq]
  rcases Nat.lt_or_ge target load with falls | rises
  · rw [loadDistance_of_lt falls] at bound ⊢
    rw [if_neg (Nat.not_le.mpr falls), loadDistance]
    split <;> omega
  · rw [loadDistance_of_le rises] at bound ⊢
    rw [if_pos rises, loadDistance]
    split <;> omega

/-- From some step on L does not move, by induction on the distance. -/
theorem smooth_rests (k target load : Nat) :
    ∃ rest n, (∀ j, n ≤ j → Nat.repeat (fun x => smooth k x target) j load = rest) ∧
      smoothStep k (loadDistance rest target) = 0 := by
  induction hm : loadDistance load target using Nat.strongRecOn generalizing load with
  | ind m ih =>
    by_cases still : smoothStep k (loadDistance load target) = 0
    · exact ⟨load, 0, fun j _ => repeat_of_fixed (f := fun x => smooth k x target) (smooth_of_rest still) j, still⟩
    · have bound := smoothStep_le k (loadDistance load target)
      have nearer := loadDistance_smooth k load target
      obtain ⟨rest, n, rests, still'⟩ := ih _ (by omega) (smooth k load target) rfl
      refine ⟨rest, n + 1, fun j hj => ?_, still'⟩
      obtain ⟨i, rfl⟩ : ∃ i, j = i + 1 := ⟨j - 1, by omega⟩
      rw [repeat_succ_start]
      exact rests i (by omega)

/-- Settles O23: at rest the step is 0, which bounds the distance. -/
theorem smoothingRests : Obligations.SmoothingRests := by
  intro k load target _ _ _
  obtain ⟨rest, n, rests, still⟩ := smooth_rests k target load
  have near (m : Nat) (h : loadDistance rest target ≤ m) : rest ≤ target + m ∧ target ≤ rest + m := by
    rw [loadDistance] at h
    split at h <;> omega
  refine ⟨rest, ⟨n, rests⟩, fun zero => ?_, fun positive => near _ ?_⟩
  · rw [zero, smoothStep_zero] at still
    have := near 0 (Nat.le_of_eq still)
    omega
  · have := (smoothStep_eq_zero_iff positive _).mp still
    omega

/-! ## Utilisation and absorbed load -/

/-- Settles O24: the quotient of a rounded division. -/
theorem utilisationRounds : Obligations.UtilisationRounds := by
  refine ⟨fun u capacity least most => ⟨fun fits => ?_, fun full => ?_, fun exceeds => ?_⟩, by decide⟩
  · have positive : 0 < capacity := by omega
    rw [utilisation, if_pos fits]
    have low := Nat.div_mul_le_self (u * 1000 + capacity / 2) capacity
    have high := Nat.lt_div_mul_add (a := u * 1000 + capacity / 2) positive
    have top : (u * 1000 + capacity / 2) / capacity < 1001 := by
      rw [Nat.div_lt_iff_lt_mul positive]
      omega
    generalize (u * 1000 + capacity / 2) / capacity = q at low high top
    refine ⟨rfl, by show q ≤ 1000; omega, ?_, ?_⟩
    · show 2 * capacity * q ≤ _
      have : 2 * capacity * q = 2 * (q * capacity) := by rw [Nat.mul_assoc, Nat.mul_comm capacity]
      omega
    · show _ < 2 * capacity * (q + 1)
      have : 2 * capacity * (q + 1) = 2 * (q * capacity + capacity) := by rw [Nat.mul_assoc, Nat.mul_comm capacity, Nat.add_mul, Nat.one_mul]
      omega
  · rw [utilisation, if_pos (Nat.le_of_eq full), full]
    show (capacity * 1000 + capacity / 2) / capacity = 1000
    rw [Nat.div_eq_iff (by omega)]
    omega
  · rw [utilisation, if_neg (Nat.not_le.mpr exceeds)]

/-- The least number of parts that hold n. -/
theorem le_ceilDiv_mul {d : Nat} (hd : 0 < d) (n : Nat) : n ≤ ceilDiv n d * d := by
  have := Nat.lt_div_mul_add (a := n + d - 1) hd
  rw [ceilDiv]
  omega

theorem ceilDiv_le_iff {d : Nat} (hd : 0 < d) (n m : Nat) : ceilDiv n d ≤ m ↔ n ≤ m * d := by
  rw [ceilDiv, Nat.div_le_iff_le_mul hd]
  omega

/-- Saturating each addition gives the saturated sum (R57). -/
theorem saturated_fold (es : List Entry) (load a : Nat) :
    min 65535 (es.foldl (fun acc e => min 65535 (acc + e.absorbed)) (min 65535 load) + a) =
      min 65535 (load + (es.map Entry.absorbed).sum + a) := by
  induction es generalizing load with
  | nil =>
    simp only [List.foldl_nil, List.map_nil, List.sum_nil]
    omega
  | cons e es ih =>
    have first : min 65535 (min 65535 load + e.absorbed) = min 65535 (load + e.absorbed) := by omega
    rw [List.foldl_cons, first, ih, List.map_cons, List.sum_cons, Nat.add_assoc load]

/-- Settles O25: the absorbed load is a rounded-up quotient, and the projection a sum exceeds the counted entries. -/
theorem absorbedLoadAndProjection : Obligations.AbsorbedLoadAndProjection := by
  refine ⟨fun cand cover _ _ least => ?_, fun cover es a => ⟨rfl, ?_, fun e phase => ?_⟩⟩
  · have positive : 0 < cover.cfg.capacity := by omega
    generalize hm : cand.load * cand.cfg.capacity = moved
    have absorbed : absorbedLoad cand cover = min 65535 (ceilDiv moved cover.cfg.capacity) := by rw [absorbedLoad, hm]
    rw [absorbed]
    refine ⟨Nat.min_le_left _ _, fun fits => ?_, fun exceeds => ?_, fun zero => ?_⟩
    · rw [Nat.min_eq_right ((ceilDiv_le_iff positive _ _).mpr fits)]
      exact ⟨le_ceilDiv_mul positive moved, fun n hn => (ceilDiv_le_iff positive _ _).mpr hn⟩
    · have above := mt (ceilDiv_le_iff positive moved 65535).mp (Nat.not_le.mpr exceeds)
      omega
    · have none : moved = 0 := by rw [← hm, zero, Nat.zero_mul]
      have := (ceilDiv_le_iff positive moved 0).mpr (by omega)
      omega
  · exact (saturated_fold _ cover.load a).symm
  · have uncounted : e.counted = false := by rcases phase with h | h <;> simp [Entry.counted, h]
    simp [projection, countedLoad, List.filter_append, uncounted]

end Sys2Proof.Machine
end

section
/-! The records that the part writes and the fields that it reads, byte by byte (sections 12.2 to 12.6). -/

namespace Sys2Proof.Machine

/-! ## Fields of a record -/

theorem zeros_length (n : Nat) : (zeros n).length = n := List.length_replicate ..

/-! ## Codes -/

theorem CarrierState.code_lt (st : CarrierState) : st.code < 12 := by cases st <;> decide

theorem LoadClass.code_lt (k : LoadClass) : k.code < 4 := by cases k <;> decide

theorem reasonCode_lt (r : Option Reason) : reasonCode r < 13 := by
  cases r with
  | none => decide
  | some r => cases r <;> decide

theorem refusalCode_lt (r : Option RefusalCode) : refusalCode r < 13 := by
  cases r with
  | none => decide
  | some r => cases r <;> decide

theorem causeCode_lt (r : Option FaultCause) : causeCode r < 6 := by
  cases r with
  | none => decide
  | some r => cases r <;> decide

theorem strayCode_lt (r : Option StrayStep) : strayCode r < 3 := by
  cases r with
  | none => decide
  | some r => cases r <;> decide

theorem Depth.code_lt (d : Depth) : d.code < 3 := by cases d <;> decide

/-! ## The mirror record -/

theorem byteAt_stackBytes (es : List Entry) {q : Nat} (hq : q < 8) :
    byteAt (stackBytes es) q = match es[q]? with | some e => e.carrier.val | none => 0 := by
  have taken : byteAt (stackBytes es) q = byteAt (es.map (fun e => BitVec.ofNat 8 e.carrier.val) ++ zeros 8) q := by
    simp [byteAt, stackBytes, hq]
  rw [taken, byteAt_append, List.length_map]
  split
  · next h =>
    simp [byteAt, h]
  · next h => rw [byteAt_zeros, List.getElem?_eq_none (Nat.le_of_not_lt h)]

/-- The flag bits and the two fields above them (section 12.6). -/
theorem flag_bits (reserved declined unordered overflow : Bool) (stray : Fin 3) (held : Bool) (depth : Fin 3) :
    (let flags := reserved.toNat + 2 * declined.toNat + 4 * unordered.toNat + 8 * overflow.toNat + 16 * stray.val
       + 64 * held.toNat + 128 * depth.val
     flags < 65536 ∧ flags.testBit 0 = reserved ∧ flags.testBit 1 = declined ∧ flags.testBit 2 = unordered ∧
       flags.testBit 3 = overflow ∧ flags / 16 % 4 = stray.val ∧ flags.testBit 6 = held ∧ flags / 128 = depth.val) := by
  revert reserved declined unordered overflow stray held depth
  decide

/-- The depth in a mirror record: that of the carrier's entry. -/
def Cluster.depthCode (w : Cluster) (c : Carrier) : Nat :=
  match w.entryOf c with
  | some e => e.depth.code
  | none => 0

theorem Cluster.depthCode_lt (w : Cluster) (c : Carrier) : w.depthCode c < 3 := by
  unfold Cluster.depthCode
  split
  · exact Depth.code_lt _
  · decide

theorem mirrorFlags_bits (w : Cluster) (c : Carrier) :
    (let x := w.ctx c
     let flags := mirrorFlags w c
     flags < 65536 ∧ flags.testBit 0 = x.reserved ∧ flags.testBit 1 = x.deepenDeclined ∧ flags.testBit 2 = x.unorderedNow ∧
       flags.testBit 3 = x.overflowSeen ∧ flags / 16 % 4 = strayCode x.strayStep ∧
       flags.testBit 6 = decide (x.holdLeft ≠ 0) ∧ flags / 128 = w.depthCode c) :=
  flag_bits _ _ _ _ ⟨strayCode (w.ctx c).strayStep, strayCode_lt _⟩ (decide ((w.ctx c).holdLeft ≠ 0))
    ⟨w.depthCode c, w.depthCode_lt c⟩

theorem coverCode_lt (k : Option Carrier) : coverCode k < 65536 := by
  rcases k with - | k
  · decide
  · exact Nat.lt_trans k.isLt (by decide)

section
variable (w : Cluster) (c : Carrier) (edition : Nat)

/-- Reads a field of a record at its offset: the parts before it are passed by their lengths. -/
theorem mirrorRecord_fields (fits : (w.stack c).length ≤ 8) :
    (let r := mirrorRecord w c edition
     let x := w.ctx c
     (byteAt r 0x00 = edition % 256 ∧ byteAt r 0x01 = x.state.code ∧ byteAt r 0x02 = x.cls.code ∧
       byteAt r 0x03 = (w.stack c).length ∧ le16 r 0x04 = x.load % 65536 ∧ le16 r 0x06 = coverCode x.cfg.cover) ∧
     (∀ q : Nat, q < 8 → byteAt r (0x08 + q) = byteAt (stackBytes (w.stack c)) q) ∧
     (le16 r 0x10 = mirrorFlags w c ∧ byteAt r 0x12 = x.sleepsTonight % 256 ∧ byteAt r 0x13 = reasonCode x.lastReason ∧
       byteAt r 0x14 = refusalCode x.lastRefusal ∧ byteAt r 0x15 = causeCode x.cause ∧ le16 r 0x16 = x.lightMinutes % 65536 ∧
       le16 r 0x18 = x.darkMinutes % 65536 ∧ byteAt r 0x1A = x.holdLeft % 256 ∧ byteAt r 0x1B = x.resleepLeft % 256 ∧
       byteAt r 0x1C = x.age % 256 ∧ byteAt r 0x1D = 0 ∧ byteAt r 0x1E = 0 ∧ byteAt r 0x1F = 0)) := by
  have state := (w.ctx c).state.code_lt
  have cls := (w.ctx c).cls.code_lt
  have cover := coverCode_lt (w.ctx c).cfg.cover
  have flags := (mirrorFlags_bits w c).1
  have reason := reasonCode_lt (w.ctx c).lastReason
  have refusal := refusalCode_lt (w.ctx c).lastRefusal
  have cause := causeCode_lt (w.ctx c).cause
  unfold mirrorRecord
  refine ⟨?_, fun q hq => ?_, ?_⟩
  · simp [byteAt_append, le16, byteAt_leBytes, leBytes_length]
    omega
  · have each : q = 0 ∨ q = 1 ∨ q = 2 ∨ q = 3 ∨ q = 4 ∨ q = 5 ∨ q = 6 ∨ q = 7 := by omega
    rcases each with rfl | rfl | rfl | rfl | rfl | rfl | rfl | rfl
    all_goals simp [byteAt_append, leBytes_length, stackBytes_length]
  · simp [byteAt_append, le16, byteAt_leBytes, byteAt_zeros, leBytes_length, stackBytes_length]
    omega

end

/-- The header's fields (section 12.2). -/
theorem headerBytes_fields (s : State) :
    (let r := headerBytes s
     (byteAt r 0x00 = 0x01 ∧ byteAt r 0x01 = 0x0C ∧ byteAt r 0x02 = 0 ∧ byteAt r 0x03 = 0 ∧ byteAt r 0x04 = s.runState.code ∧
       byteAt r 0x05 = s.failsafe.toNat ∧ byteAt r 0x06 = s.starvation % 256 ∧ byteAt r 0x07 = s.clock.valid.toNat) ∧
     (le16 r 0x08 + 65536 * le16 r 0x0A = s.sweepCount % 4294967296 ∧ le16 r 0x0C = s.editionWord % 65536 ∧
       le16 r 0x0E = 0 ∧ le16 r 0x10 + 65536 * le16 r 0x12 = s.fleetTally % 4294967296) ∧
     (le16 r 0x14 = s.torn % 65536 ∧ le16 r 0x16 = s.late % 65536 ∧ le16 r 0x18 = s.overruns % 65536 ∧
       le16 r 0x1A = s.memErrors % 65536) ∧
     (byteAt r 0x1C = s.clock.seconds % 256 ∧ byteAt r 0x1D = s.clock.minutes % 256 ∧ byteAt r 0x1E = s.clock.hours % 256 ∧
       byteAt r 0x1F = s.clock.weekday % 256 ∧ le16 r 0x20 = s.clock.day % 65536) ∧
     ∀ q : Nat, 0x22 ≤ q → byteAt r q = 0) := by
  have run := s.runState.code_lt
  have failsafe : s.failsafe.toNat < 2 := Bool.toNat_lt _
  have valid : s.clock.valid.toNat < 2 := Bool.toNat_lt _
  unfold headerBytes
  refine ⟨?_, ?_, ?_, ?_, fun q hq => ?_⟩
  · simp [byteAt_append, byteAt_leBytes, leBytes_length]
    omega
  · simp [byteAt_append, le16, byteAt_leBytes, byteAt_zeros, leBytes_length, zeros_length]
    omega
  · simp [byteAt_append, le16, byteAt_leBytes, leBytes_length, zeros_length]
    omega
  · simp [byteAt_append, le16, byteAt_leBytes, leBytes_length, zeros_length]
    omega
  · rw [byteAt_append_right (by simp [leBytes_length, zeros_length]; omega), byteAt_zeros]

/-- Settles O26: the fields of both records, and the codes. -/
theorem recordLayouts : Obligations.RecordLayouts := by
  refine ⟨⟨rfl, rfl, rfl, rfl, rfl, rfl, rfl⟩, fun w c edition fits => ?_, fun s => ?_⟩
  · obtain ⟨⟨h0, h1, h2, h3, h4, h6⟩, stack, h10, h12, h13, h14, h15, h16, h18, h1A, h1B, h1C, h1D, h1E, h1F⟩ :=
      mirrorRecord_fields w c edition fits
    obtain ⟨_, bit0, bit1, bit2, bit3, stray, bit6, depth⟩ := mirrorFlags_bits w c
    refine ⟨mirrorRecord_length w c edition, h0, h1, h2, h3, h4, h6.trans ?_, fun q hq e he => ?_, fun q above hq => ?_, ?_⟩
    · cases (w.ctx c).cfg.cover <;> rfl
    · rw [stack q (by omega), byteAt_stackBytes _ (by omega), he]
    · rw [stack q hq, byteAt_stackBytes _ hq, List.getElem?_eq_none above]
    · rw [h10]
      exact ⟨bit0, bit1, bit2, bit3, stray, bit6, depth, h12, h13, h14, h15, h16, h18, h1A, h1B, h1C, h1D, h1E, h1F⟩
  · obtain ⟨⟨h0, h1, h2, h3, h4, h5, h6, h7⟩, ⟨h8, hC, hE, h10⟩, ⟨h14, h16, h18, h1A⟩, ⟨h1C, h1D, h1E, h1F, h20⟩, rest⟩ :=
      headerBytes_fields s
    refine ⟨headerBytes_length s, h0, h1, h2, h3, h4.trans ?_, h5, h6, h7, h8, hC, hE, h10, h14, h16, h18, h1A, h1C, h1D, h1E,
      h1F, h20, rest⟩
    cases s.runState <;> rfl

end Sys2Proof.Machine
end

section
/-! How the fields that the part reads are held (sections 2.1, 9.3, 10.1 and 12.3 to 12.5). -/

namespace Sys2Proof.Machine

/-- A setting of which 0 is held as 1. -/
theorem max_one_eq (v : Nat) : max 1 v = if v = 0 then 1 else v := by split <;> omega

theorem clamp_one_eq {hi : Nat} (h : 1 ≤ hi) (v : Nat) : clamp 1 hi v = min hi (if v = 0 then 1 else v) := by
  rw [clamp]
  split <;> omega

theorem parseWindowNo_eq_some_iff {v : Nat} {n : WindowNo} : parseWindowNo v = some n ↔ v = n.val := by
  unfold parseWindowNo
  split
  · next h => rw [Option.some.injEq, Fin.ext_iff]
  · next h =>
    have := n.isLt
    simp only [reduceCtorEq, false_iff]
    omega

/-- A cover is held where the field names a carrier other than the row's own (R20). -/
theorem parseCover_eq_some_iff {c k : Carrier} {v : Nat} : parseCover c v = some k ↔ v = k.val ∧ k ≠ c := by
  unfold parseCover
  split
  · split
    · next own =>
      simp only [reduceCtorEq, false_iff, not_and, Classical.not_not]
      exact fun h => Fin.ext (h.symm.trans own)
    · next h other =>
      rw [Option.some.injEq, Fin.ext_iff]
      exact ⟨fun e => ⟨e, fun own => other (e.trans (congrArg Fin.val own))⟩, fun e => e.1⟩
  · have := k.isLt
    simp only [reduceCtorEq, false_iff, not_and]
    omega

theorem parseMatch_held (b : List Byte) (i : Nat) :
    (∀ d : Nat, d < 7 → (parseMatch b i).mask.getLsbD d = (byteAt b i).testBit d) ∧
      (parseMatch b i).hour = (if byteAt b (i + 1) = 0xFF then none else some (min 23 (byteAt b (i + 1)))) ∧
        (parseMatch b i).minute = (if byteAt b (i + 2) = 0xFF then none else some (min 59 (byteAt b (i + 2)))) := by
  refine ⟨fun d hd => ?_, rfl, rfl⟩
  rw [parseMatch, BitVec.getLsbD_ofNat, decide_eq_true hd, Bool.true_and]

/-- Which carriers a slot selects, bit by bit (R169). -/
theorem DirectiveRun.selects_iff (d : DirectiveRun) (c : Carrier) (st : CarrierState) :
    d.selects c st = true ↔
      (∀ i : Nat, i < 8 → d.mask.getLsbD i = false → c.val.testBit i = d.base.getLsbD i) ∧ d.stateMask.getLsbD st.code = true := by
  rw [DirectiveRun.selects, Bool.and_eq_true, beq_iff_eq]
  refine and_congr_left' ?_
  have bits (i : Nat) (hi : i < 8) : ((BitVec.ofNat 8 c.val ^^^ d.base) &&& ~~~d.mask).getLsbD i =
      ((c.val.testBit i ^^ d.base.getLsbD i) && !d.mask.getLsbD i) := by simp [hi]
  constructor
  · intro h i hi unmasked
    have bit := bits i hi
    rw [h, unmasked] at bit
    simpa using bit.symm
  · intro h
    refine BitVec.eq_of_getLsbD_eq fun i hi => ?_
    rw [bits i hi]
    cases unmasked : d.mask.getLsbD i
    · simp [h i hi unmasked]
    · simp

/-- Settles O30: each field as it is parsed. -/
theorem fieldsHeld : Obligations.FieldsHeld := by
  refine ⟨fun c b => ?_, fun b => ?_, fun b n => ?_, fun n b => ?_⟩
  · exact ⟨bne_iff_ne, rfl, decide_eq_true_iff, rfl, fun _ => parseWindowNo_eq_some_iff, fun _ => parseCover_eq_some_iff, rfl, rfl, rfl,
      rfl, max_one_eq _, max_one_eq _, rfl, rfl, rfl, rfl, rfl, rfl⟩
  · exact ⟨max_one_eq _, rfl, clamp_one_eq (by decide) _, max_one_eq _, rfl, bne_iff_ne, clamp_one_eq (by decide) _, max_one_eq _, rfl,
      clamp_one_eq (by decide) _, max_one_eq _, max_one_eq _, max_one_eq _, max_one_eq _, max_one_eq _, max_one_eq _,
      max_one_eq _, max_one_eq _, max_one_eq _⟩
  · have entry : (parseWindows b)[n] = parseWindow b n := by simp [parseWindows]
    rw [entry]
    exact ⟨bne_iff_ne, parseMatch_held .., parseMatch_held .., parseMatch_held ..⟩
  · have state (i : Nat) (hi : i < 16) : (parseSlot n b).stateMask.getLsbD i = (byteAt b 3 + 256 * byteAt b 4).testBit i := by
      show (BitVec.ofNat 16 (le16 b 3)).getLsbD i = _
      rw [BitVec.getLsbD_ofNat, decide_eq_true hi, Bool.true_and, le16]
    refine ⟨rfl, ?_, fun i => ⟨rfl, rfl⟩, state, fun i => ?_, fun c st => ?_, rfl, rfl, rfl, rfl, rfl, rfl, rfl⟩
    · show directiveKindOf (byteAt b 0) = _
      unfold directiveKindOf
      rfl
    · simp [DirectiveRun.param, parseSlot, byteAt]
    · rw [DirectiveRun.selects_iff, state st.code (Nat.lt_trans st.code_lt (by decide))]
      rfl

end Sys2Proof.Machine
end

section
/-! Start-up: its reads, the windows applied, and the configuring event (sections 2.2, 9.5 and 11.2). -/

namespace Sys2Proof.Machine

/-! ## A want that joins -/

/-- The want of a carrier that has just been asked. -/
theorem Cluster.wantOf_joinWant_self {w : Cluster} {c : Carrier} (h : w.Unasked c) (command : RadioCommand) (wait attempt : Nat) :
    (w.joinWant c command wait attempt).wantOf c =
      some { carrier := c, command, seq := (w.lane (siteOf c)).joinCounter, wait, attempt } := by
  have none := h.1
  rw [Cluster.joinWant_of_unasked w command wait attempt h]
  unfold Cluster.wantOf at none ⊢
  rw [Cluster.lane_setLane_self, Lane.joined, List.find?_append, none]
  simp

theorem Cluster.wantOf_want_self {w : Cluster} {c : Carrier} (h : w.Unasked c) (command : RadioCommand) :
    (w.want c command).wantOf c =
      some { carrier := c, command, seq := (w.lane (siteOf c)).joinCounter, wait := 0, attempt := 1 } :=
  Cluster.wantOf_joinWant_self h command 0 1

/-! ## Windows applied -/

/-- A window with its new entry: the phase stays where it is enabled before and after (R165). -/
def Window.settled (old : Window) (e : WindowEntry) : Window :=
  { entry := e, phase := if old.entry.enabled = true ∧ e.enabled = true then old.phase else .closed }

theorem State.window_settleWindow (s : State) (new : Vector WindowEntry 8) (n m : WindowNo) :
    (s.settleWindow new n).window m = if n = m then (s.window m).settled new[m] else s.window m := by
  have set (w : Window) : (s.windows.set n w)[m] = if n = m then w else s.window m := by
    simp [State.window, Vector.getElem_set, Fin.ext_iff]
  unfold State.settleWindow
  dsimp only
  split
  · next enabled =>
    refine (set _).trans (ite_congr rfl (fun same => ?_) fun _ => rfl)
    subst same
    rw [Window.settled, if_pos (Bool.and_eq_true_iff.mp enabled)]
  · next disabled =>
    have phase (r : State) (h : r.windows = s.windows.set n { entry := new[n], phase := .closed }) :
        r.window m = if n = m then (s.window m).settled new[m] else s.window m := by
      rw [State.window, h]
      refine (set _).trans (ite_congr rfl (fun same => ?_) fun _ => rfl)
      subst same
      rw [Window.settled, if_neg (by simpa using disabled)]
    split <;> exact phase _ rfl

/-- Every window takes its new entry, in whatever order. -/
theorem State.window_applyWindows (s : State) (new : Vector WindowEntry 8) (order : List WindowNo) (n : WindowNo) :
    (s.applyWindows new order).window n = (s.window n).settled new[n] := by
  have settled (ns : List WindowNo) (nodup : ns.Nodup) (r : State) :
      (ns.foldl (fun v m => v.settleWindow new m) r).window n =
        if n ∈ ns then (r.window n).settled new[n] else r.window n := by
    induction ns generalizing r with
    | nil => rfl
    | cons m ns ih =>
      obtain ⟨away, nodup⟩ := List.nodup_cons.mp nodup
      rw [List.foldl_cons, ih nodup, State.window_settleWindow]
      by_cases same : m = n
      · subst same
        simp [away]
      · simp [same, Ne.symm same]
  rw [State.applyWindows, settled _ (completeWindows_nodup order), if_pos (mem_completeWindows order n)]

theorem Cluster.holdsEntry_of_unstacked {w : Cluster} (h : ∀ k, w.stack k = []) (c : Carrier) : w.holdsEntry c = false := by
  have none : w.hostOf c = none := (w.hostOf_none c).mpr fun k => by simp [Cluster.standsOn, h k]
  rw [Cluster.holdsEntry, none, Option.isSome_none]

theorem Cluster.closeEffects_of_unstacked {w : Cluster} (h : ∀ k, w.stack k = []) (n : WindowNo) : w.closeEffects n = w := by
  have none : ((w.bound n).filter fun c => w.holdsEntry c) = [] :=
    List.filter_eq_nil_iff.mpr fun c _ => by simp [Cluster.holdsEntry_of_unstacked h c]
  rw [Cluster.closeEffects, none]
  rfl

/-- With every stack empty the windows that close have nothing to turn back. -/
theorem State.applyWindows_of_unstacked {s : State} (h : ∀ k, s.stack k = []) (new : Vector WindowEntry 8) (order : List WindowNo) :
    s.applyWindows new order = { s with windows := (s.applyWindows new order).windows } := by
  have settles (n : WindowNo) (r : State) (g : ∀ k, r.stack k = []) :
      r.settleWindow new n = { r with windows := (r.settleWindow new n).windows } := by
    unfold State.settleWindow
    dsimp only
    split
    · rfl
    · split
      · have same : r.cluster.closeEffects n = r.cluster := Cluster.closeEffects_of_unstacked g n
        simp only [State.on, same]
      · rfl
  unfold State.applyWindows
  refine List.foldlRecOn (motive := fun v : State => v = { s with windows := v.windows }) _ _ rfl fun v g n _ => ?_
  refine (settles n v fun k => ?_).trans ?_
  · rw [g]
    exact h k
  · exact congrArg (fun r : State => { r with windows := (v.settleWindow new n).windows }) g

/-! ## The configuring event -/

section
variable {w : Cluster}

theorem Cluster.configureRow_of_absent {r : Carrier × CarrierRow} (h : ¬(r.2.present = true ∧ r.2.capacityOk = true)) :
    w.configureRow r = w := if_neg (by simpa using h)

theorem Cluster.configureRow_of_present {r : Carrier × CarrierRow} (h : r.2.present = true ∧ r.2.capacityOk = true) :
    w.configureRow r = w.makePresent r.1 r.2.cfg := if_pos (by simpa using h)

/-- A row says nothing of another carrier. -/
theorem Cluster.configureRow_ne {r : Carrier × CarrierRow} {c : Carrier} (h : r.1 ≠ c) :
    (w.configureRow r).ctx c = w.ctx c ∧ (w.configureRow r).wantOf c = w.wantOf c := by
  by_cases fits : r.2.present = true ∧ r.2.capacityOk = true
  · rw [Cluster.configureRow_of_present fits, Cluster.makePresent]
    exact ⟨by rw [Cluster.ctx_want, Cluster.ctx_setCtx_ne _ h], by rw [Cluster.wantOf_want_ne _ h]; rfl⟩
  · rw [Cluster.configureRow_of_absent fits]
    exact ⟨rfl, rfl⟩

theorem Cluster.configureRow_only (r : Carrier × CarrierRow) :
    w.configureRow r = { w with contexts := (w.configureRow r).contexts, lanes := (w.configureRow r).lanes } ∧
      ∀ i, ((w.configureRow r).lane i).outstanding = (w.lane i).outstanding := by
  by_cases fits : r.2.present = true ∧ r.2.capacityOk = true
  · rw [Cluster.configureRow_of_present fits, Cluster.makePresent]
    obtain ⟨only, sent, _⟩ := (w.setCtx r.1 ((w.ctx r.1).becomePresent r.2.cfg)).joinWant_spec r.1 .query 0 1
    refine ⟨?_, sent⟩
    unfold Cluster.want
    generalize (w.setCtx r.1 ((w.ctx r.1).becomePresent r.2.cfg)).joinWant r.1 .query 0 1 = v at only
    rw [only]
    rfl
  · rw [Cluster.configureRow_of_absent fits]
    exact ⟨rfl, fun _ => rfl⟩

/-- The rows are taken in turn; each says what becomes of its own carrier. -/
theorem Cluster.configureRows_spec (rs : List (Carrier × CarrierRow)) (nodup : (rs.map Prod.fst).Nodup) :
    ∀ w : Cluster,
      (∀ c, c ∉ rs.map Prod.fst →
        (rs.foldl Cluster.configureRow w).ctx c = w.ctx c ∧ (rs.foldl Cluster.configureRow w).wantOf c = w.wantOf c) ∧
      ∀ r ∈ rs, (∀ i, (w.lane i).outstanding = none) → w.wantOf r.1 = none →
        (r.2.present = true ∧ r.2.capacityOk = true →
          (rs.foldl Cluster.configureRow w).ctx r.1 = (w.ctx r.1).becomePresent r.2.cfg ∧
            ∃ x, (rs.foldl Cluster.configureRow w).wantOf r.1 = some x ∧ x.command = .query ∧ x.wait = 0 ∧ x.attempt = 1) ∧
        (¬(r.2.present = true ∧ r.2.capacityOk = true) →
          (rs.foldl Cluster.configureRow w).ctx r.1 = w.ctx r.1 ∧ (rs.foldl Cluster.configureRow w).wantOf r.1 = none) := by
  induction rs with
  | nil => exact fun w => ⟨fun _ _ => ⟨rfl, rfl⟩, fun r hr => nomatch hr⟩
  | cons q rs ih =>
    intro w
    obtain ⟨away, nodup⟩ := List.nodup_cons.mp nodup
    obtain ⟨others, taken⟩ := ih nodup (w.configureRow q)
    simp only [List.foldl_cons, List.map_cons, List.mem_cons, not_or]
    refine ⟨fun c hc => ?_, fun r hr idle unasked => ?_⟩
    · obtain ⟨ctx, want⟩ := others c hc.2
      obtain ⟨ctx', want'⟩ := w.configureRow_ne (r := q) (Ne.symm hc.1)
      exact ⟨ctx.trans ctx', want.trans want'⟩
    · rcases hr with rfl | hr
      · obtain ⟨ctx, want⟩ := others r.1 away
        refine ⟨fun fits => ?_, fun fits => ?_⟩
        · rw [Cluster.configureRow_of_present fits, Cluster.makePresent] at ctx want ⊢
          have free : (w.setCtx r.1 ((w.ctx r.1).becomePresent r.2.cfg)).Unasked r.1 :=
            ⟨unasked, by simp [Cluster.isOutstanding, idle]⟩
          rw [Cluster.ctx_want, Cluster.ctx_setCtx_self] at ctx
          rw [Cluster.wantOf_want_self free] at want
          exact ⟨ctx, _, want, rfl, rfl, rfl⟩
        · rw [Cluster.configureRow_of_absent fits] at ctx want ⊢
          exact ⟨ctx, want.trans unasked⟩
      · have other : q.1 ≠ r.1 := fun e => away (e ▸ List.mem_map_of_mem hr)
        obtain ⟨ctx, want⟩ := w.configureRow_ne (r := q) other
        have sent := (w.configureRow_only q).2
        obtain ⟨fits, skips⟩ := taken r hr (fun i => (sent i).trans (idle i)) (want.trans unasked)
        rw [ctx] at fits skips
        exact ⟨fits, skips⟩

theorem Cluster.configure_only (w : Cluster) (rows : List CarrierRow) :
    w.configure rows = { w with contexts := (w.configure rows).contexts, lanes := (w.configure rows).lanes } := by
  have taken : ((carriers.zip rows).foldl Cluster.configureRow { w with contexts := w.contexts.map Context.atHalt }) =
      { w with
        contexts := ((carriers.zip rows).foldl Cluster.configureRow { w with contexts := w.contexts.map Context.atHalt }).contexts
        lanes := ((carriers.zip rows).foldl Cluster.configureRow { w with contexts := w.contexts.map Context.atHalt }).lanes } := by
    refine List.foldlRecOn (motive := fun v : Cluster => v = { w with contexts := v.contexts, lanes := v.lanes }) _ _ rfl
      fun v g r _ => ?_
    refine (v.configureRow_only r).1.trans ?_
    exact congrArg (fun u : Cluster => { u with contexts := (v.configureRow r).contexts, lanes := (v.configureRow r).lanes }) g
  exact congrArg Cluster.markAllDirty taken

/-- The row of a carrier in the list of all rows. -/
theorem mem_zip_carriers {rows : List CarrierRow} {c : Carrier} {row : CarrierRow} (h : rows[c.val]? = some row) :
    (c, row) ∈ carriers.zip rows := by
  refine List.mem_iff_getElem?.mpr ⟨c.val, ?_⟩
  rw [List.getElem?_zip_eq_some]
  exact ⟨by simp [carriers], h⟩

theorem map_fst_zip_sublist {α β : Type} (xs : List α) (ys : List β) : ((xs.zip ys).map Prod.fst).Sublist xs := by
  induction xs generalizing ys with
  | nil => exact .slnil
  | cons x xs ih =>
    cases ys with
    | nil => exact List.nil_sublist _
    | cons y ys => exact (ih ys).cons_cons x

theorem nodup_zip_carriers (rows : List CarrierRow) : ((carriers.zip rows).map Prod.fst).Nodup :=
  (map_fst_zip_sublist carriers rows).nodup (List.nodup_finRange 256)

/-- What start-up's configuring event makes of a carrier (R182). -/
theorem Cluster.configure_spec (idle : ∀ i, (w.lane i).outstanding = none ∧ (w.lane i).queue = []) {rows : List CarrierRow}
    {c : Carrier} {row : CarrierRow} (h : rows[c.val]? = some row) :
    (row.present = true ∧ row.capacityOk = true →
      (w.configure rows).ctx c = { State.reset.ctx c with
        cfg := row.cfg, state := .unknown, dirty := true, edition := (w.ctx c).edition } ∧
      ∃ x, (w.configure rows).wantOf c = some x ∧ x.command = .query ∧ x.wait = 0 ∧ x.attempt = 1) ∧
    (¬(row.present = true ∧ row.capacityOk = true) →
      (w.configure rows).ctx c = { State.reset.ctx c with dirty := true, edition := (w.ctx c).edition } ∧
        (w.configure rows).wantOf c = none) := by
  have halted : ({ w with contexts := w.contexts.map Context.atHalt } : Cluster).ctx c = (w.ctx c).atHalt := by simp [Cluster.ctx]
  have unasked : ({ w with contexts := w.contexts.map Context.atHalt } : Cluster).wantOf c = none := by
    have empty := (idle (siteOf c)).2
    unfold Cluster.wantOf
    exact (congrArg (List.find? _) empty).trans rfl
  obtain ⟨fits, skips⟩ := (Cluster.configureRows_spec _ (nodup_zip_carriers rows) { w with contexts := w.contexts.map Context.atHalt }).2
    _ (mem_zip_carriers h) (fun i => (idle i).1) unasked
  rw [State.ctx_reset, Cluster.configure, Cluster.ctx_markAllDirty]
  refine ⟨fun present => ?_, fun absent => ?_⟩
  · obtain ⟨ctx, want⟩ := fits present
    rw [ctx, halted]
    exact ⟨rfl, want⟩
  · obtain ⟨ctx, want⟩ := skips absent
    rw [ctx, halted]
    exact ⟨rfl, want⟩

end

/-! ## Start-up -/

theorem exec_complete_startup {s : State} {u : Startup} {a : Access} {purpose : Purpose} {data : List Byte} (pass : s.pass = none)
    (startup : s.startup = some u) (port : s.port = some a) (length : data.length = a.length) (made : a.purpose = purpose) :
    exec (.memoryAccessComplete a.number data) s = .next (({ s with port := none } : State).startupRead u purpose data) := by
  rw [exec_memoryAccessComplete port (.inr length), State.accessCompleted, made]
  exact congrArg Host.Outcome.next (State.accessEnded_of_startup (u := { s with port := none }) pass startup purpose (some data))

/-- Settles O29: the reads in turn, the windows, and the configuring event. -/
theorem startupConfigures : Obligations.StartupConfigures := by
  intro s u a data pass startup port _ length
  refine ⟨fun made => ?_, fun q made bare => ?_, fun c d made next => ?_, fun made all idle => ?_⟩
  · exact exec_complete_startup pass startup port length made
  · have ended := exec_complete_startup pass startup port length made
    have applied := State.applyWindows_of_unstacked (s := { s with port := none, policy := q }) bare (parseWindows data) windowNos
    have windows := State.window_applyWindows { s with port := none, policy := q } (parseWindows data) windowNos
    generalize hr : State.applyWindows { s with port := none, policy := q } (parseWindows data) windowNos = r at applied windows
    refine ⟨{ s with policy := q, windows := r.windows }, ended.trans ?_, windows, rfl⟩
    have read : ({ s with port := none } : State).startupRead u (.startupWindows q) data =
        r.read u.base (rowOffset 0) 32 (.startupRow 0) := by rw [← hr]; rfl
    rw [read, applied]
    rfl
  · rw [exec_complete_startup pass startup port length made, State.startupRead]
    have inside : c.val + 1 < 256 := next ▸ d.isLt
    obtain rfl : d = ⟨c.val + 1, inside⟩ := Fin.ext next.symm
    rw [dif_pos inside]
    rfl
  · have ended := exec_complete_startup pass startup port length made
    rw [State.startupRead, dif_neg (by decide)] at ended
    refine ⟨_, ended, ?_, fun i => ?_, fun c row h => Cluster.configure_spec idle h⟩
    · exact congrArg (fun w : Cluster => ({ s with
          runState := .running
          startup := none
          port := none
          timer := { tick := 0, prescaler := 0, hundred := 0, downCount := s.policy.reload, sweepPending := true }
          cluster := w } : State)) (Cluster.configure_only s.cluster _)
    · exact ((Cluster.sameSent_configure s.cluster _).1.outstanding i).trans (idle i).1

end Sys2Proof.Machine
end

section
/-! The civil clock, the phases of the windows, and the countdowns and accounting of a minute (sections 2.6, 9.1 to 9.4 and
11.5). -/

namespace Sys2Proof.Machine

/-! ## The civil clock -/

/-- The second of the day. -/
def Clock.daySecond (k : Clock) : Nat := k.seconds + 60 * k.minutes + 3600 * k.hours

/-- One second of a clock in range: the carry through minutes, hours, weekday and day number (R153). -/
theorem Clock.second_spec {k : Clock} (seconds : k.seconds ≤ 59) (minutes : k.minutes ≤ 59) (hours : k.hours ≤ 23)
    (weekday : k.weekday ≤ 6) :
    (let n := k.second
     n.valid = k.valid ∧ n.sub = 0 ∧ n.seconds ≤ 59 ∧ n.minutes ≤ 59 ∧ n.hours ≤ 23 ∧ n.weekday ≤ 6 ∧
     n.daySecond + 86400 * n.weekday = (k.daySecond + 86400 * k.weekday + 1) % 604800 ∧
     n.day = (if k.daySecond = 86399 then (k.day + 1) % 65536 else k.day) ∧
     (k.seconds = 59 → n.seconds = 0)) := by
  unfold Clock.second Clock.daySecond
  dsimp only
  split
  · rw [if_neg (by omega)]
    refine ⟨rfl, rfl, ?_, minutes, hours, weekday, ?_, rfl, ?_⟩ <;> dsimp only <;> omega
  · split
    · rw [if_neg (by omega)]
      refine ⟨rfl, rfl, ?_, ?_, hours, weekday, ?_, rfl, ?_⟩ <;> dsimp only <;> omega
    · split
      · rw [if_neg (by omega)]
        refine ⟨rfl, rfl, ?_, ?_, ?_, weekday, ?_, rfl, ?_⟩ <;> dsimp only <;> omega
      · by_cases last : k.weekday < 6
        · rw [if_pos last, if_pos (by omega)]
          refine ⟨rfl, rfl, ?_, ?_, ?_, ?_, ?_, rfl, ?_⟩ <;> dsimp only <;> omega
        · rw [if_neg last, if_pos (by omega)]
          refine ⟨rfl, rfl, ?_, ?_, ?_, ?_, ?_, rfl, ?_⟩ <;> dsimp only <;> omega

/-- Settles O53, by the carries of a second. -/
theorem civilSecond : Obligations.CivilSecond := by
  intro s
  have ticks : exec .civilClockSecond s = .next s.clockSecond := rfl
  refine ⟨fun invalid => ?_, fun valid seconds minutes hours weekday => ?_⟩
  · rw [ticks, State.clockSecond, invalid]
    rfl
  · rw [State.clockSecond, if_pos valid] at ticks
    obtain ⟨kept, sub, s', m', h', w', sum, day, carried⟩ := Clock.second_spec seconds minutes hours weekday
    refine ⟨_, ticks, kept.trans valid, sub, s', m', h', w', sum, day, ?_⟩
    by_cases carries : s.clock.seconds = 59
    · have carry : s.clock.carries = true := decide_eq_true (Nat.le_of_eq carries.symm)
      have stamp : s.clock.second.stamp =
          { seconds := 0, minutes := s.clock.second.minutes, hours := s.clock.second.hours,
            weekday := s.clock.second.weekday, day := s.clock.second.day } := by
        rw [Clock.stamp, carried carries]
      simp only [carry, carries, stamp, if_true]
    · have carry : s.clock.carries = false := decide_eq_false (by omega)
      simp only [carry, carries, Bool.false_eq_true, if_false]

/-! ## The windows at a minute -/

theorem Window.fires_iff (w : Window) (x : WindowMatch) (m : MinuteStamp) :
    (w.entry.enabled && x.fires m) = true ↔ w.Fires x m := by
  obtain ⟨_, hour, minute⟩ := x
  cases hour <;> cases minute <;> simp [WindowMatch.fires, fieldFits, Window.Fires, and_assoc]

/-- The phase after CLOSE, OPEN and DEEP_STOP have been evaluated in turn, each where its match fires (R160). -/
def WindowPhase.after (ph : WindowPhase) (closes opens stops : Bool) : WindowPhase :=
  let first := if closes then .closed else ph
  let second := if opens && first == .closed then .opened else first
  if stops && second == .opened then .shallow else second

/-- A window after a minute event. -/
def Window.evaluated (w : Window) (m : MinuteStamp) : Window :=
  { w with
    phase := w.phase.after (w.entry.enabled && w.entry.closeAt.fires m) (w.entry.enabled && w.entry.openAt.fires m)
      (w.entry.enabled && w.entry.deepStopAt.fires m) }

theorem State.window_evalWindow (s : State) (m : MinuteStamp) (n n' : WindowNo) :
    (s.evalWindow m n).window n' = if n = n' then (s.window n').evaluated m else s.window n' := by
  have choose (b : Bool) (q r : State) : (if b then q else r).window n' = if b then q.window n' else r.window n' := by
    cases b <;> rfl
  have same (b : Bool) (q r : State) : (if b then q else r).window n = if b then q.window n else r.window n := by
    cases b <;> rfl
  unfold State.evalWindow
  simp only [State.window_shallowFollowUp, choose, same, State.window_deepStopMatch, State.window_openMatch,
    State.window_closeMatch]
  by_cases h : n = n'
  · subst h
    simp only [if_true, true_and, Window.evaluated]
    generalize ((s.window n).entry.enabled && (s.window n).entry.closeAt.fires m) = closes
    generalize ((s.window n).entry.enabled && (s.window n).entry.openAt.fires m) = opens
    generalize ((s.window n).entry.enabled && (s.window n).entry.deepStopAt.fires m) = stops
    generalize s.window n = w
    obtain ⟨entry, phase⟩ := w
    cases closes <;> cases opens <;> cases stops <;> cases phase <;> rfl
  · simp [h]

theorem State.window_minutePart_other (s : State) (m : MinuteStamp) {part : MinutePart} {n : WindowNo} (h : part ≠ .window n) :
    (s.minutePart m part).window n = s.window n := by
  cases part with
  | window k => exact (s.window_evalWindow m k n).trans (if_neg fun e => h (congrArg MinutePart.window e))
  | countdown =>
    simp only [State.minutePart]
    split <;> rfl
  | accounting =>
    simp only [State.minutePart]
    generalize min tallyTop (s.fleetTally + s.cluster.saving) = tally
    split <;> rfl

/-- Each window is evaluated once. -/
theorem State.window_minuteParts (m : MinuteStamp) (parts : List MinutePart) (nodup : parts.Nodup) (s : State) (n : WindowNo) :
    (parts.foldl (fun v p => v.minutePart m p) s).window n =
      if .window n ∈ parts then (s.window n).evaluated m else s.window n := by
  induction parts generalizing s with
  | nil => rfl
  | cons part parts ih =>
    obtain ⟨away, nodup⟩ := List.nodup_cons.mp nodup
    rw [List.foldl_cons, ih nodup]
    by_cases h : part = .window n
    · subst h
      rw [if_neg away, if_pos List.mem_cons_self]
      exact (s.window_evalWindow m n n).trans (if_pos rfl)
    · rw [s.window_minutePart_other m h]
      simp [List.mem_cons, Ne.symm h]

/-- Nothing but the tally, the windows and the cluster is touched. -/
def State.OnlyMinute (s t : State) : Prop := t = { s with fleetTally := t.fleetTally, windows := t.windows, cluster := t.cluster }

theorem State.OnlyMinute.trans {s u t : State} (h : s.OnlyMinute u) (g : u.OnlyMinute t) : s.OnlyMinute t := by
  unfold State.OnlyMinute at *
  rw [g, h]

theorem State.onlyMinute_evalWindow (s : State) (m : MinuteStamp) (n : WindowNo) : s.OnlyMinute (s.evalWindow m n) := by
  have closes (r : State) : r.OnlyMinute (r.closeMatch n) := by unfold State.closeMatch; split <;> rfl
  have opens (r : State) : r.OnlyMinute (r.openMatch n) := by unfold State.openMatch; split <;> rfl
  have stops (r : State) : r.OnlyMinute (r.deepStopMatch n) := by unfold State.deepStopMatch; split <;> rfl
  have follows (r : State) : r.OnlyMinute (r.shallowFollowUp n) := by unfold State.shallowFollowUp; split <;> rfl
  have branch {b : Bool} {q r : State} (h : r.OnlyMinute q) : r.OnlyMinute (if b then q else r) := by
    cases b
    · rfl
    · exact h
  unfold State.evalWindow
  exact (branch (closes s)).trans ((branch (opens _)).trans ((branch (stops _)).trans (follows _)))

theorem State.onlyMinute_minutePart (s : State) (m : MinuteStamp) (part : MinutePart) : s.OnlyMinute (s.minutePart m part) := by
  cases part with
  | window n => exact s.onlyMinute_evalWindow m n
  | countdown =>
    simp only [State.minutePart]
    split <;> rfl
  | accounting =>
    simp only [State.minutePart]
    generalize min tallyTop (s.fleetTally + s.cluster.saving) = tally
    split <;> rfl

theorem State.onlyMinute_minuteParts (m : MinuteStamp) (parts : List MinutePart) (s : State) :
    s.OnlyMinute (parts.foldl (fun v p => v.minutePart m p) s) := by
  induction parts generalizing s with
  | nil => rfl
  | cons part parts ih => exact (s.onlyMinute_minutePart m part).trans (ih _)

theorem exec_minuteEvent {s : State} {m : MinuteStamp} {ts : List MinuteStamp} (due : s.minutesDue = m :: ts)
    (order : List MinutePart) :
    exec (.minuteEvent order) s =
      .next ((((completeParts order).foldl (fun (v : State) p => v.minutePart m p) { s with minutesDue := ts }).notify .minute).testReleasingEnd) := by
  simp [exec, execMinuteEvent, due, State.takeMinute]

/-- Settles O54: every window is evaluated once, whatever the order. -/
theorem minuteWindows : Obligations.MinuteWindows := by
  refine fun s order => ⟨fun none => by simp [exec, execMinuteEvent, none], fun m ts due => ?_⟩
  have only := State.onlyMinute_minuteParts m (completeParts order) { s with minutesDue := ts }
  have windows (n : WindowNo) := State.window_minuteParts m _ (completeParts_nodup order) { s with minutesDue := ts } n
  generalize hu : (completeParts order).foldl (fun v p => v.minutePart m p) { s with minutesDue := ts } = u at only windows
  refine ⟨(u.notify .minute).testReleasingEnd, hu ▸ exec_minuteEvent due order, ?_, ?_, ?_, fun n => ?_⟩
  · rw [State.minutesDue_testReleasingEnd]
    show u.minutesDue = ts
    exact Eq.trans (congrArg State.minutesDue only) rfl
  · rw [State.clock_testReleasingEnd]
    show u.clock = s.clock
    exact Eq.trans (congrArg State.clock only) rfl
  · rw [State.cluster_testReleasingEnd]
    exact (Notice.isIn_raiseIn ..).trans rfl
  · have window : ((u.notify .minute).testReleasingEnd).window n = (s.window n).evaluated m := by
      rw [State.window, State.windows_testReleasingEnd]
      exact (windows n).trans (if_pos (mem_completeParts order _))
    rw [window]
    refine ⟨rfl, ?_⟩
    have fires (x : WindowMatch) : decide ((s.window n).Fires x m) = ((s.window n).entry.enabled && x.fires m) := by
      rw [Bool.eq_iff_iff, decide_eq_true_iff, Window.fires_iff]
    simp only [fires, Window.evaluated]
    generalize ((s.window n).entry.enabled && (s.window n).entry.closeAt.fires m) = closes
    generalize ((s.window n).entry.enabled && (s.window n).entry.openAt.fires m) = opens
    generalize ((s.window n).entry.enabled && (s.window n).entry.deepStopAt.fires m) = stops
    cases (s.window n).phase <;> cases closes <;> cases opens <;> cases stops <;> rfl

/-! ## Countdowns and accounting -/

section
variable {x : Context}

theorem Context.countDown_of_present (present : x.cfg.present = true) :
    x.countDown = { x with
      holdLeft := if 1 ≤ x.holdLeft ∧ x.holdLeft ≤ 254 then x.holdLeft - 1 else x.holdLeft
      resleepLeft := if x.resleepLeft = 0 then 0 else x.resleepLeft - 1
      lightRun := if x.state = .light then min 255 (x.lightRun + 1) else x.lightRun } := by
  have hold : (if 1 ≤ x.holdLeft ∧ x.holdLeft ≤ 254 then x.holdLeft - 1 else x.holdLeft) =
      if x.holdLeft ≤ 254 then x.holdLeft - 1 else x.holdLeft := by split <;> split <;> omega
  have resleep : (if x.resleepLeft = 0 then 0 else x.resleepLeft - 1) = x.resleepLeft - 1 := by split <;> omega
  rw [Context.countDown, if_pos present, hold, resleep]
  rfl

theorem Context.account_of_present (present : x.cfg.present = true) :
    x.account = { x with
      lightMinutes := if x.state = .light ∨ x.state = .deepening then min 65535 (x.lightMinutes + 1) else x.lightMinutes
      darkMinutes := if x.state = .dark ∨ x.state = .warming then min 65535 (x.darkMinutes + 1) else x.darkMinutes } := by
  obtain ⟨_, state⟩ := x
  rw [Context.account, if_pos present]
  cases state <;> rfl

theorem Context.edit_of_absent (absent : x.cfg.present = false) :
    x.edit Context.countDown = x ∧ x.edit Context.account = x := by
  simp [Context.edit, Context.countDown, Context.account, absent]

/-- The countdowns of a present context, with the dirty mark. -/
theorem Context.edit_countDown_of_present (present : x.cfg.present = true) :
    x.edit Context.countDown = { x.countDown with
      dirty := x.dirty || decide (x.countDown.holdLeft ≠ x.holdLeft ∨ x.countDown.resleepLeft ≠ x.resleepLeft) } := by
  rw [Context.edit, Context.countDown_of_present present]
  simp [Context.view, Decidable.imp_iff_not_or]

/-- The accounting of a present context, with the dirty mark. -/
theorem Context.edit_account_of_present (present : x.cfg.present = true) :
    x.edit Context.account = { x.account with
      dirty := x.dirty || decide (x.account.lightMinutes ≠ x.lightMinutes ∨ x.account.darkMinutes ≠ x.darkMinutes) } := by
  rw [Context.edit, Context.account_of_present present]
  simp [Context.view, Decidable.imp_iff_not_or]

/-- The countdowns and the accounting write apart, so that their order does not matter. -/
theorem Context.edit_account_comm (x : Context) :
    (x.edit Context.account).edit Context.countDown = (x.edit Context.countDown).edit Context.account := by
  cases present : x.cfg.present
  · rw [(Context.edit_of_absent present).1, (Context.edit_of_absent present).2, (Context.edit_of_absent present).1]
  · have accounted : (x.edit Context.account).cfg.present = true := by
      rw [Context.edit, Context.account_of_present present]
      exact present
    have counted : (x.edit Context.countDown).cfg.present = true := by
      rw [Context.edit, Context.countDown_of_present present]
      exact present
    rw [Context.edit_countDown_of_present accounted, Context.edit_account_of_present counted,
      Context.countDown_of_present accounted, Context.account_of_present counted, Context.edit_countDown_of_present present,
      Context.edit_account_of_present present, Context.countDown_of_present present, Context.account_of_present present]
    simp only [Bool.or_assoc, Bool.or_comm, Bool.or_left_comm]

theorem Context.saving_edit_countDown (x : Context) : (x.edit Context.countDown).saving = x.saving := by
  cases present : x.cfg.present
  · rw [(Context.edit_of_absent present).1]
  · rw [Context.edit, Context.countDown_of_present present]
    rfl

theorem Context.saving_eq (x : Context) :
    x.saving = if x.cfg.present = false then 0
      else if x.state = .light ∨ x.state = .deepening then x.cfg.lightSaving
      else if x.state = .dark ∨ x.state = .warming then x.cfg.darkSaving
      else 0 := by
  unfold Context.saving
  cases x.cfg.present <;> cases x.state <;> rfl

end

/-- The countdowns and the accounting of a context, each where its part is among those taken. -/
def Context.inMinute (counts accounts : Bool) (x : Context) : Context :=
  let y := if counts then x.edit Context.countDown else x
  if accounts then y.edit Context.account else y

theorem Context.inMinute_of_present {x : Context} (present : x.cfg.present = true) :
    (let y := x.inMinute true true
     y = { x with
       holdLeft := if 1 ≤ x.holdLeft ∧ x.holdLeft ≤ 254 then x.holdLeft - 1 else x.holdLeft
       resleepLeft := if x.resleepLeft = 0 then 0 else x.resleepLeft - 1
       lightRun := if x.state = .light then min 255 (x.lightRun + 1) else x.lightRun
       lightMinutes := if x.state = .light ∨ x.state = .deepening then min 65535 (x.lightMinutes + 1) else x.lightMinutes
       darkMinutes := if x.state = .dark ∨ x.state = .warming then min 65535 (x.darkMinutes + 1) else x.darkMinutes
       dirty := y.dirty } ∧
     (y.dirty = true ↔ x.dirty = true ∨ y.holdLeft ≠ x.holdLeft ∨ y.resleepLeft ≠ x.resleepLeft ∨
       y.lightMinutes ≠ x.lightMinutes ∨ y.darkMinutes ≠ x.darkMinutes)) := by
  have counted : (x.edit Context.countDown).cfg.present = true := by
    rw [Context.edit, Context.countDown_of_present present]
    exact present
  simp only [Context.inMinute, if_true]
  rw [Context.edit_account_of_present counted, Context.account_of_present counted, Context.edit_countDown_of_present present,
    Context.countDown_of_present present]
  refine ⟨rfl, ?_⟩
  simp only [Bool.or_eq_true, decide_eq_true_iff, or_assoc]

theorem Context.state_inMinute (counts accounts : Bool) (x : Context) : (x.inMinute counts accounts).state = x.state := by
  have count (z : Context) : (z.edit Context.countDown).state = z.state := by
    simp only [Context.edit, Context.countDown]
    split <;> rfl
  have account (z : Context) : (z.edit Context.account).state = z.state := by
    simp only [Context.edit, Context.account]
    split
    · split <;> rfl
    · rfl
  match counts, accounts with
  | false, false => rfl
  | false, true => exact account x
  | true, false => exact count x
  | true, true => exact (account _).trans (count x)

/-- Nothing but the tally and the contexts is touched. -/
def State.OnlyNight (s t : State) : Prop :=
  t = { s with fleetTally := t.fleetTally, cluster := { s.cluster with contexts := t.cluster.contexts } }

/-- The parts of a minute at which no window acts, in any order. -/
theorem State.quietParts (m : MinuteStamp) (parts : List MinutePart) (nodup : parts.Nodup) (s : State)
    (running : s.runState ≠ .halted) (rests : ∀ n : WindowNo, ¬(s.window n).Acts m) :
    (let t := parts.foldl (fun (v : State) p => v.minutePart m p) s
     s.OnlyNight t ∧
     (∀ c, t.ctx c = (s.ctx c).inMinute (decide (.countdown ∈ parts)) (decide (.accounting ∈ parts))) ∧
     t.fleetTally = if .accounting ∈ parts then min tallyTop (s.fleetTally + s.cluster.saving) else s.fleetTally) := by
  induction parts generalizing s with
  | nil => exact ⟨rfl, fun _ => rfl, rfl⟩
  | cons part parts ih =>
    obtain ⟨away, rest⟩ := List.nodup_cons.mp nodup
    rw [List.foldl_cons]
    cases part with
    | window n =>
      have idle : s.minutePart m (.window n) = s := State.evalWindow_rests (rests n)
      rw [idle]
      simpa using ih rest s running rests
    | countdown =>
      have counted : s.minutePart m .countdown = s.on fun w => w.editAll Context.countDown := if_neg running
      obtain ⟨only, ctx, tally⟩ := ih rest (s.on fun w => w.editAll Context.countDown) running rests
      have saving : (s.cluster.editAll Context.countDown).saving = s.cluster.saving := by
        simp only [Cluster.saving, Cluster.ctx_editAll, Context.saving_edit_countDown]
      rw [counted]
      refine ⟨by unfold State.OnlyNight at *; rw [only]; rfl, fun c => (ctx c).trans ?_, tally.trans ?_⟩
      · simp [away, Context.inMinute, State.ctx, State.on]
      · simp only [State.on, saving]
        simp
    | accounting =>
      have accounted : s.minutePart m .accounting =
          { s with fleetTally := min tallyTop (s.fleetTally + s.cluster.saving) }.on fun w => w.editAll Context.account :=
        if_neg running
      rw [accounted]
      generalize min tallyTop (s.fleetTally + s.cluster.saving) = sum
      obtain ⟨only, ctx, tally⟩ := ih rest ({ s with fleetTally := sum }.on fun w => w.editAll Context.account) running rests
      refine ⟨by unfold State.OnlyNight at *; rw [only]; rfl, fun c => (ctx c).trans ?_, tally.trans ?_⟩
      · by_cases counts : MinutePart.countdown ∈ parts
        · simp [away, counts, Context.inMinute, State.ctx, State.on, Context.edit_account_comm]
        · simp [away, counts, Context.inMinute, State.ctx, State.on]
      · rw [if_neg away]
        simp [State.on]

/-- In HALTED neither countdowns nor accounting are made. -/
theorem State.haltedParts (m : MinuteStamp) (parts : List MinutePart) (s : State) (halted : s.runState = .halted)
    (rests : ∀ n : WindowNo, ¬(s.window n).Acts m) : parts.foldl (fun (v : State) p => v.minutePart m p) s = s := by
  induction parts with
  | nil => rfl
  | cons part parts ih =>
    have rest : s.minutePart m part = s := by
      cases part with
      | window n => exact State.evalWindow_rests (rests n)
      | countdown => exact if_pos halted
      | accounting => exact if_pos halted
    rw [List.foldl_cons, rest, ih]

/-- Settles O56: with no window acting, the countdowns and the accounting are all there is. -/
theorem quietMinute : Obligations.QuietMinute := by
  intro s order m ts due rests
  refine ⟨fun halted => ?_, fun running => ?_⟩
  · refine (exec_minuteEvent due order).trans (congrArg _ ?_)
    rw [State.haltedParts m _ { s with minutesDue := ts } halted rests, State.testReleasingEnd_eq]
    exact congrArg (fun r => ({ s with
      minutesDue := ts
      runState := r
      cluster := { s.cluster with note := Notice.minute.raiseIn s.cluster.note } } : State))
      (if_neg fun h => by simp [State.notify, State.on, halted] at h)
  · obtain ⟨only, ctx, tally⟩ := State.quietParts m _ (completeParts_nodup order) { s with minutesDue := ts } running rests
    simp only [mem_completeParts, decide_true, if_true] at ctx tally
    have done := exec_minuteEvent due order
    generalize (completeParts order).foldl (fun (v : State) p => v.minutePart m p) { s with minutesDue := ts } = u at *
    refine ⟨_, done, fun c => ?_, ?_, ?_⟩
    · have y : ((u.notify .minute).testReleasingEnd).ctx c = (s.ctx c).inMinute true true := by
        rw [State.ctx, State.cluster_testReleasingEnd]
        exact ctx c
      rw [y]
      refine ⟨fun absent => ?_, fun present => ?_⟩
      · simp [Context.inMinute, Context.edit_of_absent absent]
      · exact Context.inMinute_of_present present
    · rw [State.fleetTally_testReleasingEnd]
      refine tally.trans ?_
      simp only [Cluster.saving, Context.saving_eq, tallyTop, carriers]
      rfl
    · have quiet : (u.notify .minute).cluster.Quiet ↔ s.cluster.Quiet := by
        refine forall_congr' fun c => ?_
        have state : ((u.notify .minute).cluster.ctx c).state = (s.cluster.ctx c).state :=
          (congrArg Context.state (ctx c)).trans (Context.state_inMinute ..)
        have stack : (u.notify .minute).cluster.stack c = s.cluster.stack c :=
          (congrArg (fun v : State => v.cluster.stack c) only).trans rfl
        rw [state, stack]
      obtain ⟨a, b, rfl⟩ : ∃ a b, u = { s with
          minutesDue := ts, fleetTally := a, cluster := { s.cluster with contexts := b } } := ⟨_, _, only⟩
      rw [State.testReleasingEnd_eq]
      refine congrArg (fun r => ({ s with
        minutesDue := ts
        fleetTally := a
        runState := r
        cluster := { s.cluster with contexts := b, note := Notice.minute.raiseIn s.cluster.note } } : State)) ?_
      exact ite_congr (propext (and_congr_right' quiet)) (fun _ => rfl) fun _ => rfl

end Sys2Proof.Machine
end

section
/-! The choice of a lane, the grant, and a link that comes UP (sections 7.1, 7.4, 7.5, 8.2 and 8.5). -/

namespace Sys2Proof.Machine

/-! ## The choice of a lane -/

theorem RunState.allows_iff (rs : RunState) (k : WantClass) :
    rs.allows k = true ↔ rs = .running ∨ (k ≠ .sleep ∧ (rs = .holding ∨ rs = .releasing)) := by
  cases rs <;> cases k <;> decide

/-- A class that the run state allows and that gives no pick has no eligible want. -/
theorem Lane.pick_none {l : Lane} {rs : RunState} {k : WantClass} (h : l.pick rs k = none) (allowed : rs.allows k = true) :
    ∀ x ∈ l.queue, x.wait = 0 → x.command.wantClass ≠ k :=
  Lane.oldest_none ((if_pos allowed).symm.trans h)

/-- Where SLEEP or PROBE is allowed, so is WAKE; where SLEEP is allowed, so is PROBE. -/
theorem RunState.allows_before (rs : RunState) {k : WantClass} (h : rs.allows k = true) :
    rs.allows .wake = true ∧ rs.allows .probe = true := by
  cases rs <;> cases k <;> first | exact ⟨rfl, rfl⟩ | cases h

/-- What the choice of a lane is: WAKE, else PROBE, else SLEEP. -/
theorem Lane.choose_cases {l : Lane} {rs : RunState} {x : Want} (h : l.choose rs = some x) :
    l.pick rs .wake = some x ∨ (l.pick rs .wake = none ∧ l.pick rs .probe = some x) ∨
      (l.pick rs .wake = none ∧ l.pick rs .probe = none ∧ l.pick rs .sleep = some x) := by
  unfold Lane.choose at h
  cases wake : l.pick rs .wake with
  | some y =>
    rw [wake] at h
    exact .inl h
  | none =>
    rw [wake] at h
    cases probe : l.pick rs .probe with
    | some y =>
      rw [probe] at h
      exact .inr (.inl ⟨rfl, h⟩)
    | none =>
      rw [probe] at h
      exact .inr (.inr ⟨rfl, rfl, h⟩)

theorem Lane.choose_none {l : Lane} {rs : RunState} (h : l.choose rs = none) (k : WantClass) : l.pick rs k = none := by
  unfold Lane.choose at h
  rw [Option.or_eq_none_iff, Option.or_eq_none_iff] at h
  obtain ⟨wake, probe, sleep⟩ := h
  cases k with
  | wake => exact wake
  | probe => exact probe
  | sleep => exact sleep

/-- Settles O39, by the class that gives the choice. -/
theorem laneChoice : Obligations.LaneChoice := by
  refine ⟨rfl, fun l rs => ⟨rs.allows_iff, fun none x mem wait => ?_, fun x chosen => ?_⟩⟩
  · cases allowed : rs.allows x.command.wantClass with
    | false => rfl
    | true => exact absurd rfl (Lane.pick_none (Lane.choose_none none _) allowed x mem wait)
  · have of_pick {k : WantClass} (h : l.pick rs k = some x) : x.wait = 0 ∧ rs.allows x.command.wantClass = true ∧
        x.command.wantClass = k ∧ ∃ pre post, l.queue = pre ++ x :: post ∧
          ∀ y ∈ pre, y.wait = 0 → y.command.wantClass ≠ x.command.wantClass := by
      obtain ⟨allowed, oldest⟩ := Lane.pick_spec h
      obtain ⟨wait, rfl, place⟩ := Lane.oldest_spec oldest
      exact ⟨wait, allowed, rfl, place⟩
    rcases Lane.choose_cases chosen with pick | ⟨wake, pick⟩ | ⟨wake, probe, pick⟩
    · obtain ⟨wait, allowed, cls, place⟩ := of_pick pick
      exact ⟨wait, allowed, place, fun h => absurd cls h, fun h => by rw [cls] at h; cases h⟩
    · obtain ⟨wait, allowed, cls, place⟩ := of_pick pick
      exact ⟨wait, allowed, place, fun _ => Lane.pick_none wake (rs.allows_before allowed).1,
        fun h => by rw [cls] at h; cases h⟩
    · obtain ⟨wait, allowed, cls, place⟩ := of_pick pick
      exact ⟨wait, allowed, place, fun _ => Lane.pick_none wake (rs.allows_before allowed).1,
        fun _ => Lane.pick_none probe (rs.allows_before allowed).2⟩

/-! ## The grant -/

theorem exec_laneGrant (s : State) (i : Site) : exec (.laneGrant i) s = .next (s.testGrant i) := rfl

theorem exec_wantWaitExpiry (s : State) (k : Carrier) :
    exec (.wantWaitExpiry k) s = .next (if s.cluster.waitExpired k then s.testGrant (siteOf k) else s) := rfl

theorem State.testGrant_of_some {s : State} {i : Site} {x : Want} (idle : (s.lane i).outstanding = none)
    (up : (s.channel i).up = true) (chosen : (s.lane i).choose s.runState = some x) :
    s.testGrant i = s.on fun w => w.send i x s.policy.timeouts := by
  have choice : s.cluster.grantChoice i s.runState = some x := by
    rw [Cluster.grantChoice, if_pos]
    · exact chosen
    · rw [Bool.and_eq_true]
      exact ⟨Option.isNone_iff_eq_none.mpr idle, up⟩
  rw [State.testGrant, State.on, Cluster.testGrant, choice]
  rfl

theorem State.testGrant_of_none {s : State} {i : Site}
    (h : (s.lane i).outstanding ≠ none ∨ (s.channel i).up = false ∨ (s.lane i).choose s.runState = none) :
    s.testGrant i = s := by
  have choice : s.cluster.grantChoice i s.runState = none := by
    rw [Option.eq_none_iff_forall_not_mem]
    intro x hx
    obtain ⟨idle, up, chosen⟩ := Cluster.grantChoice_spec hx
    rcases h with busy | down | none
    · exact busy idle
    · exact absurd (up.symm.trans down) (by decide)
    · exact absurd (chosen.symm.trans none) (by simp)
  rw [State.testGrant, State.on, Cluster.testGrant, choice]

theorem RadioCommand.code_lt (command : RadioCommand) : command.code < 256 := by cases command <;> decide

theorem sectorOf_lt (c : Carrier) : sectorOf c < 256 := by
  unfold sectorOf
  omega

theorem slotOf_lt (c : Carrier) : slotOf c < 256 := by
  unfold slotOf
  omega

theorem commandParameter_lt (x : Context) (command : RadioCommand) : commandParameter x command < 256 := by
  cases command with
  | shed =>
    rw [commandParameter]
    cases x.cfg.cover with
    | none => decide
    | some k => exact k.isLt
  | gate | lower | darken | warm | raise | reopen | query => exact Nat.zero_lt_succ _

/-- The command frame, byte by byte (section 12.7). -/
theorem commandFrame_spec (tag : BitVec 4) (c : Carrier) (command : RadioCommand) {parameter : Nat} (h : parameter < 256) :
    (let f := commandFrame tag c command parameter
     f.length = 6 ∧ byteSum f % 256 = 0 ∧ byteAt f 0 = tag.toNat ∧ byteAt f 1 = sectorOf c ∧ byteAt f 2 = slotOf c ∧
     byteAt f 3 = command.code ∧ byteAt f 4 = parameter) := by
  have tagLt : tag.toNat < 256 := by have := tag.isLt; omega
  refine ⟨rfl, byteSum_checked _, ?_, ?_, ?_, ?_, ?_⟩
  · simpa [commandFrame, byteAt] using tagLt
  · simpa [commandFrame, byteAt] using sectorOf_lt c
  · simpa [commandFrame, byteAt] using slotOf_lt c
  · simpa [commandFrame, byteAt] using command.code_lt
  · simpa [commandFrame, byteAt] using h

/-- The carrier at the send of a command that moves it. -/
theorem Context.edit_atSend_moves {x : Context} {command : RadioCommand} {st : CarrierState}
    (moves : sendState command x.state = st) (changed : st ≠ x.state) (known : x.state ≠ .unknown) (managed : x.state ≠ .stray) :
    x.edit (Context.atSend command) = { x with
      state := st
      sleepCount := 0
      wakeCount := 0
      lightRun := if x.state = .light then 0 else x.lightRun
      reserved := if command = .gate then false else x.reserved
      dirty := true } := by
  have at' : x.atSend command = { x with
      state := st
      sleepCount := 0
      wakeCount := 0
      lightRun := if x.state = .light then 0 else x.lightRun
      reserved := if command = .gate then false else x.reserved } := by
    have light : (x.state = .light ∧ st ≠ .light) ↔ x.state = .light := and_iff_left_of_imp fun h => h ▸ changed
    rw [Context.atSend, moves, if_neg changed]
    simp only [Context.enter, light, known, managed, false_and, if_false]
    split <;> rfl
  rw [Context.edit, at']
  have view : decide (Context.view { x with
      state := st
      sleepCount := 0
      wakeCount := 0
      lightRun := if x.state = .light then 0 else x.lightRun
      reserved := if command = .gate then false else x.reserved } ≠ x.view) = true :=
    decide_eq_true fun h => changed (congrArg MirrorView.state h)
  rw [view, Bool.or_true]

/-- The carrier at the send of a command that leaves its state. -/
theorem Context.edit_atSend_stays {x : Context} {command : RadioCommand} (stays : sendState command x.state = x.state)
    (gate : command ≠ .gate) : x.edit (Context.atSend command) = x := by
  have at' : x.atSend command = x := by rw [Context.atSend, if_pos stays, if_neg gate]
  rw [Context.edit, at']
  simp

/-- Settles O40: the grant is the send of the chosen want. -/
theorem grantSends : Obligations.GrantSends := by
  refine ⟨rfl, fun s i => ⟨fun refused => ⟨?_, ?_⟩, fun x idle up chosen => ?_⟩⟩
  · exact (exec_laneGrant s i).trans (congrArg _ (State.testGrant_of_none refused))
  · rintro k rfl
    rw [exec_wantWaitExpiry, State.testGrant_of_none refused, ite_self]
  · have granted := State.testGrant_of_some idle up chosen
    have param := commandFrame_spec (s.channel i).nextTag x.carrier x.command
      (commandParameter_lt (s.ctx x.carrier) x.command)
    refine ⟨_, (exec_laneGrant s i).trans (congrArg _ granted), ?_, ?_, ?_, ?_, ?_, ?_, ?_, ?_⟩
    · rintro k y rfl want wait
      have expired : s.cluster.waitExpired k = true := by
        rw [Cluster.waitExpired, want]
        exact beq_iff_eq.mpr wait
      rw [exec_wantWaitExpiry, expired, if_pos rfl, granted]
    · exact (Cluster.lane_send s.cluster i i x _).trans (if_pos rfl)
    · have channel := (Cluster.channel_send s.cluster i i x s.policy.timeouts).trans (if_pos rfl)
      rw [State.channel, State.cluster_on, channel]
      rfl
    · have sent : ((s.on fun w => w.send i x s.policy.timeouts).channel i).sent =
          commandFrame (s.channel i).nextTag x.carrier x.command (commandParameter (s.ctx x.carrier) x.command) :=
        congrArg Channel.sent ((Cluster.channel_send s.cluster i i x s.policy.timeouts).trans (if_pos rfl))
      obtain ⟨length, sum, tag, sector, slot, code, parameter⟩ := param
      simp only [sent]
      refine ⟨length, sum, tag, sector, slot, code, fun k shed cover => parameter.trans ?_, fun other => parameter.trans ?_⟩
      · rw [shed, commandParameter, cover]
      · cases command : x.command with
        | shed => exact absurd command other
        | gate | lower | darken | warm | raise | reopen | query => rfl
    · have ctx : (s.on fun w => w.send i x s.policy.timeouts).ctx x.carrier =
          (s.ctx x.carrier).edit (Context.atSend x.command) :=
        (Cluster.ctx_send s.cluster i x _ x.carrier).trans (if_pos rfl)
      simp only [ctx]
      have moves {command : RadioCommand} {st st' : CarrierState} (is : x.command = command) (state : (s.ctx x.carrier).state = st)
          (into : sendState command st = st') (changed : st' ≠ st) (known : st ≠ .unknown) (managed : st ≠ .stray) :=
        Context.edit_atSend_moves (x := s.ctx x.carrier) (command := x.command) (st := st') (by rw [is, state, into])
          (by rwa [state]) (by rwa [state]) (by rwa [state])
      refine ⟨fun h g => moves h g rfl (by decide) (by decide) (by decide),
        fun h g => moves h g rfl (by decide) (by decide) (by decide),
        fun h g => moves h g rfl (by decide) (by decide) (by decide),
        fun h g => moves h g rfl (by decide) (by decide) (by decide),
        fun h g => moves h g rfl (by decide) (by decide) (by decide), fun h => ?_⟩
      refine Context.edit_atSend_stays ?_ ?_
      · rcases h with h | h | h | ⟨stray, -⟩
        · rw [h]; rfl
        · rw [h]; rfl
        · rw [h]; rfl
        · rw [stray]; cases x.command <;> rfl
      · rcases h with h | h | h | ⟨-, h⟩
        · rw [h]; decide
        · rw [h]; decide
        · rw [h]; decide
        · exact h
    · intro d other
      exact (Cluster.ctx_send s.cluster i x _ d).trans (if_neg (Ne.symm other))
    · intro j other
      exact ⟨(Cluster.lane_send s.cluster i j x _).trans (if_neg (Ne.symm other)),
        (Cluster.channel_send s.cluster i j x _).trans (if_neg (Ne.symm other))⟩
    · rfl

/-! ## A link UP -/

/-- A carrier FAULTED with cause LINK whose own stack is empty. -/
abbrev Cluster.Relinks (w : Cluster) (c : Carrier) : Prop :=
  (w.ctx c).state = .faulted ∧ (w.ctx c).cause = some .link ∧ w.stack c = []

theorem Cluster.relinkIfFree_of_not {w : Cluster} {c : Carrier} (h : ¬w.Relinks c) : w.relinkIfFree c = w := if_neg h

theorem Cluster.relinkIfFree_of_relinks {w : Cluster} {c : Carrier} (h : w.Relinks c) : w.relinkIfFree c = w.relink c :=
  if_pos h

/-- A FAULTED context that enters UNKNOWN at a link UP. -/
def Context.relinked (x : Context) : Context :=
  { x with state := .unknown, cls := .absent, probeOrigin := none, sleepCount := 0, wakeCount := 0, dirty := true }

theorem Cluster.ctx_relink (w : Cluster) {c : Carrier} (faulted : (w.ctx c).state = .faulted) (d : Carrier) :
    (w.relink c).ctx d = if c = d then (w.ctx c).relinked else w.ctx d := by
  rw [Cluster.relink, Cluster.ctx_want, Cluster.ctx_editCtx]
  refine ite_congr rfl (fun _ => ?_) fun _ => rfl
  generalize w.ctx c = x at faulted
  have view : decide (({ x.enter .unknown with cls := .absent, probeOrigin := none } : Context).view ≠ x.view) = true :=
    decide_eq_true fun h => absurd (congrArg MirrorView.state h) (by simp [Context.view, Context.enter, faulted])
  rw [Context.edit, view, Bool.or_true]
  simp [Context.relinked, Context.enter, faulted]

/-- Nothing but contexts and lanes is touched. -/
def Cluster.OnlyRelinks (w v : Cluster) : Prop := v = { w with contexts := v.contexts, lanes := v.lanes }

theorem Cluster.OnlyRelinks.trans {u v w : Cluster} (h : u.OnlyRelinks v) (g : v.OnlyRelinks w) : u.OnlyRelinks w := by
  unfold Cluster.OnlyRelinks at *
  rw [g, h]

theorem Cluster.OnlyRelinks.of_setChannel {w v : Cluster} {i : Site} {h : Channel} (g : (w.setChannel i h).OnlyRelinks v) :
    v = { w with contexts := v.contexts, lanes := v.lanes, channels := v.channels } := by
  obtain ⟨a, b, rfl⟩ : ∃ a b, v = { w.setChannel i h with contexts := a, lanes := b } := ⟨_, _, g⟩
  rfl

theorem Cluster.onlyRelinks_relinkIfFree (w : Cluster) (c : Carrier) : w.OnlyRelinks (w.relinkIfFree c) := by
  unfold Cluster.relinkIfFree Cluster.relink Cluster.want Cluster.joinWant
  split
  · split <;> rfl
  · rfl

theorem Cluster.ctx_relinkIfFree_ne (w : Cluster) {c d : Carrier} (h : c ≠ d) : (w.relinkIfFree c).ctx d = w.ctx d := by
  by_cases r : w.Relinks c
  · rw [Cluster.relinkIfFree_of_relinks r, w.ctx_relink r.1, if_neg h]
  · rw [Cluster.relinkIfFree_of_not r]

theorem Cluster.relinks_relinkIfFree_ne (w : Cluster) {c d : Carrier} (h : c ≠ d) :
    (w.relinkIfFree c).Relinks d ↔ w.Relinks d := by
  have stack : (w.relinkIfFree c).stack d = w.stack d :=
    (congrArg (Cluster.stack · d) (w.onlyRelinks_relinkIfFree c)).trans rfl
  rw [Cluster.Relinks, w.ctx_relinkIfFree_ne h, stack]

/-- The context as it is when the QUERY joins. -/
theorem Cluster.exists_want_of_relink (w : Cluster) (c : Carrier) :
    ∃ x : Context, w.relink c = (w.setCtx c x).want c .query := ⟨_, rfl⟩

theorem Cluster.lane_relinkIfFree_ne (w : Cluster) {c : Carrier} {j : Site} (h : siteOf c ≠ j) :
    (w.relinkIfFree c).lane j = w.lane j := by
  by_cases r : w.Relinks c
  · obtain ⟨x, relink⟩ := w.exists_want_of_relink c
    rw [Cluster.relinkIfFree_of_relinks r, relink]
    by_cases asked : (w.isOutstanding c = true ∨ w.wants c .query = true)
    · exact (congrArg (Cluster.lane · j) ((w.setCtx c x).joinWant_eq_self 0 1 asked)).trans rfl
    · exact ((w.setCtx c x).lane_joinWant c .query 0 1 j asked).trans (if_neg h)
  · rw [Cluster.relinkIfFree_of_not r]

@[simp] theorem Cluster.isOutstanding_relinkIfFree (w : Cluster) (c d : Carrier) :
    (w.relinkIfFree c).isOutstanding d = w.isOutstanding d := by
  unfold Cluster.relinkIfFree
  split
  · exact Cluster.isOutstanding_want ..
  · rfl

theorem Cluster.wantOf_relinkIfFree_ne (w : Cluster) {c d : Carrier} (h : c ≠ d) :
    (w.relinkIfFree c).wantOf d = w.wantOf d := by
  by_cases r : w.Relinks c
  · obtain ⟨x, relink⟩ := w.exists_want_of_relink c
    rw [Cluster.relinkIfFree_of_relinks r, relink, Cluster.wantOf_want_ne _ h]
    rfl
  · rw [Cluster.relinkIfFree_of_not r]

theorem Cluster.wants_relinkIfFree_self (w : Cluster) {c : Carrier} (h : w.Relinks c) (free : w.isOutstanding c = false) :
    (w.relinkIfFree c).wants c .query = true := by
  obtain ⟨x, relink⟩ := w.exists_want_of_relink c
  rw [Cluster.relinkIfFree_of_relinks h, relink]
  exact (w.setCtx c x).wants_joinWant_self free .query 0 1

/-- The relinks of a list of carriers of one site, each of which is reached once. -/
theorem Cluster.relinkAll_spec {i : Site} (cs : List Carrier) (nodup : cs.Nodup) (site : ∀ c ∈ cs, siteOf c = i) (w : Cluster) :
    (let v := cs.foldl Cluster.relinkIfFree w
     w.OnlyRelinks v ∧
     (∀ c ∈ cs, w.Relinks c → v.ctx c = (w.ctx c).relinked ∧ (w.isOutstanding c = false → v.wants c .query = true)) ∧
     (∀ c, ¬(c ∈ cs ∧ w.Relinks c) → v.ctx c = w.ctx c) ∧
     (∀ c, c ∉ cs → v.wantOf c = w.wantOf c) ∧
     (∀ j, j ≠ i → v.lane j = w.lane j)) := by
  induction cs generalizing w with
  | nil => exact ⟨rfl, fun c h => absurd h List.not_mem_nil, fun _ _ => rfl, fun _ _ => rfl, fun _ _ => rfl⟩
  | cons c cs ih =>
    obtain ⟨away, rest⟩ := List.nodup_cons.mp nodup
    obtain ⟨only, own, ctx, others, lanes⟩ := ih rest (fun d h => site d (List.mem_cons_of_mem _ h)) (w.relinkIfFree c)
    refine ⟨(w.onlyRelinks_relinkIfFree c).trans only, fun d mem relinks => ?_, fun d stays => ?_, fun d out => ?_,
      fun j other => (lanes j other).trans (w.lane_relinkIfFree_ne ?_)⟩
    · rcases List.mem_cons.mp mem with rfl | mem
      · refine ⟨(ctx d fun h => away h.1).trans ?_, fun free => ?_⟩
        · rw [Cluster.relinkIfFree_of_relinks relinks, w.ctx_relink relinks.1, if_pos rfl]
        · rw [Cluster.wants, List.foldl_cons, others d away]
          exact w.wants_relinkIfFree_self relinks free
      · have other : c ≠ d := fun e => away (e ▸ mem)
        obtain ⟨x, want⟩ := own d mem ((w.relinks_relinkIfFree_ne other).mpr relinks)
        exact ⟨x.trans (congrArg _ (w.ctx_relinkIfFree_ne other)),
          fun free => want ((w.isOutstanding_relinkIfFree c d).trans free)⟩
    · by_cases same : c = d
      · subst same
        rw [List.foldl_cons, ctx c fun h => away h.1,
          Cluster.relinkIfFree_of_not fun h => stays ⟨List.mem_cons_self, h⟩]
      · have left : ¬(d ∈ cs ∧ (w.relinkIfFree c).Relinks d) := fun h =>
          stays ⟨List.mem_cons_of_mem _ h.1, (w.relinks_relinkIfFree_ne same).mp h.2⟩
        exact (ctx d left).trans (w.ctx_relinkIfFree_ne same)
    · have other : c ≠ d := fun e => out (e ▸ List.mem_cons_self)
      exact (others d fun h => out (List.mem_cons_of_mem _ h)).trans (w.wantOf_relinkIfFree_ne other)
    · rw [site c List.mem_cons_self]
      exact Ne.symm other

/-- Settles O52: each returned carrier of the site is relinked once. -/
theorem linkUpQueries : Obligations.LinkUpQueries := by
  refine fun s i => ⟨fun down => ?_, fun up => ?_⟩
  · have done : exec (.linkUp i) s = .next (s.on fun w => w.linkUp i) := by
      refine congrArg Host.Outcome.next (if_neg ?_)
      rw [down]
      decide
    obtain ⟨only, own, ctx, -, lanes⟩ := Cluster.relinkAll_spec (carriersOf i) ((List.nodup_finRange 256).filter _)
      (fun c h => mem_carriersOf.mp h) (s.cluster.setChannel i { s.channel i with up := true })
    have channel (j : Site) : (s.cluster.linkUp i).channel j = if i = j then { s.channel i with up := true } else s.channel j :=
      (congrArg (Cluster.channel · j) only).trans (Cluster.channel_setChannel ..)
    refine ⟨_, done, (channel i).trans (if_pos rfl), fun c => ⟨fun relinks => ?_, fun stays => ?_⟩,
      fun j other => ⟨lanes j other, (channel j).trans (if_neg (Ne.symm other))⟩, ?_⟩
    · exact own c (mem_carriersOf.mpr relinks.1) relinks.2
    · exact ctx c fun h => stays ⟨mem_carriersOf.mp h.1, h.2⟩
    · exact congrArg (fun v : Cluster => ({ s with cluster := v } : State)) only.of_setChannel
  · exact congrArg Host.Outcome.next (if_pos up)

end Sys2Proof.Machine
end

section
/-! A wake request by the state of its carrier (sections 2.4 and 5.6). -/

namespace Sys2Proof.Machine

/-! ## Wants that join -/

theorem Cluster.lane_want_of_unasked {w : Cluster} {c : Carrier} (h : w.Unasked c) (command : RadioCommand) :
    (w.want c command).lane (siteOf c) = (w.lane (siteOf c)).joined c command 0 1 := by
  rw [Cluster.want, w.joinWant_of_unasked command 0 1 h, Cluster.lane_setLane_self]

theorem Cluster.lane_want_ne (w : Cluster) {c : Carrier} {j : Site} (h : j ≠ siteOf c) (command : RadioCommand) :
    (w.want c command).lane j = w.lane j := by
  by_cases asked : (w.isOutstanding c = true ∨ w.wants c command = true)
  · rw [Cluster.want, w.joinWant_eq_self 0 1 asked]
  · rw [Cluster.want, w.lane_joinWant c command 0 1 j asked, if_neg (Ne.symm h)]

theorem Cluster.lane_want_of_wanted {w : Cluster} {c : Carrier} {command : RadioCommand} (h : w.wants c command = true) :
    (w.want c command).lane (siteOf c) = w.lane (siteOf c) := by
  rw [Cluster.want, w.joinWant_eq_self 0 1 (.inr h)]

/-- A carrier has one want. -/
theorem Cluster.wants_eq_false {w : Cluster} {c : Carrier} {a b : RadioCommand} (h : w.wants c a = true) (other : a ≠ b) :
    w.wants c b = false := by
  unfold Cluster.wants at *
  cases want : w.wantOf c with
  | none => rfl
  | some x =>
    rw [want] at h
    have is : x.command = a := beq_iff_eq.mp h
    exact beq_eq_false_iff_ne.mpr (is ▸ other)

/-- A want of another command is replaced, at the tail. -/
theorem Cluster.lane_want_in_place {w : Cluster} {c : Carrier} {a b : RadioCommand} (free : w.isOutstanding c = false)
    (h : w.wants c a = true) (other : a ≠ b) :
    (w.want c b).lane (siteOf c) =
      ({ w.lane (siteOf c) with queue := (w.lane (siteOf c)).queue.filter fun y => y.carrier != c } : Lane).joined c b 0 1 := by
  have asked : ¬(w.isOutstanding c = true ∨ w.wants c b = true) := by simp [free, Cluster.wants_eq_false h other]
  rw [Cluster.want, w.lane_joinWant c b 0 1 _ asked, if_pos rfl, w.lane_dropWant c, if_pos rfl]
  rfl

/-! ## The parts of a wake request -/

section
variable {w : Cluster} {c k : Carrier} {e : Entry}

theorem Cluster.entryOf_of_host (host : w.hostOf c = some k) (first : (w.stack k).find? (fun x => x.carrier == c) = some e) :
    w.entryOf c = some e := by
  rw [Cluster.entryOf, host]
  exact first

theorem Cluster.holdsActive_of_entry (entry : w.entryOf c = some e) : w.holdsActive c = (e.phase != .returning) := by
  rw [Cluster.holdsActive, entry]

theorem Cluster.holdsActive_of_isReturning (h : w.isReturning c = true) : w.holdsActive c = false := by
  unfold Cluster.isReturning at h
  unfold Cluster.holdsActive
  cases entry : w.entryOf c with
  | none => rfl
  | some e =>
    rw [entry] at h
    exact (congrArg not h : _)

/-- A carrier that has recorded a wake request's reason. -/
def Context.noted (x : Context) (r : Reason) : Context := { x with lastReason := some r, dirty := true }

theorem Cluster.ctx_turnBack (w : Cluster) (c : Carrier) (r : Reason) (d : Carrier) :
    (w.turnBack c r).ctx d = if d = c then (w.ctx c).noted r else w.ctx d := by
  rw [Cluster.turnBack, Cluster.ctx_markDirty, Cluster.ctx_editCtx, if_pos rfl, Cluster.ctx_editEntry]
  by_cases h : c = d
  · subst h
    rw [if_pos rfl, if_pos rfl]
    rfl
  · rw [if_neg h, if_neg (Ne.symm h), Cluster.ctx_editCtx, if_neg h, Cluster.ctx_editEntry]

theorem Cluster.stack_turnBack (w : Cluster) (c : Carrier) (r : Reason) (d : Carrier) :
    (w.turnBack c r).stack d =
      if w.hostOf c = some d then
        (w.stack d).map fun x => if x.carrier = c then { x with phase := .returning, reason := r } else x
      else w.stack d := by
  rw [Cluster.turnBack, Cluster.stack_markDirty, Cluster.stack_editCtx, Cluster.stack_editEntry]

@[simp] theorem Cluster.lane_turnBack (w : Cluster) (c : Carrier) (r : Reason) (i : Site) :
    (w.turnBack c r).lane i = w.lane i := by
  simp [Cluster.turnBack]

@[simp] theorem Cluster.wants_turnBack (w : Cluster) (c : Carrier) (r : Reason) (d : Carrier) (command : RadioCommand) :
    (w.turnBack c r).wants d command = w.wants d command := by
  simp [Cluster.wants]

@[simp] theorem Cluster.isOutstanding_turnBack (w : Cluster) (c : Carrier) (r : Reason) (d : Carrier) :
    (w.turnBack c r).isOutstanding d = w.isOutstanding d := by
  simp [Cluster.isOutstanding]

/-- The contexts after a reservation has been cancelled. -/
theorem Cluster.ctx_cancelReservation (host : w.hostOf c = some k) (away : k ≠ c) (r : Reason) (d : Carrier) :
    (w.cancelReservation c r).ctx d =
      if d = c then { (w.ctx c).noted r with reserved := false, resleepLeft := (w.ctx c).cfg.resleepHold }
      else if d = k then
        (w.ctx k).handedOn ((w.stack k).eraseP fun x => x.carrier == c).isEmpty (w.channel (siteOf k)).up
      else w.ctx d := by
  have host' : (w.dropWant c).hostOf c = some k := host
  have removed := Cluster.ctx_removeEntry (w := w.dropWant c) host' away
  rw [Cluster.stack_removeEntry, if_pos host'] at removed
  rw [Cluster.cancelReservation, Cluster.ctx_markDirty, Cluster.ctx_editCtx, if_pos rfl, removed c, if_pos rfl]
  by_cases h : c = d
  · subst h
    rw [if_pos rfl, if_pos rfl]
    rfl
  · rw [if_neg h, if_neg (Ne.symm h), Cluster.ctx_editCtx, if_neg h, removed d, if_neg (Ne.symm h)]
    rfl

theorem Cluster.stack_cancelReservation (w : Cluster) (c : Carrier) (r : Reason) (d : Carrier) :
    (w.cancelReservation c r).stack d =
      if w.hostOf c = some d then (w.stack d).eraseP fun x => x.carrier == c else w.stack d := by
  rw [Cluster.cancelReservation, Cluster.stack_markDirty, Cluster.stack_editCtx, Cluster.stack_removeEntry]
  rfl

/-- A removal under a SERVING owner leaves the lanes. -/
theorem Cluster.lane_removeEntry_of_serving (host : w.hostOf c = some k) (serving : (w.ctx k).state = .serving)
    (i : Site) : (w.removeEntry c).lane i = w.lane i := by
  rw [Cluster.removeEntry, host]
  dsimp only
  generalize (w.stack k).eraseP (fun e => e.carrier == c) = es
  split
  · rw [Cluster.stackEmptied, if_pos (by simpa using serving)]
    rfl
  · rfl

theorem Cluster.lane_cancelReservation_of_serving (host : w.hostOf c = some k)
    (serving : (w.ctx k).state = .serving) (r : Reason) (i : Site) :
    (w.cancelReservation c r).lane i = (w.dropWant c).lane i :=
  Cluster.lane_removeEntry_of_serving (w := w.dropWant c) host serving i

/-- The states in which a wake request turns the entry back. -/
def CarrierState.turns : CarrierState → Bool
  | .light | .dark | .draining | .lowering | .deepening | .warming => true
  | _ => false

/-- The command that a wake request wants for a carrier whose entry turns back, if any. -/
def Cluster.wakeCommand (w : Cluster) (c : Carrier) : Option RadioCommand :=
  match (w.ctx c).state with
  | .light => some .raise
  | .dark => some .warm
  | .draining => if w.wants c .shed || w.wants c .lower then some .reopen else none
  | _ => none

/-- Where a wake request turns an entry back, it does so and wants a command or none. -/
theorem Cluster.wakeRequest_turns (turns : (w.ctx c).state.turns = true) (active : w.holdsActive c = true) (r : Reason) :
    w.wakeRequest c r =
      match w.wakeCommand c with
      | some command => (w.turnBack c r).want c command
      | none => w.turnBack c r := by
  unfold Cluster.wakeRequest Cluster.wakeCommand
  cases state : (w.ctx c).state with
  | draining =>
    simp only [active, if_true]
    split <;> rfl
  | light | dark | lowering | deepening | warming => simp only [active, if_true]
  | unmanaged | unknown | stray | serving | raising | faulted =>
    rw [state] at turns
    cases turns

/-- A wake request without effect. -/
theorem Cluster.wakeRequest_idle (h : (w.ctx c).state.turns = true → w.holdsActive c = false)
    (g : (w.ctx c).state = .serving → (w.ctx c).reserved = false) (r : Reason) : w.wakeRequest c r = w := by
  unfold Cluster.wakeRequest
  cases state : (w.ctx c).state with
  | serving => simp [g state]
  | light | dark | draining | lowering | deepening | warming => simp [h (by rw [state]; rfl)]
  | unmanaged | unknown | stray | raising | faulted => rfl

/-- A wake request to a carrier with a reservation. -/
theorem Cluster.wakeRequest_reserved (serving : (w.ctx c).state = .serving) (reserved : (w.ctx c).reserved = true) (r : Reason) :
    w.wakeRequest c r = w.cancelReservation c r := by
  unfold Cluster.wakeRequest
  simp [serving, reserved]

theorem Cluster.ctx_wakeRequest_turns (turns : (w.ctx c).state.turns = true) (active : w.holdsActive c = true) (r : Reason)
    (d : Carrier) : (w.wakeRequest c r).ctx d = if d = c then (w.ctx c).noted r else w.ctx d := by
  rw [Cluster.wakeRequest_turns turns active]
  cases w.wakeCommand c with
  | none => exact w.ctx_turnBack c r d
  | some command => exact (Cluster.ctx_want ..).trans (w.ctx_turnBack c r d)

theorem Cluster.stack_wakeRequest_turns (turns : (w.ctx c).state.turns = true) (active : w.holdsActive c = true) (r : Reason)
    (d : Carrier) :
    (w.wakeRequest c r).stack d =
      if w.hostOf c = some d then
        (w.stack d).map fun x => if x.carrier = c then { x with phase := .returning, reason := r } else x
      else w.stack d := by
  rw [Cluster.wakeRequest_turns turns active]
  cases w.wakeCommand c with
  | none => exact w.stack_turnBack c r d
  | some command => exact (Cluster.stack_want ..).trans (w.stack_turnBack c r d)

theorem Cluster.lane_wakeRequest_turns_ne (turns : (w.ctx c).state.turns = true) (active : w.holdsActive c = true) (r : Reason)
    {j : Site} (h : j ≠ siteOf c) : (w.wakeRequest c r).lane j = w.lane j := by
  rw [Cluster.wakeRequest_turns turns active]
  cases w.wakeCommand c with
  | none => exact w.lane_turnBack c r j
  | some command => exact ((w.turnBack c r).lane_want_ne h command).trans (w.lane_turnBack c r j)

theorem Cluster.lane_wakeRequest_none (turns : (w.ctx c).state.turns = true) (active : w.holdsActive c = true) (r : Reason)
    (command : w.wakeCommand c = none) (i : Site) : (w.wakeRequest c r).lane i = w.lane i := by
  rw [Cluster.wakeRequest_turns turns active, command]
  exact w.lane_turnBack c r i

theorem Cluster.lane_wakeRequest_some (turns : (w.ctx c).state.turns = true) (active : w.holdsActive c = true) (r : Reason)
    {command : RadioCommand} (wakes : w.wakeCommand c = some command) (i : Site) :
    (w.wakeRequest c r).lane i = ((w.turnBack c r).want c command).lane i := by
  rw [Cluster.wakeRequest_turns turns active, wakes]

end

/-- Settles O38, by the state of the carrier. -/
theorem wakeRequestTable : Obligations.WakeRequestTable := by
  intro w c k r e
  refine ⟨fun idle => ?_, fun host away first active => ?_⟩
  · refine Cluster.wakeRequest_idle (fun turns => ?_) (fun serving => ?_) r
    · rcases idle with h | h | h | h | h | h | h
      · rw [h] at turns; cases turns
      · rw [h] at turns; cases turns
      · rw [h] at turns; cases turns
      · rw [h] at turns; cases turns
      · rw [h] at turns; cases turns
      · rw [h.1] at turns; cases turns
      · exact Cluster.holdsActive_of_isReturning h.2
    · rcases idle with h | h | h | h | h | h | h
      · exact absurd (serving.symm.trans h) (by decide)
      · exact absurd (serving.symm.trans h) (by decide)
      · exact absurd (serving.symm.trans h) (by decide)
      · exact absurd (serving.symm.trans h) (by decide)
      · exact absurd (serving.symm.trans h) (by decide)
      · exact h.2
      · exact absurd serving h.1
  · have holds : w.holdsActive c = true := by
      rw [Cluster.holdsActive_of_entry (Cluster.entryOf_of_host host first)]
      exact bne_iff_ne.mpr active
    have ctx (turns : (w.ctx c).state.turns = true) := Cluster.ctx_wakeRequest_turns turns holds r
    have stack (turns : (w.ctx c).state.turns = true) := Cluster.stack_wakeRequest_turns turns holds r
    have lane {command : RadioCommand} {st : CarrierState} (state : (w.ctx c).state = st) (turns : st.turns = true)
        (wakes : w.wakeCommand c = some command) :
        (w.wakeRequest c r).lane (siteOf c) = ((w.turnBack c r).want c command).lane (siteOf c) :=
      Cluster.lane_wakeRequest_some (state ▸ turns) holds r wakes _
    have unasked (h : w.Unasked c) : (w.turnBack c r).Unasked c :=
      ⟨(w.wantOf_turnBack c r c).trans h.1, (w.isOutstanding_turnBack c r c).trans h.2⟩
    have light (state : (w.ctx c).state = .light) : w.wakeCommand c = some .raise := by rw [Cluster.wakeCommand, state]
    have dark (state : (w.ctx c).state = .dark) : w.wakeCommand c = some .warm := by rw [Cluster.wakeCommand, state]
    refine ⟨fun states => ?_, fun state free => ?_, fun state free => ?_, fun state free warm => ?_, fun state free darken => ?_,
      fun state free wanted => ?_, fun states => ?_, fun state reserved serving => ?_, fun frame => ?_⟩
    · have turns : (w.ctx c).state.turns = true := by
        rcases states with h | h | h | h | h | h <;> rw [h] <;> rfl
      exact ⟨(ctx turns c).trans (if_pos rfl), (stack turns k).trans (if_pos host), fun d other => (ctx turns d).trans (if_neg other)⟩
    · rw [lane state rfl (light state), Cluster.lane_want_of_unasked (unasked free), Cluster.lane_turnBack]
    · rw [lane state rfl (dark state), Cluster.lane_want_of_unasked (unasked free), Cluster.lane_turnBack]
    · rw [lane state rfl (dark state), Cluster.lane_want_of_wanted ((w.wants_turnBack c r c _).trans warm), Cluster.lane_turnBack]
    · rw [lane state rfl (light state), Cluster.lane_want_in_place ((w.isOutstanding_turnBack c r c).trans free)
        ((w.wants_turnBack c r c _).trans darken) (by decide), Cluster.lane_turnBack]
    · have wakes : w.wakeCommand c = some .reopen := by
        rw [Cluster.wakeCommand, state]
        exact if_pos ((Bool.or_eq_true _ _).mpr wanted)
      rw [lane state rfl wakes]
      rcases wanted with h | h
      · rw [Cluster.lane_want_in_place ((w.isOutstanding_turnBack c r c).trans free) ((w.wants_turnBack c r c _).trans h)
          (by decide), Cluster.lane_turnBack]
      · rw [Cluster.lane_want_in_place ((w.isOutstanding_turnBack c r c).trans free) ((w.wants_turnBack c r c _).trans h)
          (by decide), Cluster.lane_turnBack]
    · have turns : (w.ctx c).state.turns = true := by
        rcases states with h | h | h | ⟨h, -⟩ <;> rw [h] <;> rfl
      refine Cluster.lane_wakeRequest_none turns holds r ?_ _
      rcases states with h | h | h | ⟨h, -, unwanted⟩
      · rw [Cluster.wakeCommand, h]
      · rw [Cluster.wakeCommand, h]
      · rw [Cluster.wakeCommand, h]
      · rw [Cluster.wakeCommand, h]
        exact if_neg (by simp [Cluster.wants, unwanted])
    · rw [Cluster.wakeRequest_reserved state reserved]
      have ctx := Cluster.ctx_cancelReservation host away r
      refine ⟨(ctx c).trans (if_pos rfl), (w.stack_cancelReservation c r k).trans (if_pos host), (ctx k).trans ?_,
        fun d h g => (ctx d).trans ((if_neg h).trans (if_neg g)), ?_⟩
      · rw [if_neg away, if_pos rfl, Context.handedOn, if_neg fun h => absurd (serving.symm.trans h.2.1) (by decide)]
        exact congrArg (fun n => ({ w.ctx k with wakeCount := n, dirty := true } : Context))
          (ite_congr (propext ((and_iff_left serving).trans List.isEmpty_iff)) (fun _ => rfl) fun _ => rfl)
      · rw [Cluster.lane_cancelReservation_of_serving host serving, w.lane_dropWant, if_pos rfl]
    · refine ⟨fun d other => ?_, fun j other => ?_, Cluster.onlyCarriers_wakeRequest w c r⟩
      · by_cases turns : (w.ctx c).state.turns = true
        · exact (stack turns d).trans (if_neg fun h => other (Option.some.inj (h.symm.trans host)))
        · by_cases cancels : (w.ctx c).state = .serving ∧ (w.ctx c).reserved = true
          · rw [Cluster.wakeRequest_reserved cancels.1 cancels.2, w.stack_cancelReservation,
              if_neg fun h => other (Option.some.inj (h.symm.trans host))]
          · rw [Cluster.wakeRequest_idle (fun h => absurd h turns) fun h => by simpa [h] using cancels]
      · by_cases turns : (w.ctx c).state.turns = true
        · exact Cluster.lane_wakeRequest_turns_ne turns holds r other
        · by_cases cancels : (w.ctx c).state = .serving ∧ (w.ctx c).reserved = true
          · have serving := frame.resolve_left fun h => h cancels.1
            rw [Cluster.wakeRequest_reserved cancels.1 cancels.2, Cluster.lane_cancelReservation_of_serving host serving,
              w.lane_dropWant, if_neg (Ne.symm other)]
          · rw [Cluster.wakeRequest_idle (fun h => absurd h turns) fun h => by simpa [h] using cancels]

end Sys2Proof.Machine
end

section
/-! The visits of a decision pass: the deepen test and the cover wake test (sections 5.4, 5.5, 6.2 and 6.5). -/

namespace Sys2Proof.Machine

/-! ## A visit -/

theorem exec_decisionVisit {s : State} {p : Pass} {c : Carrier} (h : s.Visits p c) :
    exec .decisionVisit s = .next (s.visitNext p c.val) := by
  obtain ⟨pass, phase⟩ := h
  simp [exec, execDecisionVisit, pass, phase]

/-- A visit and the cluster that it leaves. -/
theorem State.visited {s : State} {p : Pass} {c : Carrier} (h : s.Visits p c) {v : Cluster}
    (visit : s.cluster.passVisit s.setting c = v) : ∃ t, exec .decisionVisit s = .next t ∧ s.AfterVisit t p c v :=
  ⟨_, exec_decisionVisit h, visit ▸ s.visitNext_afterVisit p c⟩

section
variable {w : Cluster} {t : TestSetting} {c k : Carrier}

theorem Cluster.passVisit_of_light (present : (w.ctx c).cfg.present = true) (light : (w.ctx c).state = .light)
    (bare : w.stack c = []) : w.passVisit t c = w.deepenTest t c := by
  simp [Cluster.passVisit, present, Cluster.visit, bare, light]

/-- The owner's stack after the settle ageing of a visit. -/
theorem Cluster.stack_ageSettling (w : Cluster) (k : Carrier) (settle : Nat) (d : Carrier) :
    (w.ageSettling k settle).stack d = if k = d then (w.stack k).map (Entry.ageSettle settle) else w.stack d :=
  Cluster.stack_setStack ..

theorem Cluster.ageSettling_ne_nil (settle : Nat) (h : w.stack k ≠ []) : (w.ageSettling k settle).stack k ≠ [] := by
  rw [Cluster.stack_ageSettling, if_pos rfl]
  exact fun g => h (List.map_eq_nil_iff.mp g)

theorem Cluster.passVisit_of_owner (present : (w.ctx k).cfg.present = true) (owns : w.stack k ≠ []) :
    (((w.ctx k).state = .serving →
        w.passVisit t k = (w.ageSettling k t.policy.settle).wakeTest k t.policy.strictData) ∧
      ((w.ctx k).state ≠ .serving → (w.ctx k).state ≠ .light → w.passVisit t k = w.ageSettling k t.policy.settle)) := by
  have aged : (if (w.stack k).isEmpty then w else w.ageSettling k t.policy.settle) = w.ageSettling k t.policy.settle :=
    if_neg fun h => owns (List.isEmpty_iff.mp h)
  have left : ((w.ageSettling k t.policy.settle).stack k).isEmpty = false := by
    simpa using Cluster.ageSettling_ne_nil t.policy.settle owns
  have ctx : (w.ageSettling k t.policy.settle).ctx k = w.ctx k := rfl
  rw [Cluster.passVisit, if_pos present, Cluster.visit]
  simp only [aged, ctx]
  refine ⟨fun serving => ?_, fun notServing notLight => ?_⟩
  · rw [serving]
    simp only [left, if_true]
  · cases state : (w.ctx k).state with
    | serving => exact absurd state notServing
    | light => exact absurd state notLight
    | unmanaged | unknown | stray | draining | lowering | deepening | dark | warming | raising | faulted => rfl

end

/-! ## The deepen test -/

theorem State.phaseOf_setting (s : State) (x : Context) : s.setting.phaseOf x = s.setting.phaseOf x := rfl

section
variable {w : Cluster} {t : TestSetting} {c : Carrier}

theorem Cluster.mayDeepen_iff : w.mayDeepen t c = true ↔
    w.isReturning c = false ∧ t.phaseOf (w.ctx c) = some .opened ∧ (w.ctx c).deepenDeclined = false := by
  simp [Cluster.mayDeepen, and_assoc]

theorem Cluster.deepenTest_of_may (may : w.mayDeepen t c = true) :
    w.deepenTest t c =
      if 1 ≤ (w.ctx c).cfg.deepenDelay ∧ (w.ctx c).cfg.deepenDelay ≤ (w.ctx c).lightRun then w.want c .darken else w :=
  if_pos may

theorem Cluster.deepenTest_of_not (may : ¬w.mayDeepen t c = true) :
    w.deepenTest t c = if w.wants c .darken then w.dropWant c else w := if_neg may

end

/-- Settles O37, by whether the conditions of the deepen test hold. -/
theorem deepenTest : Obligations.DeepenTest := by
  intro s p c visits present light bare
  have visit : s.cluster.passVisit s.setting c = s.cluster.deepenTest s.setting c :=
    Cluster.passVisit_of_light present light bare
  refine ⟨fun holds one due free => ?_, fun rests quiet => ?_, fun fails darken => ?_⟩
  · have wants : s.cluster.passVisit s.setting c = s.cluster.want c .darken := by
      rw [visit, Cluster.deepenTest_of_may (Cluster.mayDeepen_iff.mpr holds), if_pos ⟨one, due⟩]
    obtain ⟨t, done, after⟩ := State.visited visits wants
    exact ⟨t, _, done, after, Cluster.lane_want_of_unasked free _, fun j other => s.cluster.lane_want_ne other _,
      (s.cluster.joinWant_spec c .darken 0 1).1⟩
  · refine State.visited visits (visit.trans ?_)
    by_cases may : s.cluster.mayDeepen s.setting c = true
    · rw [Cluster.deepenTest_of_may may]
      split
      · next due =>
        refine s.cluster.joinWant_eq_self 0 1 ?_
        rcases rests (Cluster.mayDeepen_iff.mp may) with h | h | h | h
        · exact absurd (Nat.lt_of_lt_of_eq due.1 h) (by decide)
        · exact absurd due.2 (Nat.not_le_of_lt h)
        · exact .inr h
        · exact .inl h
      · rfl
    · rw [Cluster.deepenTest_of_not may, quiet fun h => may (Cluster.mayDeepen_iff.mpr h)]
      rfl
  · have drops : s.cluster.passVisit s.setting c = s.cluster.dropWant c := by
      rw [visit, Cluster.deepenTest_of_not fun h => fails (Cluster.mayDeepen_iff.mp h), if_pos darken]
    obtain ⟨t, done, after⟩ := State.visited visits drops
    exact ⟨t, _, done, after, (s.cluster.lane_dropWant c _).trans (if_pos rfl),
      fun j other => (s.cluster.lane_dropWant c j).trans (if_neg (Ne.symm other)), rfl⟩

/-! ## The cover wake test -/

section
variable {w : Cluster} {k : Carrier}

/-- The wake-dwell count that the comparison of an owner gives (R104). -/
def Context.wakeCounted (x : Context) : Nat :=
  if decide (x.cls = .absent ∨ x.cls = .aged) = true ∨
      ((x.cls = .fresh ∨ x.cls = .clipped) ∧ 16 * x.cfg.wakeLimit < x.load) then
    min 255 (x.wakeCount + 1)
  else 0

/-- An owner whose wake-dwell count is n after its comparison, marked where its class made that UNORDERED (R61, R104). -/
def Context.compared (x : Context) (n : Nat) : Context :=
  let unordered := decide (x.cls = .absent ∨ x.cls = .aged)
  { x with
    wakeCount := n
    unorderedNow := x.unorderedNow || unordered
    dirty := x.dirty || (unordered && !x.unorderedNow) }

theorem wakeComparison_of_unordered {x : Context} (h : x.cls = .absent ∨ x.cls = .aged) : wakeComparison x = .unordered := by
  rw [wakeComparison]
  rcases h with h | h <;> rw [h] <;> rfl

theorem wakeComparison_of_ordered {x : Context} (h : ¬(x.cls = .absent ∨ x.cls = .aged)) :
    wakeComparison x = compareOrdered x.load (16 * x.cfg.wakeLimit) := by
  rw [wakeComparison]
  cases cls : x.cls with
  | fresh | clipped => rfl
  | absent | aged => simp [cls] at h

theorem compareOrdered_above_iff (x limit : Nat) : compareOrdered x limit = .above ↔ limit < x := by
  unfold compareOrdered
  split
  · next h => exact ⟨nofun, fun g => absurd g (Nat.lt_asymm h)⟩
  · split
    · next h => exact ⟨nofun, fun g => absurd h (Nat.ne_of_gt g)⟩
    · next h g => exact ⟨fun _ => by omega, fun _ => rfl⟩

theorem compareOrdered_ne_unordered (x limit : Nat) : compareOrdered x limit ≠ .unordered := by
  unfold compareOrdered
  split
  · nofun
  · split <;> nofun

theorem Context.edit_wakeCount (x : Context) (n : Nat) (same : ¬(x.cls = .absent ∨ x.cls = .aged)) :
    (x.edit fun y => { y with wakeCount := n }) = x.compared n := by
  simp [Context.edit, Context.view, Context.compared, same]

theorem Context.edit_unordered (x : Context) (n : Nat) (unordered : x.cls = .absent ∨ x.cls = .aged) :
    ((x.edit fun y => { y with wakeCount := n }).edit fun y => { y with unorderedNow := true }) = x.compared n := by
  simp only [Context.compared, decide_eq_true unordered, Bool.or_true, Bool.true_and]
  cases mark : x.unorderedNow <;> simp [Context.edit, Context.view, mark]

/-- Where the class is trusted, the comparison moves the count alone. -/
theorem Cluster.countWake_of_ordered (ordered : ¬((w.ctx k).cls = .absent ∨ (w.ctx k).cls = .aged)) (strict : Bool) :
    w.countWake k strict = w.editCtx k fun x => { x with wakeCount := (w.ctx k).wakeCounted } := by
  have trusted : (w.ctx k).cls = .fresh ∨ (w.ctx k).cls = .clipped := by
    cases cls : (w.ctx k).cls <;> simp [cls] at ordered ⊢
  rw [Cluster.countWake, wakeComparison_of_ordered ordered, Context.wakeCounted]
  simp only [decide_eq_false ordered, Bool.false_eq_true, false_or, trusted, true_and,
    ← compareOrdered_above_iff (w.ctx k).load]
  cases answer : compareOrdered (w.ctx k).load (16 * (w.ctx k).cfg.wakeLimit) with
  | above => rfl
  | below | atLimit => rfl
  | unordered => exact absurd answer (compareOrdered_ne_unordered _ _)

/-- The comparison of an owner: its context, and DATA where its class made the comparison UNORDERED under the strict-data
flag. -/
theorem Cluster.countWake_spec (w : Cluster) (k : Carrier) (strict : Bool) :
    (let v := w.countWake k strict
     let x := w.ctx k
     (∀ d, v.ctx d = if k = d then x.compared x.wakeCounted else w.ctx d) ∧
     v = { w with
       contexts := v.contexts
       note := if decide (x.cls = .absent ∨ x.cls = .aged) = true ∧ strict = true then Notice.data.raiseIn w.note else w.note }) := by
  by_cases unordered : (w.ctx k).cls = .absent ∨ (w.ctx k).cls = .aged
  · have counted : (w.ctx k).wakeCounted = min 255 ((w.ctx k).wakeCount + 1) := if_pos (.inl (decide_eq_true unordered))
    have count : w.countWake k strict =
        (w.editCtx k fun x => { x with wakeCount := bump 255 x.wakeCount }).markUnordered k strict := by
      rw [Cluster.countWake, wakeComparison_of_unordered unordered]
    have edit (d : Carrier) : ((w.editCtx k fun x => { x with wakeCount := bump 255 x.wakeCount }).editCtx k fun x =>
        { x with unorderedNow := true }).ctx d = if k = d then (w.ctx k).compared (w.ctx k).wakeCounted else w.ctx d := by
      rw [Cluster.ctx_editCtx, Cluster.ctx_editCtx, if_pos rfl, counted, ← Context.edit_unordered _ _ unordered]
      split
      · rfl
      · next h => rw [Cluster.ctx_editCtx, if_neg h]
    rw [count, Cluster.markUnordered]
    simp only [decide_eq_true unordered, true_and]
    cases strict with
    | false => exact ⟨edit, rfl⟩
    | true => exact ⟨edit, rfl⟩
  · rw [Cluster.countWake_of_ordered unordered]
    simp only [decide_eq_false unordered, Bool.false_eq_true, false_and, if_false]
    refine ⟨fun d => ?_, rfl⟩
    rw [Cluster.ctx_editCtx, Context.edit_wakeCount _ _ unordered]

/-- The topmost entry that is not RETURNING. -/
theorem topActive_eq_some {es lo hi : List Entry} {e : Entry} (split : es = lo ++ e :: hi) (active : e.phase ≠ .returning)
    (top : ∀ x ∈ hi, x.phase = .returning) : topActive es = some e := by
  rw [split, topActive, List.reverse_append, List.reverse_cons, List.append_assoc, List.find?_append]
  have above : hi.reverse.find? (fun e => e.phase != .returning) = none :=
    List.find?_eq_none.mpr fun x mem => by simp [top x (List.mem_reverse.mp mem)]
  rw [above]
  simp [active]

theorem topActive_eq_none {es : List Entry} (h : ∀ x ∈ es, x.phase = .returning) : topActive es = none :=
  List.find?_eq_none.mpr fun x mem => by simp [h x (List.mem_reverse.mp mem)]

/-- The cluster of an owner's visit before the wake-pop. -/
def Cluster.compared (w : Cluster) (k : Carrier) (p : Policy) : Cluster := (w.ageSettling k p.settle).countWake k p.strictData

theorem Cluster.wakeTest_compared (w : Cluster) (k : Carrier) (p : Policy) :
    (w.ageSettling k p.settle).wakeTest k p.strictData =
      if (w.ctx k).cfg.wakeDwell ≤ (w.ctx k).wakeCounted then (w.compared k p).wakePop k else w.compared k p := by
  have ctx := ((w.ageSettling k p.settle).countWake_spec k p.strictData).1 k
  rw [if_pos rfl] at ctx
  rw [Cluster.wakeTest, ctx]
  rfl

theorem Cluster.compared_spec (w : Cluster) (k : Carrier) (p : Policy) :
    (let u := w.compared k p
     let x := w.ctx k
     (∀ d, u.ctx d = if k = d then x.compared x.wakeCounted else w.ctx d) ∧
     (∀ d, u.stack d = if k = d then (w.stack k).map (Entry.ageSettle p.settle) else w.stack d) ∧
     u = { w with
       contexts := u.contexts
       coverStacks := u.coverStacks
       note :=
         if decide (x.cls = .absent ∨ x.cls = .aged) = true ∧ p.strictData = true then Notice.data.raiseIn w.note
         else w.note }) := by
  obtain ⟨ctx, only⟩ := (w.ageSettling k p.settle).countWake_spec k p.strictData
  have piles : (w.compared k p).coverStacks = (w.ageSettling k p.settle).coverStacks :=
    (congrArg Cluster.coverStacks only).trans rfl
  refine ⟨ctx, fun d => ?_, ?_⟩
  · rw [Cluster.stack, piles]
    exact w.stack_ageSettling k p.settle d
  · obtain ⟨a, h⟩ : ∃ a, w.compared k p = { w.ageSettling k p.settle with
        contexts := a
        note :=
          if decide ((w.ctx k).cls = .absent ∨ (w.ctx k).cls = .aged) = true ∧ p.strictData = true then
            Notice.data.raiseIn w.note
          else w.note } := ⟨_, only⟩
    rw [h]
    rfl

/-- The wake-pop of the topmost entry not RETURNING: a COVER_LOAD request, and then the owner's count is 0. -/
theorem Cluster.wakePop_spec {u : Cluster} {e : Entry} (top : topActive (u.stack k) = some e) :
    (let woken := u.wakeRequest e.carrier .coverLoad
     let v := u.wakePop k
     v.ctx k = { woken.ctx k with wakeCount := 0 } ∧ (∀ d, d ≠ k → v.ctx d = woken.ctx d) ∧
       v = { woken with contexts := v.contexts }) := by
  have pop : u.wakePop k = (u.wakeRequest e.carrier .coverLoad).editCtx k fun x => { x with wakeCount := 0 } := by
    rw [Cluster.wakePop, top]
  rw [pop]
  refine ⟨?_, fun d other => Cluster.ctx_editCtx_ne _ (Ne.symm other) _, rfl⟩
  rw [Cluster.ctx_editCtx_self]
  simp [Context.edit, Context.view]

/-- The carriers of the stacks stay as they are at a settle ageing. -/
theorem Cluster.hostOf_compared (w : Cluster) (k : Carrier) (p : Policy) (c : Carrier) : (w.compared k p).hostOf c = w.hostOf c := by
  have any (d : Carrier) : ((w.compared k p).stack d).any (fun e => e.carrier == c) = (w.stack d).any fun e => e.carrier == c := by
    rw [(w.compared_spec k p).2.1 d]
    split
    · next h =>
      subst h
      rw [List.any_map]
      exact congrArg (List.any _) (funext fun e => by simp)
    · rfl
  unfold Cluster.hostOf
  exact congrArg (List.find? · carriers) (funext any)

theorem Entry.ageSettle_active {e : Entry} (settle : Nat) (h : e.phase ≠ .returning) : (e.ageSettle settle).phase ≠ .returning := by
  unfold Entry.ageSettle
  split
  · dsimp only
    split <;> nofun
  · exact h

theorem Entry.map_ageSettle_of_returning {es : List Entry} (settle : Nat) (h : ∀ x ∈ es, x.phase = .returning) :
    es.map (Entry.ageSettle settle) = es := by
  refine (List.map_congr_left fun x mem => ?_).trans (List.map_id es)
  exact Entry.ageSettle_of_ne (by rw [h x mem]; nofun)

end

section
variable {u : Cluster} {c k : Carrier} {e : Entry} {lo hi : List Entry}

theorem Cluster.onlyCarriers_wakePop (w : Cluster) (k : Carrier) : w.OnlyCarriers (w.wakePop k) := by
  unfold Cluster.wakePop
  split
  · next e _ => exact (w.onlyCarriers_wakeRequest e.carrier .coverLoad).trans rfl
  · exact .refl w

/-- The wake-pop of a LIGHT carrier: its entry goes RETURNING and RAISE is wanted. -/
theorem Cluster.wakePop_of_light (is : e.carrier = c) (place : u.stack k = lo ++ e :: hi) (active : e.phase ≠ .returning)
    (top : ∀ x ∈ hi, x.phase = .returning) (alone : ∀ x ∈ lo ++ hi, x.carrier ≠ c)
    (host : u.hostOf c = some k) (away : c ≠ k) (light : (u.ctx c).state = .light)
    (free : u.Unasked c) :
    (let v := u.wakePop k
     v.stack k = lo ++ { e with phase := .returning, reason := .coverLoad } :: hi ∧
     v.ctx k = { u.ctx k with wakeCount := 0 } ∧
     v.ctx c = (u.ctx c).noted .coverLoad ∧
     v.lane (siteOf c) = (u.lane (siteOf c)).joined c .raise 0 1 ∧
     (∀ d, d ≠ k → d ≠ c → v.ctx d = u.ctx d) ∧
     (∀ d, d ≠ k → v.stack d = u.stack d) ∧
     (∀ j, j ≠ siteOf c → v.lane j = u.lane j) ∧
     v = { u with contexts := v.contexts, coverStacks := v.coverStacks, lanes := v.lanes }) := by
  subst is
  have turns : (u.ctx e.carrier).state.turns = true := by rw [light]; rfl
  have wakes : u.wakeCommand e.carrier = some .raise := by rw [Cluster.wakeCommand, light]
  have first : (u.stack k).find? (fun x => x.carrier == e.carrier) = some e := by
    rw [place, List.find?_append, List.find?_eq_none.mpr fun x mem => by simpa using alone x (List.mem_append_left _ mem)]
    simp
  have holds : u.holdsActive e.carrier = true := by
    rw [Cluster.holdsActive_of_entry (Cluster.entryOf_of_host host first)]
    exact bne_iff_ne.mpr active
  obtain ⟨popOwner, popOthers, popOnly⟩ := Cluster.wakePop_spec (topActive_eq_some place active top)
  have ctx := Cluster.ctx_wakeRequest_turns turns holds .coverLoad
  have stack := Cluster.stack_wakeRequest_turns turns holds .coverLoad
  have pile (d : Carrier) : (u.wakePop k).stack d = (u.wakeRequest e.carrier .coverLoad).stack d :=
    (congrArg (Cluster.stack · d) popOnly).trans rfl
  have lane (j : Site) : (u.wakePop k).lane j = (u.wakeRequest e.carrier .coverLoad).lane j :=
    (congrArg (Cluster.lane · j) popOnly).trans rfl
  have turned (es : List Entry) (h : ∀ x ∈ es, x.carrier ≠ e.carrier) :
      es.map (fun x => if x.carrier = e.carrier then { x with phase := .returning, reason := .coverLoad } else x) = es :=
    (List.map_congr_left fun x mem => if_neg (h x mem)).trans (List.map_id es)
  refine ⟨?_, popOwner.trans ?_, (popOthers _ away).trans ((ctx _).trans (if_pos rfl)), (lane _).trans ?_,
    fun d h g => (popOthers d h).trans ((ctx d).trans (if_neg g)),
    fun d h => (pile d).trans ((stack d).trans (if_neg fun g => h (Option.some.inj (g.symm.trans host)))),
    fun j h => (lane j).trans (Cluster.lane_wakeRequest_turns_ne turns holds _ h), ?_⟩
  · rw [pile, stack, if_pos host, place, List.map_append, List.map_cons, if_pos rfl,
      turned lo fun x mem => alone x (List.mem_append_left _ mem), turned hi fun x mem => alone x (List.mem_append_right _ mem)]
  · rw [ctx, if_neg (Ne.symm away)]
  · rw [Cluster.lane_wakeRequest_some turns holds _ wakes, Cluster.lane_want_of_unasked, Cluster.lane_turnBack]
    exact ⟨(u.wantOf_turnBack _ _ _).trans free.1, (u.isOutstanding_turnBack _ _ _).trans free.2⟩
  · exact u.onlyCarriers_wakePop k

end

/-- Settles O36: settle ageing and the comparison, and then the wake-pop where the count has reached the wake dwell. -/
theorem wakePopTopmost : Obligations.WakePopTopmost := by
  intro s p k visits present owns
  obtain ⟨ofServing, ofOther⟩ := Cluster.passVisit_of_owner (t := s.setting) present owns
  obtain ⟨ctx, stack, only⟩ := s.cluster.compared_spec k s.policy
  have tested : (s.cluster.compared k s.policy).stack k = (s.stack k).map (Entry.ageSettle s.policy.settle) ∧
      (s.cluster.compared k s.policy).ctx k = (s.ctx k).compared (s.ctx k).wakeCounted ∧
      (∀ d, d ≠ k → (s.cluster.compared k s.policy).ctx d = s.ctx d) ∧
      (∀ d, d ≠ k → (s.cluster.compared k s.policy).stack d = s.stack d) :=
    ⟨(stack k).trans (if_pos rfl), (ctx k).trans (if_pos rfl), fun d h => (ctx d).trans (if_neg (Ne.symm h)),
      fun d h => (stack d).trans (if_neg (Ne.symm h))⟩
  have compare (serving : (s.ctx k).state = .serving) := (ofServing serving).trans (s.cluster.wakeTest_compared k s.policy)
  obtain ⟨own, counted, others, piles⟩ := tested
  refine ⟨fun notServing notLight => ?_, fun serving rests => ?_, fun lo hi e serving due split active top => ?_⟩
  · obtain ⟨t, done, after⟩ := State.visited visits (ofOther notServing notLight)
    refine ⟨t, _, done, after, (s.cluster.stack_ageSettling k _ k).trans (if_pos rfl),
      fun d other => (s.cluster.stack_ageSettling k _ d).trans (if_neg (Ne.symm other)), rfl⟩
  · have visit : s.cluster.passVisit s.setting k = s.cluster.compared k s.policy := by
      refine (compare serving).trans ?_
      split
      · next due =>
        have returning : ∀ x ∈ (s.cluster.compared k s.policy).stack k, x.phase = .returning := by
          have all : ∀ x ∈ s.stack k, x.phase = .returning := rests.resolve_left (Nat.not_lt_of_le due)
          rw [own, Entry.map_ageSettle_of_returning _ all]
          exact all
        rw [Cluster.wakePop, topActive_eq_none returning]
      · rfl
    obtain ⟨t, done, after⟩ := State.visited visits visit
    exact ⟨t, _, done, after, own, counted, others, piles, only⟩
  · have visit : s.cluster.passVisit s.setting k = (s.cluster.compared k s.policy).wakePop k :=
      (compare serving).trans (if_pos due)
    obtain ⟨t, done, after⟩ := State.visited visits visit
    have place : (s.cluster.compared k s.policy).stack k =
        lo.map (Entry.ageSettle s.policy.settle) ++ e.ageSettle s.policy.settle :: hi := by
      rw [own, split, List.map_append, List.map_cons, Entry.map_ageSettle_of_returning _ top]
    have activeNow := Entry.ageSettle_active s.policy.settle active
    have found := topActive_eq_some place activeNow top
    obtain ⟨popOwner, popOthers, popOnly⟩ := Cluster.wakePop_spec found
    rw [Entry.carrier_ageSettle] at popOwner popOthers popOnly
    refine ⟨⟨t, _, _, done, after, ⟨own, counted, others, piles, only⟩, popOwner, popOthers, popOnly⟩,
      fun alone host away light free => ⟨t, _, done, after, ?_⟩⟩
    have lanes (i : Site) : (s.cluster.compared k s.policy).lane i = s.lane i :=
      congrArg (fun l : Vector Lane 16 => l[i]) ((congrArg Cluster.lanes only).trans rfl)
    have free' : (s.cluster.compared k s.policy).Unasked e.carrier := by
      unfold Cluster.Unasked Cluster.wantOf Cluster.isOutstanding at *
      rw [lanes]
      exact free
    have alone' : ∀ x ∈ lo.map (Entry.ageSettle s.policy.settle) ++ hi, x.carrier ≠ e.carrier := by
      intro x mem
      rcases List.mem_append.mp mem with h | h
      · obtain ⟨y, hy, rfl⟩ := List.mem_map.mp h
        rw [Entry.carrier_ageSettle]
        exact alone y (List.mem_append_left _ hy)
      · exact alone x (List.mem_append_right _ h)
    have owner : (s.cluster.compared k s.policy).ctx e.carrier = s.ctx e.carrier := others _ away
    obtain ⟨pile, count, sleeper, joins, contexts, pilesOther, lanesOther, popped⟩ :=
      Cluster.wakePop_of_light (Entry.carrier_ageSettle ..) place activeNow top alone' ((s.cluster.hostOf_compared k _ _).trans host) away
        ((congrArg Context.state owner).trans light) free'
    refine ⟨pile, count.trans ?_, sleeper.trans ?_, joins.trans ?_, fun d h g => (contexts d h g).trans (others d h),
      fun d h => (pilesOther d h).trans (piles d h), fun j h => (lanesOther j h).trans (lanes j), ?_⟩
    · rw [counted]
      rfl
    · rw [owner]
      rfl
    · rw [lanes]
    · rw [popped, only]
      rfl

end Sys2Proof.Machine
end

section
/-! The sleep test: its reservations and its refusals, in a decision visit and under SLEEP_NOW (sections 3.7, 5.3, 6.3, 6.4,
6.6 and 10.4). -/

namespace Sys2Proof.Machine

/-! ## One step of a walk -/

section
variable {s : State} {p : Pass} {d : DirectiveRun} {c : Carrier} {act : Cluster → Carrier → Cluster × Bool}

theorem DirectiveRun.walk_one (position : d.position = c.val) (w : Cluster) :
    DirectiveRun.walk act 1 w d = d.step act w c := by
  obtain ⟨n, lt⟩ := c
  cases position
  exact dif_pos lt

theorem State.walkDirective_selected (position : d.position = c.val) (selected : d.selects c (s.ctx c).state = true) :
    s.Stepped (s.walkDirective p d 1 act) p (({ d with begun := true }).count (act s.cluster c).2).next (act s.cluster c).1 := by
  have step : ({ d with begun := true } : DirectiveRun).step act s.cluster c =
      ((act s.cluster c).1, (({ d with begun := true }).count (act s.cluster c).2).next) := if_pos selected
  have stepped := s.walkDirective_stepped p d 1 act
  rwa [DirectiveRun.walk_one (d := { d with begun := true }) position, step] at stepped

theorem State.walkDirective_unselected (position : d.position = c.val) (unselected : ¬d.selects c (s.ctx c).state = true) :
    s.Stepped (s.walkDirective p d 1 act) p { d with begun := true, position := c.val + 1 } s.cluster := by
  have step : ({ d with begun := true } : DirectiveRun).step act s.cluster c =
      (s.cluster, ({ d with begun := true } : DirectiveRun).next) := if_neg unselected
  have stepped := s.walkDirective_stepped p d 1 act
  rwa [DirectiveRun.walk_one (d := { d with begun := true }) position, step, DirectiveRun.next, position] at stepped

end

/-! ## The verdicts -/

theorem firstRefusal_nil : firstRefusal [] = none := rfl

theorem firstRefusal_cons (b : Bool) (code : RefusalCode) (checks : List (Bool × RefusalCode)) :
    firstRefusal ((b, code) :: checks) = if b then firstRefusal checks else some code := by
  cases b <;> rfl

section
variable {w : Cluster} {t : TestSetting} {m : SleepMode} {c k : Carrier}

theorem SleepMode.decide_window (m : SleepMode) (ph : Option WindowPhase) :
    decide (ph = some .opened ∨ (ph = some .shallow ∧ m ≠ .directed true)) = m.windowOk ph := by
  rw [Bool.eq_iff_iff, decide_eq_true_iff, SleepMode.windowOk_iff]

/-- The conditions of the candidate's own, by name. -/
theorem Cluster.firstRefusal_candidateChecks (w : Cluster) (t : TestSetting) (m : SleepMode) (c : Carrier) :
    firstRefusal (w.candidateChecks t m c) =
      (let x := w.ctx c
       if m.windowOk (t.phaseOf x) = false then some .window
       else if t.failsafe = true then some .failsafe
       else if 0 < x.resleepLeft then some .resleep
       else if x.cfg.budget ≤ x.sleepsTonight then some .budget
       else match x.cfg.cover with
         | none => some .noCover
         | some _ =>
           if x.cfg.userCeiling < x.lastUsers then some .users
           else match sleepComparison x with
             | .atLimit | .above => some .load
             | .unordered => some .unordered
             | .below => none) := by
  simp only [Cluster.candidateChecks, firstRefusal_cons, firstRefusal_nil, SleepMode.decide_window, sleepComparison, compareLoad,
    compareOrdered]
  generalize w.ctx c = x
  cases m.windowOk (t.phaseOf x)
  · rfl
  cases t.failsafe
  rotate_left
  · rfl
  rcases Nat.eq_zero_or_pos x.resleepLeft with resleep | resleep
  · rcases Nat.lt_or_ge x.sleepsTonight x.cfg.budget with budget | budget
    · have kept := Nat.not_le.mpr budget
      cases x.cfg.cover with
      | none => simp [resleep, budget, kept]
      | some k =>
        rcases Nat.lt_or_ge x.cfg.userCeiling x.lastUsers with users | users
        · simp [resleep, budget, kept, users, Nat.not_le.mpr users]
        · have few := Nat.not_lt.mpr users
          cases cls : x.cls with
          | fresh =>
            rcases Nat.lt_trichotomy x.load (16 * x.cfg.sleepLimit) with load | load | load
            · simp [resleep, budget, kept, users, few, load]
            · simp [resleep, budget, kept, users, few, load]
            · simp [resleep, budget, kept, users, few, Nat.not_lt.mpr (Nat.le_of_lt load), Nat.ne_of_gt load]
          | absent | aged | clipped => simp [resleep, budget, kept, users, few]
    · simp [resleep, budget, Nat.not_lt.mpr budget]
  · simp [resleep, Nat.ne_of_gt resleep]

/-- The verdict is the candidate's own refusal, or what remains when there is none: the dwell and the cover. -/
theorem Cluster.sleepVerdict_eq (w : Cluster) (t : TestSetting) (m : SleepMode) (c : Carrier) :
    w.sleepVerdict t m c =
      match firstRefusal (w.candidateChecks t m c) with
      | some code => if code = .unordered then .unorderedLoad else .refusedEarly code
      | none =>
        match (w.ctx c).cfg.cover with
        | none => .unorderedLoad
        | some k =>
          if m = .pass ∧ bump 255 (w.ctx c).sleepCount < (w.ctx c).cfg.sleepDwell then .refusedLate .dwellPending
          else w.coverVerdict c k := by
  rw [Cluster.firstRefusal_candidateChecks, Cluster.sleepVerdict]
  generalize w.ctx c = x
  dsimp only
  split
  · rfl
  · split
    · rfl
    · split
      · rfl
      · split
        · rfl
        · cases x.cfg.cover with
          | none => rfl
          | some k =>
            dsimp only
            split
            · rfl
            · cases sleepComparison x <;> rfl

theorem Cluster.sleepVerdict_of_candidate {code : RefusalCode} (h : firstRefusal (w.candidateChecks t m c) = some code) :
    w.sleepVerdict t m c = if code = .unordered then .unorderedLoad else .refusedEarly code := by
  rw [Cluster.sleepVerdict_eq, h]

theorem firstRefusal_ceiling (load limit depth : Nat) :
    (match compareOrdered load limit with
      | .above => some RefusalCode.ceiling
      | .unordered => some RefusalCode.unordered
      | .below | .atLimit => if stackCapacity ≤ depth then some RefusalCode.stackFull else none) =
      if load ≤ limit then if depth < 8 then none else some RefusalCode.stackFull else some RefusalCode.ceiling := by
  have room : (if stackCapacity ≤ depth then some RefusalCode.stackFull else none) =
      if depth < 8 then none else some RefusalCode.stackFull := by
    unfold stackCapacity
    split <;> split <;> first | rfl | omega
  rw [← room, compareOrdered]
  rcases Nat.lt_trichotomy load limit with h | h | h
  · rw [if_pos h, if_pos (Nat.le_of_lt h)]
  · rw [if_neg (Nat.not_lt_of_le (Nat.le_of_eq h.symm)), if_pos h, if_pos (Nat.le_of_eq h)]
  · rw [if_neg (Nat.lt_asymm h), if_neg (Nat.ne_of_gt h), if_neg (Nat.not_le_of_lt h)]

/-- The conditions of the dwell and of the cover, by name. -/
theorem Cluster.firstRefusal_coverChecks (w : Cluster) (m : SleepMode) (c k : Carrier) :
    firstRefusal (w.coverChecks m c k) =
      if m = .pass ∧ bump 255 (w.ctx c).sleepCount < (w.ctx c).cfg.sleepDwell then some .dwellPending
      else match w.coverRefusal c k with
        | some code => some code
        | none =>
          match ceilingComparison (w.ctx k) (w.stack k) (absorbedLoad (w.ctx c) (w.ctx k)) with
          | .above => some .ceiling
          | .unordered => some .unordered
          | .below | .atLimit => if stackCapacity ≤ (w.stack k).length then some .stackFull else none := by
  have dwell : decide (m = .pass → (w.ctx c).cfg.sleepDwell ≤ min 255 ((w.ctx c).sleepCount + 1)) =
      !decide (m = .pass ∧ bump 255 (w.ctx c).sleepCount < (w.ctx c).cfg.sleepDwell) := by
    rw [Bool.eq_iff_iff, decide_eq_true_iff, Bool.not_eq_true', decide_eq_false_iff_not, not_and, bump]
    exact forall_congr' fun _ => by omega
  simp only [Cluster.coverChecks, firstRefusal_cons, firstRefusal_nil, dwell]
  by_cases early : m = .pass ∧ bump 255 (w.ctx c).sleepCount < (w.ctx c).cfg.sleepDwell
  · rw [decide_eq_true early, if_pos early]
    rfl
  · rw [decide_eq_false early, if_neg early, Cluster.coverRefusal]
    cases present : (w.ctx k).cfg.present with
    | false => rfl
    | true =>
      by_cases same : k = c
      · simp [same]
      · by_cases serving : (w.ctx k).state = .serving ∧ (w.ctx k).reserved = false
        · cases entry : w.holdsEntry k with
          | true => simp [same, serving]
          | false =>
            cases cls : (w.ctx k).cls with
            | absent | aged => simp [same, serving, LoadClass.trusted]
            | fresh =>
              simp [same, serving, cls, ceilingComparison, compareLoad, LoadClass.trusted, firstRefusal_ceiling]
            | clipped =>
              simp [same, serving, cls, ceilingComparison, compareLoad, LoadClass.trusted, firstRefusal_ceiling]
        · have not : ¬(w.ctx k).state = .serving ∨ (w.ctx k).reserved = true := by
            rw [Classical.not_and_iff_not_or_not, Bool.not_eq_false] at serving
            exact serving
          simp [same, serving, not]

theorem Cluster.coverRefusal_codes {code : RefusalCode} (h : w.coverRefusal c k = some code) :
    code = .coverIneligible ∨ code = .unordered := by
  unfold Cluster.coverRefusal at h
  dsimp only at h
  repeat' split at h
  all_goals cases h
  iterate 4 exact .inl rfl
  exact .inr rfl

/-- The refusals of the dwell and of the cover. -/
theorem Cluster.sleepVerdict_of_cover {code : RefusalCode} (h : firstRefusal (w.candidateChecks t m c) = none)
    (cover : (w.ctx c).cfg.cover = some k) (g : firstRefusal (w.coverChecks m c k) = some code) :
    w.sleepVerdict t m c =
      if code = .unordered then .unorderedCover k else if code = .stackFull then .stackFull k else .refusedLate code := by
  rw [Cluster.firstRefusal_coverChecks] at g
  rw [Cluster.sleepVerdict_eq, h, cover]
  dsimp only
  by_cases early : m = .pass ∧ bump 255 (w.ctx c).sleepCount < (w.ctx c).cfg.sleepDwell
  · rw [if_pos early] at g ⊢
    cases g
    rfl
  · rw [if_neg early] at g ⊢
    rw [Cluster.coverVerdict]
    cases refusal : w.coverRefusal c k with
    | some other =>
      rw [refusal] at g
      cases g
      rcases Cluster.coverRefusal_codes refusal with rfl | rfl <;> rfl
    | none =>
      rw [refusal] at g
      dsimp only at g ⊢
      cases answer : ceilingComparison (w.ctx k) (w.stack k) (absorbedLoad (w.ctx c) (w.ctx k)) with
      | unordered =>
        rw [answer] at g
        cases g
        rfl
      | above =>
        rw [answer] at g
        cases g
        rfl
      | below | atLimit =>
        rw [answer] at g
        dsimp only at g ⊢
        split at g
        · next full =>
          cases g
          rw [if_pos full]
          rfl
        · cases g

/-! ## What a refusal leaves -/

theorem Cluster.editCtx_congr (w : Cluster) (c : Carrier) {f g : Context → Context} (h : f (w.ctx c) = g (w.ctx c)) :
    w.editCtx c f = w.editCtx c g := by
  simp only [Cluster.editCtx, Context.edit, h]

theorem Context.edit_of_view {f : Context → Context} {x : Context} (h : (f x).view = x.view) : x.edit f = f x := by
  simp [Context.edit, h]

theorem Context.edit_refuse (x : Context) (m : SleepMode) (code : RefusalCode) (count : Nat) :
    x.edit (Context.refuse m code count) = { x with
      lastRefusal := some code
      sleepCount := if m = .pass then count else x.sleepCount
      dirty := x.dirty || decide (x.lastRefusal ≠ some code) } := by
  simp [Context.edit, Context.refuse, Context.view, eq_comm]

theorem Context.edit_unorderedNow (x : Context) :
    (x.edit fun y => { y with unorderedNow := true }) =
      { x with unorderedNow := true, dirty := x.dirty || decide (x.unorderedNow = false) } := by
  cases mark : x.unorderedNow <;> simp [Context.edit, Context.view, mark]

theorem Context.edit_overflowSeen (x : Context) :
    (x.edit fun y => { y with overflowSeen := true }) =
      { x with overflowSeen := true, dirty := x.dirty || decide (x.overflowSeen = false) } := by
  cases mark : x.overflowSeen <;> simp [Context.edit, Context.view, mark]

theorem Cluster.refused_code (w : Cluster) (t : TestSetting) (m : SleepMode) (c : Carrier) (code : RefusalCode) (count : Nat) :
    w.Refused (w.editCtx c (Context.refuse m code count)) t m c code count none none := by
  refine ⟨fun d => ?_, rfl⟩
  rw [Cluster.ctx_editCtx]
  by_cases h : c = d
  · subst h
    simp [Context.edit_refuse]
  · simp [h, Ne.symm h]

theorem Cluster.refused_unordered (w : Cluster) (t : TestSetting) (m : SleepMode) (c : Carrier) (code : RefusalCode)
    (count : Nat) (u : Carrier) :
    w.Refused ((w.editCtx c (Context.refuse m code count)).markUnordered u t.policy.strictData) t m c code count (some u)
      none := by
  have ctx (d : Carrier) : ((w.editCtx c (Context.refuse m code count)).editCtx u fun y => { y with unorderedNow := true }).ctx d =
      { w.ctx d with
        lastRefusal := if d = c then some code else (w.ctx d).lastRefusal
        sleepCount := if d = c ∧ m = .pass then count else (w.ctx d).sleepCount
        unorderedNow := (w.ctx d).unorderedNow || decide (some u = some d)
        overflowSeen := (w.ctx d).overflowSeen || decide (none = some d)
        dirty := (w.ctx d).dirty || decide (d = c ∧ (w.ctx d).lastRefusal ≠ some code) ||
          decide (some u = some d ∧ (w.ctx d).unorderedNow = false) ||
          decide (none = some d ∧ (w.ctx d).overflowSeen = false) } := by
    by_cases hc : c = d <;> by_cases hu : u = d
    · subst hc; subst hu
      simp [Context.edit_unorderedNow, Context.edit_refuse]
    · subst hc
      simp [Cluster.ctx_editCtx_ne _ hu, Context.edit_refuse, hu]
    · subst hu
      simp [Cluster.ctx_editCtx_ne _ hc, Context.edit_unorderedNow, Ne.symm hc]
    · simp [Cluster.ctx_editCtx_ne _ hc, Cluster.ctx_editCtx_ne _ hu, Ne.symm hc, hu]
  rw [Cluster.markUnordered]
  cases strict : t.policy.strictData with
  | false => exact ⟨ctx, by rw [strict]; rfl⟩
  | true => exact ⟨ctx, by rw [strict]; rfl⟩

theorem Cluster.refused_full (w : Cluster) (t : TestSetting) (m : SleepMode) (c : Carrier) (code : RefusalCode)
    (count : Nat) (u : Carrier) :
    w.Refused ((w.editCtx c (Context.refuse m code count)).editCtx u fun x => { x with overflowSeen := true }) t m c code count
      none (some u) := by
  refine ⟨fun d => ?_, rfl⟩
  by_cases hc : c = d <;> by_cases hu : u = d
  · subst hc; subst hu
    simp [Context.edit_overflowSeen, Context.edit_refuse]
  · subst hc
    simp [Cluster.ctx_editCtx_ne _ hu, Context.edit_refuse, hu]
  · subst hu
    simp [Cluster.ctx_editCtx_ne _ hc, Context.edit_overflowSeen, Ne.symm hc]
  · simp [Cluster.ctx_editCtx_ne _ hc, Cluster.ctx_editCtx_ne _ hu, Ne.symm hc, hu]

/-- The sleep test refuses as the first condition that fails says. -/
theorem Cluster.sleepTest_refusesTest (w : Cluster) (t : TestSetting) (m : SleepMode) (c : Carrier) :
    w.RefusesTest (w.sleepTest t m c) t m c := by
  have late (code : RefusalCode) : w.editCtx c (fun x => x.refuse m code (bump 255 x.sleepCount)) =
      w.editCtx c (Context.refuse m code (bump 255 (w.ctx c).sleepCount)) := w.editCtx_congr c rfl
  refine ⟨fun code refusal => ?_, fun k code passed cover refusal => ?_⟩
  · rw [Cluster.sleepTest, Cluster.sleepVerdict_of_candidate refusal]
    by_cases unordered : code = .unordered
    · rw [if_pos unordered, if_pos unordered, unordered]
      exact w.refused_unordered t m c _ 0 c
    · rw [if_neg unordered, if_neg unordered]
      exact w.refused_code t m c code 0
  · rw [Cluster.sleepTest, Cluster.sleepVerdict_of_cover passed cover refusal]
    by_cases unordered : code = .unordered
    · rw [if_pos unordered, if_pos unordered, if_neg (by rw [unordered]; decide), unordered, Cluster.applyVerdict, late]
      exact w.refused_unordered t m c _ _ k
    · by_cases full : code = .stackFull
      · rw [if_neg unordered, if_neg unordered, if_pos full, if_pos full, full, Cluster.applyVerdict, late]
        exact w.refused_full t m c _ _ k
      · rw [if_neg unordered, if_neg unordered, if_neg full, if_neg full, Cluster.applyVerdict, late]
        exact w.refused_code t m c code _

/-- A test that does not reserve leaves every reserved-sleep mark. -/
theorem Cluster.sleepTest_cases (w : Cluster) (t : TestSetting) (m : SleepMode) (c : Carrier) :
    (∃ k, w.Admits t m c k) ∨ ∀ d, ((w.sleepTest t m c).ctx d).reserved = (w.ctx d).reserved := by
  have refused {v : Cluster} {code : RefusalCode} {count : Nat} {u o : Option Carrier} (h : w.Refused v t m c code count u o)
      (d : Carrier) : (v.ctx d).reserved = (w.ctx d).reserved := by rw [h.1 d]
  have late (code : RefusalCode) : w.editCtx c (fun x => x.refuse m code (bump 255 x.sleepCount)) =
      w.editCtx c (Context.refuse m code (bump 255 (w.ctx c).sleepCount)) := w.editCtx_congr c rfl
  rw [Cluster.sleepTest]
  cases verdict : w.sleepVerdict t m c with
  | admitted k a => exact .inl ⟨k, (Cluster.admits_of_verdict verdict).1⟩
  | refusedEarly code => exact .inr (refused (w.refused_code t m c code 0))
  | unorderedLoad => exact .inr (refused (w.refused_unordered t m c _ 0 c))
  | refusedLate code =>
    rw [Cluster.applyVerdict, late]
    exact .inr (refused (w.refused_code t m c code _))
  | unorderedCover k =>
    rw [Cluster.applyVerdict, late]
    exact .inr (refused (w.refused_unordered t m c _ _ k))
  | stackFull k =>
    rw [Cluster.applyVerdict, late]
    exact .inr (refused (w.refused_full t m c _ _ k))

/-! ## A reservation -/

theorem Cluster.ctx_reserve (w : Cluster) {c k : Carrier} (away : k ≠ c) (a : Nat) (reason : Reason) (deepen : Bool) (d : Carrier) :
    (w.reserve c k a reason deepen).ctx d =
      if d = c then
        { w.ctx c with reserved := true, sleepCount := 0, lastReason := some reason, lastRefusal := none, dirty := true }
      else if d = k then { w.ctx k with overflowSeen := false, sleepCount := 0, dirty := true } else w.ctx d := by
  rw [Cluster.reserve]
  dsimp only
  rw [Cluster.ctx_want, Cluster.ctx_markDirty]
  by_cases hc : d = c
  · subst hc
    simp [Cluster.ctx_editCtx, Cluster.ctx_markDirty, away, Context.edit]
  · rw [if_neg (Ne.symm hc), if_neg hc, Cluster.ctx_editCtx_ne _ (Ne.symm hc), Cluster.ctx_markDirty]
    by_cases hk : d = k
    · subst hk
      simp [Context.edit]
    · rw [if_neg (Ne.symm hk), if_neg hk, Cluster.ctx_editCtx_ne _ (Ne.symm hk)]
      rfl

theorem Cluster.reserve_reserved (w : Cluster) {c k : Carrier} (away : k ≠ c) (free : w.Unasked c) (reason : Reason) (deepen : Bool) :
    w.Reserved (w.reserve c k (absorbedLoad (w.ctx c) (w.ctx k)) reason deepen) c k reason deepen := by
  generalize absorbed : absorbedLoad (w.ctx c) (w.ctx k) = a
  have ctx := w.ctx_reserve away a reason deepen
  have stack (d : Carrier) : (w.reserve c k a reason deepen).stack d =
      if k = d then
        w.stack k ++ [{ carrier := c, phase := .reserved, absorbed := a, depth := .none, settle := 0, reason, deepenAtOnce := deepen }]
      else w.stack d := (Cluster.stack_want ..).trans (Cluster.stack_setStack ..)
  unfold Cluster.Reserved
  rw [absorbed]
  refine ⟨(stack k).trans (if_pos rfl), (ctx c).trans (if_pos rfl), (ctx k).trans ((if_neg away).trans (if_pos rfl)), ?_,
    fun d hc hk => (ctx d).trans ((if_neg hc).trans (if_neg hk)), fun d h => (stack d).trans (if_neg (Ne.symm h)),
    fun j h => ?_, w.onlyCarriers_reserve c k a reason deepen⟩
  · exact Cluster.lane_want_of_unasked (w := (((((w.setStack k _).editCtx k _).markDirty k).editCtx c _).markDirty c)) free .gate
  · exact (((((w.setStack k _).editCtx k _).markDirty k).editCtx c _).markDirty c).lane_want_ne h .gate

/-- A test under the twelve conditions reserves. -/
theorem Cluster.sleepTest_of_admits (h : w.Admits t m c k) :
    ∃ reason deepen, w.sleepTest t m c = w.reserve c k (absorbedLoad (w.ctx c) (w.ctx k)) reason deepen ∧
      (m = .pass → reason = .dwell ∧ deepen = false) ∧ ∀ dark, m = .directed dark → reason = .directed ∧ deepen = dark := by
  rw [Cluster.sleepTest, Cluster.verdict_of_admits h]
  cases m with
  | pass => exact ⟨.dwell, false, rfl, fun _ => ⟨rfl, rfl⟩, nofun⟩
  | directed dark => exact ⟨.directed, dark, rfl, nofun, fun _ is => by cases is; exact ⟨rfl, rfl⟩⟩

/-- The carriers whose mark a reservation sets. -/
theorem Cluster.reserved_sleepTest {d : Carrier} (unmarked : (w.ctx d).reserved = false)
    (marked : ((w.sleepTest t m c).ctx d).reserved = true) : d = c ∧ ∃ k, w.Admits t m c k := by
  rcases w.sleepTest_cases t m c with ⟨k, admits⟩ | same
  · refine ⟨?_, k, admits⟩
    obtain ⟨reason, deepen, test, -⟩ := Cluster.sleepTest_of_admits admits
    have away : k ≠ c := by
      obtain ⟨-, -, -, -, -, -, -, -, -, -, away, -⟩ := admits
      exact away
    rw [test, w.ctx_reserve away] at marked
    refine Classical.byContradiction fun other => ?_
    rw [if_neg other] at marked
    split at marked
    · next is =>
      subst is
      exact absurd (unmarked.symm.trans marked) (by decide)
    · exact absurd (unmarked.symm.trans marked) (by decide)
  · rw [same, unmarked] at marked
    cases marked

/-! ## The decision visit -/

theorem Cluster.passVisit_of_testable (h : w.Testable c) : w.passVisit t c = w.sleepTest t .pass c := by
  obtain ⟨present, serving, unreserved, bare, free⟩ := h
  simp [Cluster.passVisit, Cluster.visit, present, serving, unreserved, bare, free]

theorem Cluster.passVisit_of_held (present : (w.ctx c).cfg.present = true) (serving : (w.ctx c).state = .serving)
    (unreserved : (w.ctx c).reserved = false) (bare : w.stack c = []) (held : (w.ctx c).holdLeft ≠ 0) :
    w.passVisit t c = w.editCtx c fun y => { y with sleepCount := 0 } := by
  simp [Cluster.passVisit, Cluster.visit, present, serving, unreserved, bare, held]

theorem Cluster.passVisit_of_omitted (h : (w.ctx c).cfg.present = false ∨
    (w.stack c = [] ∧ (w.ctx c).state ≠ .light ∧ ((w.ctx c).state = .serving → (w.ctx c).reserved = true))) :
    w.passVisit t c = w := by
  rw [Cluster.passVisit]
  cases present : (w.ctx c).cfg.present with
  | false => rfl
  | true =>
    obtain ⟨bare, notLight, reserved⟩ := h.resolve_left (by rw [present]; decide)
    cases state : (w.ctx c).state with
    | serving => simp [Cluster.visit, bare, state, reserved state]
    | light => exact absurd state notLight
    | unmanaged | unknown | stray | draining | lowering | deepening | dark | warming | raising | faulted =>
      simp [Cluster.visit, bare, state]

theorem Cluster.reserved_wakePop (w : Cluster) (k : Carrier) {d : Carrier} (h : (w.ctx d).reserved = false) :
    ((w.wakePop k).ctx d).reserved = false := by
  rw [Cluster.wakePop]
  split
  · next e _ =>
    have woken : ((w.wakeRequest e.carrier .coverLoad).ctx d).reserved = false :=
      (w.roused_wakeRequest e.carrier .coverLoad d).reserved h
    by_cases own : k = d
    · subst own
      rw [Cluster.ctx_editCtx_self]
      exact woken
    · rw [Cluster.ctx_editCtx_ne _ own]
      exact woken
  · exact h

theorem Cluster.reserved_wakeTest (w : Cluster) (k : Carrier) (strict : Bool) {d : Carrier} (h : (w.ctx d).reserved = false) :
    ((w.wakeTest k strict).ctx d).reserved = false := by
  have counted : ((w.countWake k strict).ctx d).reserved = false := by
    rw [(w.countWake_spec k strict).1 d]
    split
    · next own =>
      subst own
      exact h
    · exact h
  rw [Cluster.wakeTest]
  split
  · exact (w.countWake k strict).reserved_wakePop k counted
  · exact counted

theorem Cluster.ctx_passVisit_of_light (light : (w.ctx c).state = .light) (d : Carrier) :
    (w.passVisit t c).ctx d = w.ctx d := by
  have tested (v : Cluster) : (v.deepenTest t c).ctx d = v.ctx d := by
    rw [Cluster.deepenTest]
    split
    · split
      · exact Cluster.ctx_want ..
      · rfl
    · split <;> rfl
  rw [Cluster.passVisit]
  split
  · by_cases bare : w.stack c = []
    · simp [Cluster.visit, bare, light, tested]
    · have aged : (w.ageSettling c t.policy.settle).ctx c = w.ctx c := rfl
      simp [Cluster.visit, bare, aged, light, tested]
      rfl
  · rfl

/-- A visit sets no mark but that of the carrier visited, under the twelve conditions. -/
theorem Cluster.reserved_passVisit {d : Carrier} (unmarked : (w.ctx d).reserved = false)
    (marked : ((w.passVisit t c).ctx d).reserved = true) : d = c ∧ w.Testable c ∧ ∃ k, w.Admits t .pass c k := by
  by_cases testable : w.Testable c
  · rw [Cluster.passVisit_of_testable testable] at marked
    obtain ⟨own, admits⟩ := Cluster.reserved_sleepTest unmarked marked
    exact ⟨own, testable, admits⟩
  · refine absurd (Eq.symm marked) ?_
    have kept : ((w.passVisit t c).ctx d).reserved = false := by
      by_cases light : (w.ctx c).state = .light
      · rw [Cluster.ctx_passVisit_of_light light]
        exact unmarked
      · cases present : (w.ctx c).cfg.present with
        | false =>
          rw [Cluster.passVisit_of_omitted (.inl present)]
          exact unmarked
        | true =>
          by_cases bare : w.stack c = []
          · by_cases candidate : (w.ctx c).state = .serving ∧ (w.ctx c).reserved = false
            · have held : (w.ctx c).holdLeft ≠ 0 := fun h => testable ⟨present, candidate.1, candidate.2, bare, h⟩
              rw [Cluster.passVisit_of_held present candidate.1 candidate.2 bare held, Cluster.ctx_editCtx]
              split
              · next own =>
                subst own
                exact unmarked
              · exact unmarked
            · rw [Cluster.passVisit_of_omitted (.inr ⟨bare, light, fun h => by simpa [h] using candidate⟩)]
              exact unmarked
          · obtain ⟨ofServing, ofOther⟩ := Cluster.passVisit_of_owner (t := t) present bare
            by_cases serving : (w.ctx c).state = .serving
            · rw [ofServing serving]
              exact (w.ageSettling c t.policy.settle).reserved_wakeTest c _ unmarked
            · rw [ofOther serving light]
              exact unmarked
    rw [kept]
    decide

end

/-- What a pass does after a visit leaves the marks. -/
theorem State.reserved_visitNext (s : State) (p : Pass) (c d : Carrier) :
    ((s.visitNext p c.val).ctx d).reserved = ((s.cluster.passVisit s.setting c).ctx d).reserved := by
  rw [State.visitNext, dif_pos c.isLt]
  dsimp only
  split
  · rw [State.ctx, State.cluster_enterPhase, State.cluster_testReleasingEnd]
    rfl
  · refine ((State.hands_beginWriteBack _ p).alike.reserved d).trans ?_
    rw [State.cluster_testReleasingEnd]
    rfl

/-! ## SLEEP_NOW -/

theorem exec_sleepNow {s : State} {p : Pass} {d : DirectiveRun} (h : s.Executing p d (some .sleepNow))
    (begins : d.begun = true ∨ s.runState = .running) :
    exec (.sleepNow 1) s = .next
      (if d.stopped then s.walkDirective p d 1 skipCarrier
       else s.walkDirective p d 1 (sleepNowCarrier s.setting (d.param 0 == 2))) := by
  have judged : ¬(d.begun = false ∧ s.runState ≠ .running) := fun g => by
    rcases begins with h | h
    · exact absurd (h.symm.trans g.1) (by decide)
    · exact g.2 h
  simp only [exec, execSleepNow, State.directiveOf_executing h]
  rw [if_neg judged]

/-- Settles O34: where the twelve conditions hold the test reserves. -/
theorem sleepReserved : Obligations.SleepReserved := by
  refine ⟨fun s p c k testable free => ⟨fun visits admits => ?_, fun d executing going begins position selected admits => ?_⟩,
    fun s p c d executing begins position => ⟨fun selected stopped => ?_, fun unselected => ?_⟩⟩
  · obtain ⟨reason, deepen, test, dwell, -⟩ := Cluster.sleepTest_of_admits admits
    obtain ⟨rfl, rfl⟩ := dwell rfl
    have away : k ≠ c := by
      obtain ⟨-, -, -, -, -, -, -, -, -, -, away, -⟩ := admits
      exact away
    obtain ⟨t, done, after⟩ := State.visited visits ((Cluster.passVisit_of_testable testable).trans test)
    exact ⟨t, _, done, s.cluster.reserve_reserved away free _ _, after⟩
  · obtain ⟨reason, deepen, test, -, directed⟩ := Cluster.sleepTest_of_admits admits
    obtain ⟨rfl, rfl⟩ := directed _ rfl
    have away : k ≠ c := by
      obtain ⟨-, -, -, -, -, -, -, -, -, -, away, -⟩ := admits
      exact away
    have done := exec_sleepNow executing begins
    rw [going] at done
    have reserved := s.cluster.reserve_reserved away free .directed (d.param 0 == 2)
    have act : sleepNowCarrier s.setting (d.param 0 == 2) s.cluster c =
        (s.cluster.sleepTest s.setting (.directed (d.param 0 == 2)) c, true) := by
      rw [sleepNowCarrier, if_pos ((s.cluster.sleepTestable_iff c).mpr testable), test]
      refine congrArg (Prod.mk _) ?_
      rw [s.cluster.ctx_reserve away, if_pos rfl]
    have serving : (s.ctx c).state = .serving := testable.2.1
    have stepped := State.walkDirective_selected (s := s) (p := p) (act := sleepNowCarrier s.setting (d.param 0 == 2)) position
      (by rw [serving]; exact selected)
    rw [act, test] at stepped
    refine ⟨_, _, done, reserved, ?_⟩
    simpa [DirectiveRun.count, DirectiveRun.next, position] using stepped
  · have done := exec_sleepNow executing begins
    rw [stopped] at done
    have stepped := State.walkDirective_selected (s := s) (p := p) (act := skipCarrier) position selected
    refine ⟨_, done, ?_⟩
    simpa [DirectiveRun.count, DirectiveRun.next, position, skipCarrier] using stepped
  · refine ⟨_, exec_sleepNow executing begins, ?_⟩
    split
    · exact State.walkDirective_unselected position unselected
    · exact State.walkDirective_unselected position unselected

/-- Settles O35: the first condition that fails refuses, and no other carrier is reserved. -/
theorem reservationNeedsEveryCondition : Obligations.ReservationNeedsEveryCondition := by
  refine ⟨fun s t p c d visits done unmarked marked => ?_, fun s p c visits => ⟨fun testable fails => ?_, ?_, fun omitted => ?_⟩,
    fun s p c d executing going begins position selected => ⟨fun testable fails => ?_, fun untestable => ?_⟩⟩
  · have is : s.visitNext p c.val = t := Host.Outcome.next.inj ((exec_decisionVisit visits).symm.trans done)
    rw [← is, State.reserved_visitNext] at marked
    exact Cluster.reserved_passVisit unmarked marked
  · obtain ⟨t, done, after⟩ := State.visited visits (Cluster.passVisit_of_testable testable)
    exact ⟨t, _, done, s.cluster.sleepTest_refusesTest _ _ c, after⟩
  · intro present serving unreserved bare held
    obtain ⟨t, done, after⟩ := State.visited visits (Cluster.passVisit_of_held present serving unreserved bare held)
    refine ⟨t, _, done, ?_, fun d other => Cluster.ctx_editCtx_ne _ (Ne.symm other) _, rfl, after⟩
    rw [Cluster.ctx_editCtx_self]
    exact Context.edit_of_view rfl
  · exact State.visited visits (Cluster.passVisit_of_omitted omitted)
  · have done := exec_sleepNow executing begins
    rw [going] at done
    have unmarked : ((s.cluster.sleepTest s.setting (.directed (d.param 0 == 2)) c).ctx c).reserved = false := by
      rcases s.cluster.sleepTest_cases s.setting (.directed (d.param 0 == 2)) c with admits | same
      · exact absurd admits fails
      · exact (same c).trans testable.2.2.1
    have act : sleepNowCarrier s.setting (d.param 0 == 2) s.cluster c =
        (s.cluster.sleepTest s.setting (.directed (d.param 0 == 2)) c, false) := by
      rw [sleepNowCarrier, if_pos ((s.cluster.sleepTestable_iff c).mpr testable)]
      exact congrArg (Prod.mk _) unmarked
    have stepped := State.walkDirective_selected (s := s) (p := p) (act := sleepNowCarrier s.setting (d.param 0 == 2)) position
      selected
    rw [act] at stepped
    refine ⟨_, _, done, s.cluster.sleepTest_refusesTest _ _ c, ?_⟩
    simpa [DirectiveRun.count, DirectiveRun.next, position] using stepped
  · have done := exec_sleepNow executing begins
    rw [going] at done
    have act : sleepNowCarrier s.setting (d.param 0 == 2) s.cluster c = (s.cluster, false) :=
      if_neg fun h => untestable ((s.cluster.sleepTestable_iff c).mp h)
    have stepped := State.walkDirective_selected (s := s) (p := p) (act := sleepNowCarrier s.setting (d.param 0 == 2)) position
      selected
    rw [act] at stepped
    refine ⟨_, done, ?_⟩
    simpa [DirectiveRun.count, DirectiveRun.next, position] using stepped

end Sys2Proof.Machine
end

section
/-! The replies to GATE, SHED, LOWER, DARKEN and WARM, and BUSY below the wake attempts (section 8.4). -/

namespace Sys2Proof.Machine

/-! ## A reply that is taken -/

section
variable {s : State} {i : Site} {frame : List Byte} {o : Outstanding} {r : Reply}

/-- The state after a reply that has left the cluster v. -/
def State.replied (s : State) (v : Cluster) : State := { s with runState := s.runAfter v, cluster := v }

theorem exec_answered (h : s.Answered i frame o r) {v : Cluster} (handled : (s.cluster.retire i).handleReply s.policy o r = v) :
    exec (.radioReply i frame) s = .next (s.replied v) := by
  obtain ⟨parsed, tag, outstanding, -⟩ := h
  have taken : s.cluster.takeReply s.policy i r = v := by
    rw [Cluster.takeReply, show (s.cluster.lane i).outstanding = some o from outstanding]
    exact handled
  simp only [exec, execRadioReply, parsed, tag, if_true]
  rw [show (s.on fun w => w.takeReply s.policy i r) = s.on fun _ => v from congrArg (fun w => { s with cluster := w }) taken,
    State.testReleasingEnd_on]
  rfl

end

/-- At the site the lane is l and the tag retired; every other lane and channel is as it was. -/
def Cluster.LanesAfter (w v : Cluster) (i : Site) (l : Lane) : Prop :=
  v.lane i = l ∧ v.channel i = (w.channel i).retired ∧ ∀ j : Site, j ≠ i → v.lane j = w.lane j ∧ v.channel j = w.channel j

section
variable {w u : Cluster} {c : Carrier}

/-- Lanes and channels are those after the retirement of the carrier's command. -/
structure Cluster.Retired (w u : Cluster) (c : Carrier) : Prop where
  lane : ∀ j, u.lane j = (w.retire (siteOf c)).lane j
  channel : ∀ j, u.channel j = (w.retire (siteOf c)).channel j

theorem Cluster.Retired.ended (h : w.Retired u c) : w.LanesAfter u (siteOf c) (w.lane (siteOf c)).ended := by
  refine ⟨?_, ?_, fun j other => ⟨?_, ?_⟩⟩
  · rw [h.lane, w.lane_retire, if_pos rfl]
  · rw [h.channel, w.channel_retire, if_pos rfl]
  · rw [h.lane, w.lane_retire, if_neg (Ne.symm other)]
  · rw [h.channel, w.channel_retire, if_neg (Ne.symm other)]

theorem Cluster.Retired.unasked (h : w.Retired u c) (free : w.wantOf c = none) : u.Unasked c := by
  have free' := w.unasked_retire free
  unfold Cluster.Unasked Cluster.wantOf Cluster.isOutstanding at *
  rw [h.lane]
  exact free'

theorem Cluster.Retired.joined (h : w.Retired u c) (free : w.wantOf c = none) (command : RadioCommand) (wait attempt : Nat) :
    w.LanesAfter (u.joinWant c command wait attempt) (siteOf c) ((w.lane (siteOf c)).ended.joined c command wait attempt) := by
  obtain ⟨lane, channel, others⟩ := h.ended
  rw [u.joinWant_of_unasked command wait attempt (h.unasked free)]
  refine ⟨?_, channel, fun j other => ⟨?_, (others j other).2⟩⟩
  · rw [Cluster.lane_setLane_self, lane]
  · rw [Cluster.lane_setLane_ne _ (Ne.symm other), (others j other).1]

theorem Cluster.Retired.want (h : w.Retired u c) (free : w.wantOf c = none) (command : RadioCommand) :
    w.LanesAfter (u.want c command) (siteOf c) ((w.lane (siteOf c)).ended.joined c command 0 1) := h.joined free command 0 1

theorem Cluster.retired_retire (w : Cluster) (c : Carrier) : w.Retired (w.retire (siteOf c)) c := ⟨fun _ => rfl, fun _ => rfl⟩

theorem Cluster.Retired.editCtx (h : w.Retired u c) (d : Carrier) (f : Context → Context) : w.Retired (u.editCtx d f) c :=
  ⟨h.lane, h.channel⟩

theorem Cluster.Retired.editEntry (h : w.Retired u c) (d : Carrier) (f : Entry → Entry) : w.Retired (u.editEntry d f) c :=
  ⟨fun j => (Cluster.lane_editEntry ..).trans (h.lane j), fun j => (Cluster.channel_editEntry ..).trans (h.channel j)⟩

theorem Cluster.Retired.turnBack (h : w.Retired u c) (d : Carrier) (r : Reason) : w.Retired (u.turnBack d r) c :=
  ⟨fun j => (u.lane_turnBack d r j).trans (h.lane j),
    fun j => ((u.onlyCarriers_turnBack d r).channel j).trans (h.channel j)⟩

@[simp] theorem Cluster.isReturning_retire (w : Cluster) (i : Site) (c : Carrier) : (w.retire i).isReturning c = w.isReturning c := rfl

@[simp] theorem Cluster.entryOf_retire (w : Cluster) (i : Site) (c : Carrier) : (w.retire i).entryOf c = w.entryOf c := rfl

/-- Nothing but contexts, stacks, lanes and channels has changed since the retirement. -/
theorem State.onlyTables_replied {s : State} {i : Site} {v : Cluster} (h : (s.cluster.retire i).OnlyCarriers v) :
    s.OnlyTables (s.replied v) := by
  obtain ⟨a, b, d, rfl⟩ : ∃ a b d, v = { s.cluster.retire i with contexts := a, coverStacks := b, lanes := d } := ⟨_, _, _, h⟩
  rfl

end

/-! ## A carrier that changes its state -/

theorem Context.edit_of_state {f : Context → Context} {x : Context} (h : (f x).state ≠ x.state) :
    x.edit f = { f x with dirty := true } := by
  have view : decide ((f x).view ≠ x.view) = true := decide_eq_true fun g => h (congrArg MirrorView.state g)
  rw [Context.edit, view, Bool.or_true]

/-- A change of state from one that R26 gives no more than the dwell counts to clear. -/
theorem Context.enter_of {x : Context} (st : CarrierState) (light : x.state ≠ .light) (unknown : x.state ≠ .unknown)
    (stray : x.state ≠ .stray) : x.enter st = { x with state := st, sleepCount := 0, wakeCount := 0 } := by
  simp [Context.enter, light, unknown, stray]

/-! ## The drain -/

theorem Cluster.coverStacks_joinWant (w : Cluster) (c : Carrier) (command : RadioCommand) (wait attempt : Nat) :
    (w.joinWant c command wait attempt).coverStacks = w.coverStacks :=
  (congrArg Cluster.coverStacks (w.joinWant_spec c command wait attempt).1).trans rfl

/-- The handling of a want alone. -/
theorem State.replied_want {s : State} {c : Carrier} {command : RadioCommand} {wait attempt : Nat} :
    (let t := s.replied ((s.cluster.retire (siteOf c)).joinWant c command wait attempt)
     t = { s with
       runState := s.runAfter t.cluster
       cluster := { s.cluster with lanes := t.cluster.lanes, channels := t.cluster.channels } }) := by
  obtain ⟨a, h⟩ : ∃ a, (s.cluster.retire (siteOf c)).joinWant c command wait attempt =
      { s.cluster.retire (siteOf c) with lanes := a } := ⟨_, (Cluster.joinWant_spec ..).1⟩
  rw [h]
  rfl

theorem Context.edit_draining {x : Context} (lowering : x.state = .lowering) :
    x.edit (Context.enter .draining) = { x with state := .draining, sleepCount := 0, wakeCount := 0, dirty := true } := by
  rw [Context.edit_of_state (by simp [lowering]), Context.enter_of _ (by simp [lowering]) (by simp [lowering]) (by simp [lowering])]

/-- A reply that turns the drain back: the entry is RETURNING with the reason, and OPEN is wanted. -/
theorem Cluster.Retired.turnedBack {w u : Cluster} {c k : Carrier} (h : w.Retired u c) (free : w.wantOf c = none)
    (host : w.hostOf c = some k) (stack : ∀ d, u.stack d = w.stack d) (others : ∀ d, d ≠ c → u.ctx d = w.ctx d)
    (reason : Reason) :
    (let v := (u.turnBack c reason).want c .reopen
     v.ctx c = (u.ctx c).noted reason ∧
     v.stack k = (w.stack k).map (fun e => if e.carrier = c then { e with phase := .returning, reason := reason } else e) ∧
     (∀ d, d ≠ k → v.stack d = w.stack d) ∧
     w.LanesAfter v (siteOf c) ((w.lane (siteOf c)).ended.joined c .reopen 0 1) ∧ ∀ d, d ≠ c → v.ctx d = w.ctx d) := by
  have host' : u.hostOf c = some k := by
    unfold Cluster.hostOf at *
    simpa only [stack] using host
  refine ⟨?_, ?_, fun d other => ?_, (h.turnBack c reason).want free .reopen, fun d other => ?_⟩
  · rw [Cluster.ctx_want, Cluster.ctx_turnBack, if_pos rfl]
  · rw [Cluster.stack_want, Cluster.stack_turnBack, if_pos host', stack]
  · rw [Cluster.stack_want, Cluster.stack_turnBack, if_neg fun g => other (Option.some.inj (g.symm.trans host')), stack]
  · rw [Cluster.ctx_want, Cluster.ctx_turnBack, if_neg other, others d other]

/-- Settles O43, by the command and the outcome. -/
theorem drainSteps : Obligations.DrainSteps := by
  refine ⟨fun s i frame o r answered free => ?_, fun s i frame o r k answered free host forth => ?_⟩
  · obtain rfl := answered.2.2.2
    have wanted {command : RadioCommand} {wait attempt : Nat}
        (handled : (s.cluster.retire (siteOf o.carrier)).handleReply s.policy o r =
          (s.cluster.retire (siteOf o.carrier)).joinWant o.carrier command wait attempt) :=
      And.intro (exec_answered answered handled)
        (And.intro ((s.cluster.retired_retire o.carrier).joined free command wait attempt)
          (State.replied_want (s := s) (c := o.carrier) (command := command) (wait := wait) (attempt := attempt)))
    refine ⟨fun is ack forth => ⟨_, wanted ?_⟩, fun is ack back => ⟨_, wanted ?_⟩, fun is outcome back => ⟨_, wanted ?_⟩,
      fun is forth ack few => ⟨_, wanted ?_⟩, fun is forth full below => ⟨_, wanted ?_⟩, fun is busy lowering back => ?_⟩
    · simp only [Cluster.handleReply, is, Cluster.gateReply, ack, Cluster.isReturning_retire, forth]
      rfl
    · simp only [Cluster.handleReply, is, Cluster.gateReply, ack, Cluster.isReturning_retire, back]
      rfl
    · rcases outcome with h | h
      · simp only [Cluster.handleReply, is, Cluster.shedReply, h, Cluster.isReturning_retire, back]
        rfl
      · simp only [Cluster.handleReply, is, Cluster.shedReply, h, Cluster.isReturning_retire, back]
        rfl
    · simp only [Cluster.handleReply, is, Cluster.shedReply, ack, Cluster.isReturning_retire, forth, few]
      rfl
    · rcases full with h | ⟨h, many⟩
      · simp only [Cluster.handleReply, is, Cluster.shedReply, h, Cluster.isReturning_retire, forth, Cluster.shedAgain, below]
        rfl
      · simp only [Cluster.handleReply, is, Cluster.shedReply, h, Cluster.isReturning_retire, forth, Cluster.shedAgain, below,
          Nat.not_le.mpr many]
        rfl
    · have handled : (s.cluster.retire (siteOf o.carrier)).handleReply s.policy o r =
          ((s.cluster.retire (siteOf o.carrier)).editCtx o.carrier (Context.enter .draining)).want o.carrier .reopen := by
        simp only [Cluster.handleReply, is, Cluster.lowerReply, busy, Cluster.isReturning_retire, back]
        rfl
      have retired := (s.cluster.retired_retire o.carrier).editCtx o.carrier (Context.enter .draining)
      have only : (s.cluster.retire (siteOf o.carrier)).OnlyCarriers
          (((s.cluster.retire (siteOf o.carrier)).editCtx o.carrier (Context.enter .draining)).want o.carrier .reopen) :=
        (Cluster.onlyCarriers_want ..).after rfl
      refine ⟨_, exec_answered answered handled, ?_, ?_, retired.want free .reopen, fun d other => ?_, State.onlyTables_replied only⟩
      · refine (Cluster.ctx_want ..).trans ((Cluster.ctx_editCtx_self ..).trans (Context.edit_draining lowering))
      · exact (Cluster.coverStacks_joinWant ..).trans rfl
      · exact (Cluster.ctx_want ..).trans (Cluster.ctx_editCtx_ne _ (Ne.symm other) _)
  · obtain rfl := answered.2.2.2
    refine ⟨fun is outcome spent => ?_, fun is busy lowering => ?_⟩
    · have handled : (s.cluster.retire (siteOf o.carrier)).handleReply s.policy o r =
          ((s.cluster.retire (siteOf o.carrier)).turnBack o.carrier .abandonUsers).want o.carrier .reopen := by
        rcases outcome with h | ⟨h, many⟩
        · simp only [Cluster.handleReply, is, Cluster.shedReply, h, Cluster.isReturning_retire, forth, Cluster.shedAgain,
            Nat.not_lt.mpr spent]
          rfl
        · simp only [Cluster.handleReply, is, Cluster.shedReply, h, Cluster.isReturning_retire, forth, Cluster.shedAgain,
            Nat.not_lt.mpr spent, Nat.not_le.mpr many]
          rfl
      obtain ⟨ctx, stack, others, lanes, contexts⟩ := (s.cluster.retired_retire o.carrier).turnedBack free host (fun _ => rfl)
        (fun _ _ => rfl) .abandonUsers
      exact ⟨_, exec_answered answered handled, ctx, stack, others, lanes, contexts,
        State.onlyTables_replied ((Cluster.onlyCarriers_want ..).after (Cluster.onlyCarriers_turnBack ..))⟩
    · have handled : (s.cluster.retire (siteOf o.carrier)).handleReply s.policy o r =
          (((s.cluster.retire (siteOf o.carrier)).editCtx o.carrier (Context.enter .draining)).turnBack o.carrier
            .abandonBusy).want o.carrier .reopen := by
        simp only [Cluster.handleReply, is, Cluster.lowerReply, busy, Cluster.isReturning_retire, forth]
        rfl
      obtain ⟨ctx, stack, others, lanes, contexts⟩ := ((s.cluster.retired_retire o.carrier).editCtx o.carrier
        (Context.enter .draining)).turnedBack free host (fun _ => rfl)
        (fun d other => Cluster.ctx_editCtx_ne _ (Ne.symm other) _) .abandonBusy
      refine ⟨_, exec_answered answered handled, ctx.trans ?_, stack, others, lanes, contexts,
        State.onlyTables_replied ((Cluster.onlyCarriers_want ..).after ((Cluster.onlyCarriers_turnBack ..).after rfl))⟩
      exact (congrArg (fun x => Context.noted x .abandonBusy)
        ((Cluster.ctx_editCtx_self ..).trans (Context.edit_draining lowering))).trans rfl

/-! ## LOWER acknowledged -/

theorem Cluster.isReturning_of_entry {w : Cluster} {c : Carrier} {e : Entry} (entry : w.entryOf c = some e) :
    w.isReturning c = decide (e.phase = .returning) := by
  rw [Cluster.isReturning, entry]
  rfl

/-- A change of the carrier's state and of its entry, after its command has been retired. -/
theorem Cluster.Retired.edited {w u : Cluster} {c k : Carrier} (h : w.Retired u c) (ctx : ∀ d, u.ctx d = w.ctx d)
    (stack : ∀ d, u.stack d = w.stack d) (host : w.hostOf c = some k) (f : Context → Context) (g : Entry → Entry) :
    (let v := (u.editCtx c f).editEntry c g
     w.Retired v c ∧ v.ctx c = (w.ctx c).edit f ∧ v.stack k = (w.stack k).map (fun e => if e.carrier = c then g e else e) ∧
     (∀ d, d ≠ k → v.stack d = w.stack d) ∧ (∀ d, d ≠ c → v.ctx d = w.ctx d) ∧ u.OnlyCarriers v) := by
  have host' : (u.editCtx c f).hostOf c = some k := by
    unfold Cluster.hostOf at *
    simpa only [Cluster.stack_editCtx, stack] using host
  refine ⟨(h.editCtx c f).editEntry c g, ?_, ?_, fun d other => ?_, fun d other => ?_, (Cluster.onlyCarriers_editEntry ..).after rfl⟩
  · rw [Cluster.ctx_editEntry, Cluster.ctx_editCtx_self, ctx]
  · rw [Cluster.stack_editEntry, if_pos host', Cluster.stack_editCtx, stack]
  · rw [Cluster.stack_editEntry, if_neg fun q => other (Option.some.inj (q.symm.trans host')), Cluster.stack_editCtx, stack]
  · rw [Cluster.ctx_editEntry, Cluster.ctx_editCtx_ne _ (Ne.symm other), ctx]

theorem Context.edit_lowered {x : Context} (lowering : x.state = .lowering) :
    (x.edit fun x => { x.enter .light with sleepsTonight := x.sleepsTonight + 1, lightRun := 0 }) =
      { x with
        state := .light
        sleepsTonight := x.sleepsTonight + 1
        sleepCount := 0
        wakeCount := 0
        lightRun := 0
        dirty := true } := by
  rw [Context.edit_of_state (by simp [lowering])]
  simp [Context.enter, lowering]

/-- Settles O44: the carrier is LIGHT, its entry lowered, and the next want follows from the entry. -/
theorem lowerAck : Obligations.LowerAck := by
  intro s i frame o r k e answered is ack free lowering host first
  obtain rfl := answered.2.2.2
  have entry : s.cluster.entryOf o.carrier = some e := Cluster.entryOf_of_host host first
  obtain ⟨retired, ctx, stack, others, contexts, only⟩ := (s.cluster.retired_retire o.carrier).edited (fun _ => rfl) (fun _ => rfl)
    host (fun x => { x.enter .light with sleepsTonight := x.sleepsTonight + 1, lightRun := 0 }) (Entry.lowered s.policy.settle)
  have handled : (s.cluster.retire (siteOf o.carrier)).handleReply s.policy o r =
      (let v := ((s.cluster.retire (siteOf o.carrier)).editCtx o.carrier fun x =>
        { x.enter .light with sleepsTonight := x.sleepsTonight + 1, lightRun := 0 }).editEntry o.carrier
          (Entry.lowered s.policy.settle)
       if e.phase = .returning then v.want o.carrier .raise else if e.deepenAtOnce then v.want o.carrier .darken else v) := by
    simp only [Cluster.handleReply, is, Cluster.lowerReply, ack, Cluster.lowered, Cluster.entryOf_retire,
      Cluster.isReturning_retire, Cluster.isReturning_of_entry entry, entry, decide_eq_true_eq]
  dsimp only at handled
  generalize (((s.cluster.retire (siteOf o.carrier)).editCtx o.carrier fun x =>
    { x.enter .light with sleepsTonight := x.sleepsTonight + 1, lightRun := 0 }).editEntry o.carrier
      (Entry.lowered s.policy.settle)) = v at *
  have light := ctx.trans (Context.edit_lowered lowering)
  by_cases back : e.phase = .returning
  · rw [if_pos back] at handled ⊢
    exact ⟨_, exec_answered answered handled, (Cluster.ctx_want ..).trans light, (Cluster.stack_want ..).trans stack,
      retired.want free .raise, fun d other => (Cluster.stack_want ..).trans (others d other),
      fun d other => (Cluster.ctx_want ..).trans (contexts d other),
      State.onlyTables_replied ((Cluster.onlyCarriers_want ..).after only)⟩
  · rw [if_neg back] at handled ⊢
    cases deepen : e.deepenAtOnce with
    | true =>
      rw [deepen, if_pos rfl] at handled
      exact ⟨_, exec_answered answered handled, (Cluster.ctx_want ..).trans light, (Cluster.stack_want ..).trans stack,
        retired.want free .darken, fun d other => (Cluster.stack_want ..).trans (others d other),
        fun d other => (Cluster.ctx_want ..).trans (contexts d other),
        State.onlyTables_replied ((Cluster.onlyCarriers_want ..).after only)⟩
    | false =>
      rw [deepen] at handled
      exact ⟨_, exec_answered answered handled, light, stack, retired.ended, others, contexts, State.onlyTables_replied only⟩

/-! ## DARKEN and WARM -/

/-- A command wanted where a condition holds, and none where it does not. -/
def Cluster.wantIf (w : Cluster) (c : Carrier) (condition : Bool) (command : RadioCommand) : Cluster :=
  if condition then w.want c command else w

section
variable {w v : Cluster} {c : Carrier}

theorem Cluster.Retired.wantIf (h : w.Retired v c) (free : w.wantOf c = none) (condition : Bool) (command : RadioCommand) :
    w.LanesAfter (v.wantIf c condition command) (siteOf c)
      (if condition = true then (w.lane (siteOf c)).ended.joined c command 0 1 else (w.lane (siteOf c)).ended) := by
  cases condition with
  | true => exact h.want free command
  | false => exact h.ended

theorem Cluster.wantIf_spec (v : Cluster) (c : Carrier) (condition : Bool) (command : RadioCommand) :
    (∀ d, (v.wantIf c condition command).ctx d = v.ctx d) ∧ (v.wantIf c condition command).coverStacks = v.coverStacks ∧
      v.OnlyCarriers (v.wantIf c condition command) := by
  cases condition with
  | true => exact ⟨fun _ => Cluster.ctx_want .., Cluster.coverStacks_joinWant .., Cluster.onlyCarriers_want ..⟩
  | false => exact ⟨fun _ => rfl, rfl, .refl v⟩

end

theorem Context.edit_deepening {x : Context} (deepening : x.state = .deepening) :
    x.edit (Context.enter .dark) = { x with state := .dark, sleepCount := 0, wakeCount := 0, dirty := true } := by
  rw [Context.edit_of_state (by simp [deepening])]
  simp [Context.enter, deepening]

theorem Context.edit_declined {x : Context} (deepening : x.state = .deepening) :
    (x.edit fun x => { x.enter .light with lightRun := 0, deepenDeclined := true }) =
      { x with
        state := .light, sleepCount := 0, wakeCount := 0, dirty := true, lightRun := 0, deepenDeclined := true } := by
  rw [Context.edit_of_state (by simp [deepening])]
  simp [Context.enter, deepening]

theorem Context.edit_warmed {x : Context} (warming : x.state = .warming) :
    (x.edit fun x => { x.enter .light with lightRun := 0 }) =
      { x with state := .light, sleepCount := 0, wakeCount := 0, dirty := true, lightRun := 0 } := by
  rw [Context.edit_of_state (by simp [warming])]
  simp [Context.enter, warming]

/-- A reply that changes the carrier's context, and wants a command where a condition holds. -/
theorem State.edited_wantIf {s : State} {frame : List Byte} {o : Outstanding} {r : Reply} {f : Context → Context} {x : Context}
    {condition : Bool} {command : RadioCommand} (answered : s.Answered (siteOf o.carrier) frame o r)
    (free : s.cluster.wantOf o.carrier = none) (edited : (s.ctx o.carrier).edit f = x)
    (handled : (s.cluster.retire (siteOf o.carrier)).handleReply s.policy o r =
      ((s.cluster.retire (siteOf o.carrier)).editCtx o.carrier f).wantIf o.carrier condition command) :
    ∃ t, exec (.radioReply (siteOf o.carrier) frame) s = .next t ∧ t.ctx o.carrier = x ∧
      t.cluster.coverStacks = s.cluster.coverStacks ∧
      s.LaneAfterReply t (siteOf o.carrier)
        (if condition = true then (s.lane (siteOf o.carrier)).ended.joined o.carrier command 0 1
         else (s.lane (siteOf o.carrier)).ended) ∧
      s.OtherContexts t o.carrier ∧ s.OnlyTables t := by
  obtain ⟨ctx, piles, only⟩ := ((s.cluster.retire (siteOf o.carrier)).editCtx o.carrier f).wantIf_spec o.carrier condition command
  refine ⟨_, exec_answered answered handled, (ctx _).trans ((Cluster.ctx_editCtx_self ..).trans edited), piles.trans rfl,
    ((s.cluster.retired_retire o.carrier).editCtx o.carrier f).wantIf free _ _, fun d other => (ctx d).trans ?_,
    State.onlyTables_replied (only.after rfl)⟩
  exact Cluster.ctx_editCtx_ne _ (Ne.symm other) _

/-- Settles O45: the carrier rests, and the next command is wanted where its entry is RETURNING. -/
theorem darkenWarmReplies : Obligations.DarkenWarmReplies := by
  intro s i frame o r k answered free host
  obtain rfl := answered.2.2.2
  have start := s.cluster.retired_retire o.carrier
  refine ⟨fun is ack deepening => ?_, fun is outcome deepening => ?_, fun is ack warming => ?_⟩
  · obtain ⟨retired, ctx, stack, others, contexts, only⟩ := start.edited (fun _ => rfl) (fun _ => rfl) host (Context.enter .dark)
      (fun e => { e with depth := .dark })
    have handled : (s.cluster.retire (siteOf o.carrier)).handleReply s.policy o r =
        ((((s.cluster.retire (siteOf o.carrier)).editCtx o.carrier (Context.enter .dark)).editEntry o.carrier fun e =>
          { e with depth := .dark })).wantIf o.carrier (s.cluster.isReturning o.carrier) .warm := by
      simp only [Cluster.handleReply, is, Cluster.darkenReply, ack]
      rfl
    obtain ⟨wantCtx, wantStacks, wantOnly⟩ := Cluster.wantIf_spec
      ((((s.cluster.retire (siteOf o.carrier)).editCtx o.carrier (Context.enter .dark)).editEntry o.carrier fun e =>
        { e with depth := .dark })) o.carrier (s.cluster.isReturning o.carrier) .warm
    have pile (d : Carrier) := congrArg (fun v : Vector (List Entry) 256 => v[d]) wantStacks
    exact ⟨_, exec_answered answered handled, (wantCtx _).trans (ctx.trans (Context.edit_deepening deepening)),
      (pile k).trans stack, fun d other => (pile d).trans (others d other), retired.wantIf free _ _,
      fun d other => (wantCtx d).trans (contexts d other), State.onlyTables_replied (wantOnly.after only)⟩
  · refine State.edited_wantIf answered free (Context.edit_declined deepening) ?_
    rcases outcome with h | h
    · simp only [Cluster.handleReply, is, Cluster.darkenReply, h]
      rfl
    · simp only [Cluster.handleReply, is, Cluster.darkenReply, h]
      rfl
  · refine State.edited_wantIf answered free (Context.edit_warmed warming) ?_
    have awake : ((s.cluster.retire (siteOf o.carrier)).ctx o.carrier).state ≠ .stray :=
      fun h => absurd (h.symm.trans warming) (by decide)
    simp only [Cluster.handleReply, is, Cluster.warmReply, ack, awake]
    rfl

/-! ## BUSY below the wake attempts -/

theorem Cluster.handleReply_busy {w : Cluster} {p : Policy} {o : Outstanding} {r : Reply} (busy : r.outcome = .busy)
    (wakes : o.command = .warm ∨ o.command = .raise ∨ o.command = .reopen ∨ o.command = .query) :
    w.handleReply p o r = w.busyRetry p o := by
  rcases wakes with h | h | h | h <;>
    simp only [Cluster.handleReply, h, Cluster.warmReply, Cluster.raiseReply, Cluster.openReply, Cluster.queryReply, busy]

/-- The carrier in the state that it rests in before the send of a command. -/
def Context.resting (command : RadioCommand) (x : Context) : Context :=
  if restingState command x.state = x.state then x else x.enter (restingState command x.state)

theorem Context.edit_resting_stays {x : Context} {command : RadioCommand} (h : restingState command x.state = x.state) :
    x.edit (Context.resting command) = x := by
  have stays : x.resting command = x := if_pos h
  simp [Context.edit, stays]

theorem Context.edit_resting_moves {x : Context} {command : RadioCommand} {st : CarrierState}
    (h : restingState command x.state = st) (changed : st ≠ x.state) (light : x.state ≠ .light) (unknown : x.state ≠ .unknown)
    (stray : x.state ≠ .stray) :
    x.edit (Context.resting command) = { x with state := st, sleepCount := 0, wakeCount := 0, dirty := true } := by
  have moves : x.resting command = x.enter st := by rw [Context.resting, h, if_neg changed]
  rw [Context.edit_of_state (by rw [moves]; exact changed), moves, Context.enter_of st light unknown stray]

/-- Settles O48: the command is wanted again after the busy back-off. -/
theorem busyWantedAgain : Obligations.BusyWantedAgain := by
  intro s i frame o r answered busy free below
  obtain rfl := answered.2.2.2
  have again {x : Context} (wakes : o.command = .warm ∨ o.command = .raise ∨ o.command = .reopen ∨ o.command = .query)
      (edited : (s.ctx o.carrier).edit (Context.resting o.command) = x) :
      ∃ t, exec (.radioReply (siteOf o.carrier) frame) s = .next t ∧ t.ctx o.carrier = x ∧
        s.LaneAfterReply t (siteOf o.carrier)
          ((s.lane (siteOf o.carrier)).ended.joined o.carrier o.command s.policy.busyBackoff (o.attempt + 1)) ∧
        s.OtherContexts t o.carrier ∧
        t = { s with
          runState := s.runAfter t.cluster
          cluster :=
            { s.cluster with
              contexts := t.cluster.contexts, lanes := t.cluster.lanes, channels := t.cluster.channels } } := by
    have handled : (s.cluster.retire (siteOf o.carrier)).handleReply s.policy o r =
        ((s.cluster.retire (siteOf o.carrier)).editCtx o.carrier (Context.resting o.command)).joinWant o.carrier o.command
          s.policy.busyBackoff (o.attempt + 1) := (Cluster.handleReply_busy busy wakes).trans (if_pos below)
    refine ⟨_, exec_answered answered handled, ?_, ((s.cluster.retired_retire o.carrier).editCtx o.carrier _).joined free _ _ _,
      fun d other => ?_, ?_⟩
    · exact (Cluster.ctx_joinWant ..).trans ((Cluster.ctx_editCtx_self ..).trans edited)
    · exact (Cluster.ctx_joinWant ..).trans (Cluster.ctx_editCtx_ne _ (Ne.symm other) _)
    · obtain ⟨a, h⟩ : ∃ a, ((s.cluster.retire (siteOf o.carrier)).editCtx o.carrier (Context.resting o.command)).joinWant
          o.carrier o.command s.policy.busyBackoff (o.attempt + 1) =
          { (s.cluster.retire (siteOf o.carrier)).editCtx o.carrier (Context.resting o.command) with lanes := a } :=
        ⟨_, (Cluster.joinWant_spec ..).1⟩
      rw [h]
      rfl
  have moves {command : RadioCommand} {st st' : CarrierState} (is : o.command = command) (state : (s.ctx o.carrier).state = st)
      (rests : restingState command st = st') (changed : st' ≠ st) (light : st ≠ .light) (unknown : st ≠ .unknown)
      (stray : st ≠ .stray) := Context.edit_resting_moves (x := s.ctx o.carrier) (command := o.command) (st := st')
    (by rw [is, state, rests]) (by rwa [state]) (by rwa [state]) (by rwa [state]) (by rwa [state])
  have stays {command : RadioCommand} {st : CarrierState} (is : o.command = command) (state : (s.ctx o.carrier).state = st)
      (rests : restingState command st = st) := Context.edit_resting_stays (x := s.ctx o.carrier) (command := o.command)
    (by rw [is, state, rests])
  refine ⟨fun is state => ?_, fun is state => ?_, fun is state => ?_, fun is state => ?_, fun is state => ?_⟩
  · exact again (.inl is) (moves is state rfl (by decide) (by decide) (by decide) (by decide))
  · exact again (.inr (.inl is)) (moves is state rfl (by decide) (by decide) (by decide) (by decide))
  · rcases is with is | is
    · exact again (.inl is) (stays is state rfl)
    · exact again (.inr (.inl is)) (stays is state rfl)
  · exact again (.inr (.inr (.inl is))) (stays is state rfl)
  · exact again (.inr (.inr (.inr is))) (stays is state rfl)

end Sys2Proof.Machine
end

section
/-! The replies that bring a carrier with an entry back to SERVING (sections 5.6 and 8.4). -/

namespace Sys2Proof.Machine

/-! ## The lanes at a removal -/

section
variable {w : Cluster} {c k : Carrier}

theorem Cluster.lane_relink_of_unasked (w : Cluster) {k : Carrier} (free : w.Unasked k) (j : Site) :
    (w.relink k).lane j = if j = siteOf k then (w.lane j).joined k .query 0 1 else w.lane j := by
  obtain ⟨x, relink⟩ := w.exists_want_of_relink k
  rw [relink]
  split
  · next h =>
    subst h
    exact Cluster.lane_want_of_unasked (w := w.setCtx k x) free .query
  · next h => exact (w.setCtx k x).lane_want_ne h .query

theorem Cluster.lane_stackEmptied (w : Cluster) {k : Carrier}
    (free : (w.ctx k).state = .serving ∨ ((w.ctx k).state = .faulted ∧ w.Unasked k)) (j : Site) :
    (w.stackEmptied k).lane j =
      if ((w.ctx k).state = .faulted ∧ (w.ctx k).cause = some .link ∧ (w.channel (siteOf k)).up = true) ∧ j = siteOf k then
        (w.lane j).joined k .query 0 1
      else w.lane j := by
  rw [Cluster.stackEmptied]
  rcases free with serving | ⟨faulted, free⟩
  · rw [if_pos serving, if_neg fun h => absurd (serving.symm.trans h.1.1) (by decide)]
    rfl
  · rw [if_neg fun h => absurd (faulted.symm.trans h) (by decide)]
    by_cases link : (w.ctx k).state = .faulted ∧ (w.ctx k).cause = some .link ∧ (w.channel (siteOf k)).up = true
    · rw [if_pos link, w.lane_relink_of_unasked free]
      simp only [link, true_and]
    · rw [if_neg link, if_neg fun h => link h.1]

/-- The lanes after a removal: where the stack empties under an owner that hands on to a QUERY, the QUERY joins its lane. -/
theorem Cluster.lane_removeEntry (host : w.hostOf c = some k)
    (free : (w.ctx k).state = .serving ∨ ((w.ctx k).state = .faulted ∧ w.Unasked k)) (j : Site) :
    (w.removeEntry c).lane j =
      if ((w.stack k).eraseP (fun e => e.carrier == c) = [] ∧ (w.ctx k).state = .faulted ∧ (w.ctx k).cause = some .link ∧
          (w.channel (siteOf k)).up = true) ∧ j = siteOf k then
        (w.lane j).joined k .query 0 1
      else w.lane j := by
  rw [Cluster.removeEntry, host]
  dsimp only
  rw [Cluster.stack_markDirty, Cluster.stack_markDirty, Cluster.stack_setStack_self]
  generalize (w.stack k).eraseP (fun e => e.carrier == c) = es
  by_cases empty : es = []
  · rw [if_pos empty, Cluster.lane_stackEmptied]
    · simp only [empty, true_and]
      rw [Cluster.state_markDirty, Cluster.state_markDirty, Cluster.cause_markDirty, Cluster.cause_markDirty]
      rfl
    · rw [Cluster.state_markDirty, Cluster.state_markDirty]
      exact free
  · rw [if_neg empty, if_neg fun h => empty h.1.1]
    rfl

end

/-! ## Back to SERVING -/

section
variable {s : State} {frame : List Byte} {o : Outstanding} {r : Reply} {k : Carrier}

/-- A command's retirement leaves a carrier without a want or a command so. -/
theorem Cluster.Unasked.retire {w : Cluster} {k : Carrier} (free : w.Unasked k) (i : Site) : (w.retire i).Unasked k := by
  refine ⟨(w.wantOf_retire i k).trans free.1, ?_⟩
  by_cases here : i = siteOf k
  · simp [Cluster.isOutstanding, Cluster.outstanding_retire, here]
  · have idle := free.2
    unfold Cluster.isOutstanding at *
    rw [w.outstanding_retire, if_neg here]
    exact idle

/-- The context of a carrier that comes back to SERVING. -/
theorem Context.edit_back {x : Context} {f : Context → Context} (state : x.state = .raising ∨ x.state = .draining)
    (same : ∀ y, (f y).state = y.state) :
    ({ x with dirty := true } : Context).edit (fun y => f (y.enter .serving).startResleep) =
      { f { x with
          state := .serving, sleepCount := 0, wakeCount := 0, resleepLeft := x.cfg.resleepHold, dirty := true } with
        dirty := true } := by
  have entered : (({ x with dirty := true } : Context).enter .serving).startResleep =
      { x with
        state := .serving, sleepCount := 0, wakeCount := 0, resleepLeft := x.cfg.resleepHold, dirty := true } := by
    rcases state with h | h <;> simp [Context.enter, Context.startResleep, h]
  rw [Context.edit_of_state]
  · rw [entered]
  · rw [same, entered]
    rcases state with h | h <;> simp [h]

theorem Context.handedOn_eq (x : Context) (es : List Entry) (up : Bool) :
    x.handedOn es.isEmpty up =
      if decide (es = [] ∧ x.state = .faulted ∧ x.cause = some .link ∧ up = true) = true then
        { x with state := .unknown, cls := .absent, probeOrigin := none, sleepCount := 0, wakeCount := 0, dirty := true }
      else { x with dirty := true, wakeCount := if es = [] ∧ x.state = .serving then 0 else x.wakeCount } := by
  simp [Context.handedOn]

/-- A carrier with an entry comes back to SERVING. -/
theorem Cluster.backToServing_spec {w : Cluster} {c k : Carrier} {f : Context → Context} (host : w.hostOf c = some k)
    (away : k ≠ c) (free : (w.ctx k).state = .serving ∨ ((w.ctx k).state = .faulted ∧ w.Unasked k))
    (state : (w.ctx c).state = .raising ∨ (w.ctx c).state = .draining) (same : ∀ y, (f y).state = y.state) :
    (let v := w.backToServing c f
     let closed := (w.stack k).eraseP fun e => e.carrier == c
     v.ctx c =
       { f { w.ctx c with
           state := .serving, sleepCount := 0, wakeCount := 0, resleepLeft := (w.ctx c).cfg.resleepHold, dirty := true } with
         dirty := true } ∧
     v.stack k = closed ∧ v.ctx k = (w.ctx k).handedOn closed.isEmpty (w.channel (siteOf k)).up ∧
     (∀ d, d ≠ c → d ≠ k → v.ctx d = w.ctx d) ∧ (∀ d, d ≠ k → v.stack d = w.stack d) ∧
     (∀ j, v.lane j =
       if (closed = [] ∧ (w.ctx k).state = .faulted ∧ (w.ctx k).cause = some .link ∧ (w.channel (siteOf k)).up = true) ∧
           j = siteOf k then
         (w.lane j).joined k .query 0 1
       else w.lane j) ∧
     w.OnlyCarriers v) := by
  have ctx := Cluster.ctx_removeEntry host away
  have closed := (w.stack_removeEntry c k).trans (if_pos host)
  rw [closed] at ctx
  have other (d : Carrier) (h : d ≠ c) := Cluster.ctx_editCtx_ne (w.removeEntry c) (Ne.symm h) (fun x => f (x.enter .serving).startResleep)
  refine ⟨?_, closed, (other k away).trans ((ctx k).trans ((if_neg away).trans (if_pos rfl))),
    fun d h g => (other d h).trans ((ctx d).trans ((if_neg h).trans (if_neg g))),
    fun d h => (w.stack_removeEntry c d).trans (if_neg fun g => h (Option.some.inj (g.symm.trans host))),
    fun j => Cluster.lane_removeEntry host free j, (Cluster.onlyCarriers_removeEntry w c).trans rfl⟩
  refine (Cluster.ctx_editCtx_self ..).trans ?_
  rw [ctx c, if_pos rfl]
  exact Context.edit_back state same

/-- What the return of the carrier c to SERVING leaves, with the context x and the owner k of its entry. -/
def State.Returned (s t : State) (c k : Carrier) (x : Context) : Prop :=
  let closed : List Entry := (s.stack k).eraseP fun e => e.carrier == c
  let queried : Bool := decide
    (closed = [] ∧ (s.ctx k).state = .faulted ∧ (s.ctx k).cause = some .link ∧ (s.channel (siteOf k)).up = true)
  t.ctx c = x ∧ t.stack k = closed ∧
  (t.ctx k =
    if queried = true then
      { s.ctx k with
        state := .unknown, cls := .absent, probeOrigin := none, sleepCount := 0, wakeCount := 0, dirty := true }
    else
      { s.ctx k with
        dirty := true
        wakeCount := if closed = [] ∧ (s.ctx k).state = .serving then 0 else (s.ctx k).wakeCount }) ∧
  (∀ d : Carrier, d ≠ c → d ≠ k → t.ctx d = s.ctx d) ∧ (∀ d : Carrier, d ≠ k → t.stack d = s.stack d) ∧
  (∀ j : Site,
    t.lane j =
      (let l := if j = siteOf c then (s.lane (siteOf c)).ended else s.lane j
       if queried = true ∧ j = siteOf k then l.joined k .query 0 1 else l) ∧
    t.channel j = if j = siteOf c then (s.channel (siteOf c)).retired else s.channel j) ∧
  s.OnlyTables t

theorem State.returned_replied {f : Context → Context} (host : s.cluster.hostOf o.carrier = some k) (away : k ≠ o.carrier)
    (owner : (s.ctx k).state = .serving ∨ ((s.ctx k).state = .faulted ∧ s.cluster.Unasked k))
    (state : (s.ctx o.carrier).state = .raising ∨ (s.ctx o.carrier).state = .draining) (same : ∀ y, (f y).state = y.state) :
    s.Returned (s.replied ((s.cluster.retire (siteOf o.carrier)).backToServing o.carrier f)) o.carrier k
      { f { s.ctx o.carrier with
          state := .serving, sleepCount := 0, wakeCount := 0, resleepLeft := (s.ctx o.carrier).cfg.resleepHold, dirty := true } with
        dirty := true } := by
  have up : ((s.cluster.retire (siteOf o.carrier)).channel (siteOf k)).up = (s.channel (siteOf k)).up := s.cluster.up_retire _ _
  have lane (j : Site) : (s.cluster.retire (siteOf o.carrier)).lane j =
      if j = siteOf o.carrier then (s.lane (siteOf o.carrier)).ended else s.lane j := by
    rw [s.cluster.lane_retire]
    by_cases h : siteOf o.carrier = j
    · rw [if_pos h, if_pos h.symm, h]
      rfl
    · rw [if_neg h, if_neg (Ne.symm h)]
      rfl
  have channel (j : Site) : (s.cluster.retire (siteOf o.carrier)).channel j =
      if j = siteOf o.carrier then (s.channel (siteOf o.carrier)).retired else s.channel j := by
    rw [s.cluster.channel_retire]
    by_cases h : siteOf o.carrier = j
    · rw [if_pos h, if_pos h.symm, h]
      rfl
    · rw [if_neg h, if_neg (Ne.symm h)]
      rfl
  obtain ⟨own, closed, owns, contexts, others, lanes, only⟩ := Cluster.backToServing_spec
    (w := s.cluster.retire (siteOf o.carrier)) (f := f) host away (owner.imp_right fun h => ⟨h.1, h.2.retire _⟩) state same
  rw [up] at owns
  simp only [up, lane] at lanes
  refine ⟨own, closed, owns.trans (Context.handedOn_eq ..), contexts, others,
    fun j => ⟨(lanes j).trans ?_, (only.channel j).trans (channel j)⟩, State.onlyTables_replied only⟩
  simp only [decide_eq_true_eq]
  rfl

/-- Settles O46, with the lemmas on the removal of an entry. -/
theorem backToServing : Obligations.BackToServing := by
  intro s i frame o r k answered host away owner
  obtain rfl := answered.2.2.2
  have returned {f : Context → Context} (state : (s.ctx o.carrier).state = .raising ∨ (s.ctx o.carrier).state = .draining)
      (same : ∀ y, (f y).state = y.state) := State.returned_replied (f := f) host away owner state same
  refine ⟨fun is ack raising => ?_, fun is ack draining => ?_, fun is outcome draining => ?_⟩
  · have handled : (s.cluster.retire (siteOf o.carrier)).handleReply s.policy o r =
        (s.cluster.retire (siteOf o.carrier)).backToServing o.carrier fun x => { x with cls := .absent, deepenDeclined := false } := by
      simp only [Cluster.handleReply, is, Cluster.raiseReply, ack]
    exact ⟨_, exec_answered answered handled, returned (.inl raising) fun _ => rfl⟩
  · have handled : (s.cluster.retire (siteOf o.carrier)).handleReply s.policy o r =
        (s.cluster.retire (siteOf o.carrier)).backToServing o.carrier id := by
      simp only [Cluster.handleReply, is, Cluster.openReply, ack]
    exact ⟨_, exec_answered answered handled, returned (.inr draining) fun _ => rfl⟩
  · have handled : (s.cluster.retire (siteOf o.carrier)).handleReply s.policy o r =
        (s.cluster.retire (siteOf o.carrier)).backToServing o.carrier fun x => { x with
          lastReason :=
            if s.cluster.isReturning o.carrier = true then x.lastReason
            else if r.outcome = .busy then some .abandonBusy else some .abandon } := by
      have abandons : (s.cluster.retire (siteOf o.carrier)).handleReply s.policy o r =
          (s.cluster.retire (siteOf o.carrier)).abandonDrain o.carrier
            (if r.outcome = .busy then .abandonBusy else .abandon) := by
        rcases outcome with h | h <;> simp [Cluster.handleReply, is, Cluster.gateReply, h]
      refine abandons.trans (congrArg ((s.cluster.retire (siteOf o.carrier)).backToServing o.carrier) (funext fun x => ?_))
      rw [Cluster.isReturning_retire]
      by_cases back : s.cluster.isReturning o.carrier = true
      · rw [if_pos back, if_pos back]
      · rw [if_neg back, if_neg back]
        split <;> rfl
    exact ⟨_, exec_answered answered handled, returned (.inr draining) fun _ => rfl⟩

end

end Sys2Proof.Machine
end

section
/-! The replies to a carrier without an entry, and the ends of a command that put its carrier in FAULTED (sections 2.3, 2.5, 8.2
and 8.4). -/

namespace Sys2Proof.Machine

/-! ## The end of a query -/

section
variable {c : Carrier} {answered : Bool}

theorem ProbeRecord.map_count_of_none {records : List ProbeRecord} (h : ∀ p ∈ records, c ∉ p.members) :
    records.map (ProbeRecord.count c answered) = records := by
  refine (List.map_congr_left fun p hp => ?_).trans (List.map_id records)
  rw [ProbeRecord.count, if_neg fun g => h p hp (List.contains_iff_mem.mp g), id]

/-- Among records none of which is finished, one that takes the end of the query leaves where it is finished. -/
theorem ProbeRecord.filter_finished {pre post : List ProbeRecord} {left : ProbeRecord}
    (open' : ∀ p ∈ pre ++ post, p.finished = false) :
    (pre ++ left :: post).filter ProbeRecord.finished = (if left.finished then [left] else []) ∧
      (pre ++ left :: post).filter (fun p => !p.finished) = (if left.finished then pre ++ post else pre ++ left :: post) := by
  have none (l : List ProbeRecord) (h : ∀ p ∈ l, p.finished = false) :
      l.filter ProbeRecord.finished = [] ∧ l.filter (fun p => !p.finished) = l :=
    ⟨List.filter_eq_nil_iff.mpr fun p hp => by simp [h p hp], List.filter_eq_self.mpr fun p hp => by simp [h p hp]⟩
  obtain ⟨gonePre, keptPre⟩ := none pre fun p hp => open' p (List.mem_append_left _ hp)
  obtain ⟨gonePost, keptPost⟩ := none post fun p hp => open' p (List.mem_append_right _ hp)
  rw [List.filter_append, List.filter_append, List.filter_cons, List.filter_cons, gonePre, keptPre, gonePost, keptPost]
  cases left.finished <;> exact ⟨rfl, rfl⟩

/-- The end of a query, read off the PROBE records. -/
theorem Cluster.queryEnded_endQuery (w : Cluster) (c : Carrier) (answered : Bool) :
    w.QueryEnded (w.endQuery c answered) c answered := by
  constructor
  · intro free
    rw [Cluster.endQuery, if_neg fun h => free ⟨h.1, Option.isSome_iff_ne_none.mp h.2⟩]
    exact ⟨rfl, rfl⟩
  · intro probed pre post r records member others
    have ends : w.endQuery c answered =
        { w with probes := w.probes.map (ProbeRecord.count c answered) }.closeProbes :=
      if_pos ⟨probed.1, Option.isSome_iff_ne_none.mpr probed.2⟩
    have counted : w.probes.map (ProbeRecord.count c answered) = pre ++ r.count c answered :: post := by
      rw [records, List.map_append, List.map_cons,
        ProbeRecord.map_count_of_none fun p hp => (others p (List.mem_append_left _ hp)).1,
        ProbeRecord.map_count_of_none fun p hp => (others p (List.mem_append_right _ hp)).1]
    have count : r.count c answered =
        { r with
          members := r.members.filter fun m => m != c
          affected := if answered = true then r.affected + 1 else r.affected
          skipped := if answered = true then r.skipped else r.skipped + 1 } := by
      rw [ProbeRecord.count, if_pos (List.contains_iff_mem.mpr member)]
    obtain ⟨gone, kept⟩ := ProbeRecord.filter_finished (left := r.count c answered) (pre := pre) (post := post) fun p hp => by
      have unfinished := (others p hp).2
      cases h : p.finished with
      | false => rfl
      | true =>
        obtain ⟨empty, done⟩ : p.members = [] ∧ p.selectionDone = true := by simpa [ProbeRecord.finished] using h
        exact absurd (done.symm.trans (unfinished empty)) (by decide)
    have probes : (w.endQuery c answered).probes = (pre ++ r.count c answered :: post).filter fun p => !p.finished := by
      rw [ends, ← counted]
      rfl
    have outcomes : (w.endQuery c answered).outcomes =
        ((pre ++ r.count c answered :: post).filter ProbeRecord.finished).foldl (fun q p => joinOutcome p.outcome q)
          w.outcomes := by
      rw [ends, ← counted]
      rfl
    rw [gone] at outcomes
    rw [kept] at probes
    have finished : (r.count c answered).finished = true ↔
        (r.members.filter fun m => m != c) = [] ∧ r.selectionDone = true := by
      rw [count]
      simp [ProbeRecord.finished]
    dsimp only
    split
    · next h =>
      rw [if_pos (finished.mpr h)] at probes outcomes
      rw [count] at outcomes
      exact ⟨probes, outcomes⟩
    · next h =>
      rw [if_neg fun g => h (finished.mp g)] at probes outcomes
      rw [count] at probes
      exact ⟨probes, outcomes⟩

/-- A carrier that is not UNKNOWN under a PROBE has no query to end. -/
theorem Cluster.queryEnded_of_unprobed {w : Cluster} (h : (w.ctx c).state ≠ .unknown) : w.QueryEnded w c answered :=
  ⟨fun _ => ⟨rfl, rfl⟩, fun probed => absurd probed.1 h⟩

theorem Cluster.QueryEnded.congr {w u v v' : Cluster} (h : w.QueryEnded v c answered) (ctx : u.ctx c = w.ctx c)
    (before : u.probes = w.probes ∧ u.outcomes = w.outcomes) (after : v'.probes = v.probes ∧ v'.outcomes = v.outcomes) :
    u.QueryEnded v' c answered := by
  unfold Cluster.QueryEnded
  rw [ctx, before.1, before.2, after.1, after.2]
  exact h

end

/-! ## Replies to a carrier without an entry -/

section
variable {s : State} {frame : List Byte} {o : Outstanding} {r : Reply} {u : Cluster} {f : Context → Context} {x : Context}
  {condition : Bool} {command : RadioCommand}

/-- A reply that may end a query, changes the carrier's context, and wants a command where a condition holds. -/
theorem State.queried_wantIf (answered : s.Answered (siteOf o.carrier) frame o r) (free : s.cluster.wantOf o.carrier = none)
    (same : u = { s.cluster.retire (siteOf o.carrier) with probes := u.probes, outcomes := u.outcomes })
    (ended : (s.cluster.retire (siteOf o.carrier)).QueryEnded u o.carrier true) (edited : (s.ctx o.carrier).edit f = x)
    (handled : (s.cluster.retire (siteOf o.carrier)).handleReply s.policy o r =
      (u.editCtx o.carrier f).wantIf o.carrier condition command) :
    ∃ t, exec (.radioReply (siteOf o.carrier) frame) s = .next t ∧ t.ctx o.carrier = x ∧
      s.LaneAfterReply t (siteOf o.carrier)
        (if condition = true then (s.lane (siteOf o.carrier)).ended.joined o.carrier command 0 1
         else (s.lane (siteOf o.carrier)).ended) ∧
      s.OtherContexts t o.carrier ∧
      t = { s with
        runState := s.runAfter t.cluster
        cluster :=
          { s.cluster with
            contexts := t.cluster.contexts
            lanes := t.cluster.lanes
            channels := t.cluster.channels
            probes := t.cluster.probes
            outcomes := t.cluster.outcomes } } ∧
      s.cluster.QueryEnded t.cluster o.carrier true := by
  obtain ⟨probes, outcomes, rfl⟩ : ∃ probes outcomes,
    u = { s.cluster.retire (siteOf o.carrier) with probes := probes, outcomes := outcomes } := ⟨_, _, same⟩
  have retired : s.cluster.Retired
      ({ s.cluster.retire (siteOf o.carrier) with probes := probes, outcomes := outcomes } : Cluster) o.carrier :=
    ⟨fun _ => rfl, fun _ => rfl⟩
  obtain ⟨ctx, -, -⟩ := (({ s.cluster.retire (siteOf o.carrier) with probes := probes, outcomes := outcomes } : Cluster).editCtx
    o.carrier f).wantIf_spec o.carrier condition command
  have lanes : ∃ a, (({ s.cluster.retire (siteOf o.carrier) with probes := probes, outcomes := outcomes } : Cluster).editCtx
      o.carrier f).wantIf o.carrier condition command =
      { ({ s.cluster.retire (siteOf o.carrier) with probes := probes, outcomes := outcomes } : Cluster).editCtx o.carrier f with
        lanes := a } := by
    cases condition with
    | true => exact ⟨_, (Cluster.joinWant_spec ..).1⟩
    | false => exact ⟨_, rfl⟩
  refine ⟨_, exec_answered answered handled, (ctx _).trans ((Cluster.ctx_editCtx_self ..).trans edited),
    (retired.editCtx o.carrier f).wantIf free _ _, fun d other => (ctx d).trans (Cluster.ctx_editCtx_ne _ (Ne.symm other) _), ?_, ?_⟩
  · obtain ⟨a, h⟩ := lanes
    rw [h]
    rfl
  · refine ended.congr rfl ⟨rfl, rfl⟩ ?_
    obtain ⟨a, h⟩ := lanes
    rw [h]
    exact ⟨rfl, rfl⟩

end

theorem Context.edit_queried {x : Context} {st : CarrierState} {f : Context → Context} (unknown : x.state = .unknown)
    (changed : st ≠ .unknown) (same : ∀ y, (f y).state = y.state) :
    x.edit (fun y => f (y.enter st)) =
      { f { x with state := st, sleepCount := 0, wakeCount := 0, probeOrigin := none } with dirty := true } := by
  have entered : x.enter st = { x with state := st, sleepCount := 0, wakeCount := 0, probeOrigin := none } := by
    simp [Context.enter, unknown, changed]
  rw [Context.edit_of_state (by rw [same, entered, unknown]; exact changed), entered]

/-- Settles O47: a found carrier is SERVING or STRAY, and a STRAY carrier goes on to RAISE or is back. -/
theorem queryAndStrayReplies : Obligations.QueryAndStrayReplies := by
  intro s i frame o r answered free ack alone
  obtain rfl := answered.2.2.2
  have same (b : Bool) := (Cluster.endQuery_spec (s.cluster.retire (siteOf o.carrier)) o.carrier b).1
  have ended := (s.cluster.retire (siteOf o.carrier)).queryEnded_endQuery o.carrier true
  refine ⟨fun is unknown => ⟨fun radio => ?_, fun radio => ?_, fun radio => ?_⟩, fun is stray => ?_, fun is stray => ?_⟩
  · refine State.queried_wantIf (condition := false) (command := .query) answered free (same true) ended
      (f := fun x => { x.enter .serving with cls := if x.probeOrigin = some .serving then x.cls else .absent }) ?_ ?_
    · rw [Context.edit_of_state (by simp [unknown])]
      simp [Context.enter, unknown]
    · simp only [Cluster.handleReply, is, Cluster.queryReply, ack, radio]
      rfl
  · refine State.queried_wantIf (condition := true) (command := .raise) answered free (same true) ended
      (f := fun x => { x.enter .stray with strayStep := some .raise }) ?_ ?_
    · exact Context.edit_queried (f := fun y => { y with strayStep := some .raise }) unknown (by decide) fun _ => rfl
    · simp only [Cluster.handleReply, is, Cluster.queryReply, ack, radio]
      rfl
  · refine State.queried_wantIf (condition := true) (command := .warm) answered free (same true) ended
      (f := fun x => { x.enter .stray with strayStep := some .warm }) ?_ ?_
    · exact Context.edit_queried (f := fun y => { y with strayStep := some .warm }) unknown (by decide) fun _ => rfl
    · simp only [Cluster.handleReply, is, Cluster.queryReply, ack, radio]
      rfl
  · have unprobed : (s.cluster.retire (siteOf o.carrier)).QueryEnded (s.cluster.retire (siteOf o.carrier)) o.carrier true :=
      Cluster.queryEnded_of_unprobed fun h => absurd (stray.symm.trans h) (by decide)
    refine State.queried_wantIf (condition := true) (command := .raise) answered free rfl unprobed
      (f := fun x => { x with strayStep := some .raise }) ?_ ?_
    · simp [Context.edit, Context.view, eq_comm]
    · have here : ((s.cluster.retire (siteOf o.carrier)).ctx o.carrier).state = .stray := stray
      simp only [Cluster.handleReply, is, Cluster.warmReply, ack, here]
      rfl
  · have unprobed : (s.cluster.retire (siteOf o.carrier)).QueryEnded (s.cluster.retire (siteOf o.carrier)) o.carrier true :=
      Cluster.queryEnded_of_unprobed fun h => absurd (stray.symm.trans h) (by decide)
    refine State.queried_wantIf (condition := false) (command := .query) answered free rfl unprobed
      (f := fun x => { (x.enter .serving).startResleep with cls := .absent, deepenDeclined := false }) ?_ ?_
    · rw [Context.edit_of_state (by simp [Context.startResleep, stray])]
      simp [Context.enter, Context.startResleep, stray]
    · have bare : (s.cluster.retire (siteOf o.carrier)).removeEntry o.carrier = s.cluster.retire (siteOf o.carrier) :=
        Cluster.removeEntry_of_none alone
      simp only [Cluster.handleReply, is, Cluster.raiseReply, ack, Cluster.backToServing, bare]
      rfl

/-! ## The entry into FAULTED with a bare stack -/

/-- The carrier enters FAULTED with its own stack empty. -/
theorem Cluster.enterFaulted_bare {w : Cluster} {c : Carrier} (cause : FaultCause) (bare : w.stack c = [])
    (away : w.hostOf c ≠ some c) :
    (let v := w.enterFaulted c cause
     v.ctx c = { ({ w.ctx c with reserved := false } : Context).enter .faulted with
       lightRun := 0, cause := some cause, dirty := true } ∧
     (∀ k, v.stack k = if w.hostOf c = some k then (w.stack k).eraseP fun e => e.carrier == c else w.stack k) ∧
     (∀ i, (v.lane i).outstanding = (((w.endQuery c false).abandon c).lane i).outstanding) ∧
     (∀ i, v.channel i = ((w.endQuery c false).abandon c).channel i) ∧
     v.wantOf c = none ∧ v.probes = (w.endQuery c false).probes ∧ v.outcomes = (w.endQuery c false).outcomes) := by
  have ctx (d : Carrier) : (((w.endQuery c false).abandon c).dropWant c).ctx d = w.ctx d := by simp
  have stack (d : Carrier) : (((w.endQuery c false).abandon c).dropWant c).stack d = w.stack d := by
    rw [Cluster.stack_dropWant, Cluster.stack_abandon, Cluster.stack_endQuery]
  have lists : (((w.endQuery c false).abandon c).dropWant c).probes = (w.endQuery c false).probes ∧
      (((w.endQuery c false).abandon c).dropWant c).outcomes = (w.endQuery c false).outcomes := by
    unfold Cluster.abandon
    split <;> exact ⟨rfl, rfl⟩
  have outstanding (i : Site) : ((((w.endQuery c false).abandon c).dropWant c).lane i).outstanding =
      (((w.endQuery c false).abandon c).lane i).outstanding := by simp
  have channel (i : Site) : (((w.endQuery c false).abandon c).dropWant c).channel i =
      ((w.endQuery c false).abandon c).channel i := rfl
  have unwanted := Cluster.wantOf_dropWant_self ((w.endQuery c false).abandon c) c
  have host : (((w.endQuery c false).abandon c).dropWant c).hostOf c = w.hostOf c := by
    unfold Cluster.hostOf
    simp only [stack]
  unfold Cluster.enterFaulted
  generalize ((w.endQuery c false).abandon c).dropWant c = u at *
  have own : (u.removeEntry c).ctx c = { u.ctx c with dirty := ((u.removeEntry c).ctx c).dirty } := by
    cases h : u.hostOf c with
    | none => rw [Cluster.removeEntry_of_none h]
    | some k =>
      have apart : k ≠ c := fun g => away (host.symm.trans (h.trans (congrArg some g)))
      rw [Cluster.ctx_removeEntry h apart, if_pos rfl]
  have piles (k : Carrier) : (u.removeEntry c).stack k =
      if w.hostOf c = some k then (w.stack k).eraseP fun e => e.carrier == c else w.stack k := by
    rw [Cluster.stack_removeEntry, host, stack]
  have only : u.OnlyCarriers (u.removeEntry c) := Cluster.onlyCarriers_removeEntry u c
  have idle : ((u.removeEntry c).editCtx c fun x => { x with reserved := false }).unwind c .coverLost =
      (u.removeEntry c).editCtx c fun x => { x with reserved := false } := by
    rw [Cluster.unwind, Cluster.stack_editCtx, piles, if_neg away, bare]
    rfl
  dsimp only
  rw [idle]
  refine ⟨?_, piles, fun i => (Cluster.outstanding_removeEntry u c i).trans (outstanding i),
    fun i => (only.channel i).trans (channel i), ?_, ?_, ?_⟩
  · obtain ⟨b, own⟩ : ∃ b, (u.removeEntry c).ctx c = { u.ctx c with dirty := b } := ⟨_, own⟩
    have marked (v : Cluster) : ((v.notify .fault).markDirty c).ctx c = { v.ctx c with dirty := true } := by
      rw [Cluster.ctx_markDirty, if_pos rfl]
      rfl
    rw [marked, Cluster.ctx_editCtx_self, Cluster.ctx_editCtx_self, own, ctx]
    rfl
  · refine (Cluster.wantOf_removeEntry c fun g => absurd (host.symm.trans g) away).trans unwanted
  · exact (congrArg Cluster.probes only).trans lists.1
  · exact (congrArg Cluster.outcomes only).trans lists.2

theorem Cluster.lane_endQuery (w : Cluster) (c : Carrier) (answered : Bool) (i : Site) :
    (w.endQuery c answered).lane i = w.lane i := by
  rw [(Cluster.endQuery_spec w c answered).1]
  rfl

/-- What the end of a command leaves that puts its carrier in FAULTED. -/
def State.FaultLeft (s t : State) (i : Site) (c : Carrier) (cause : FaultCause) : Prop :=
  (t.ctx c).state = .faulted ∧ (t.ctx c).cause = some cause ∧
  (t.ctx c).dirty = true ∧ (t.ctx c).reserved = false ∧ (t.ctx c).sleepCount = 0 ∧ (t.ctx c).wakeCount = 0 ∧
  (t.ctx c).lightRun = 0 ∧ (t.ctx c).cls = (s.ctx c).cls ∧ (t.ctx c).load = (s.ctx c).load ∧
  (t.ctx c).age = (s.ctx c).age ∧ (t.ctx c).holdLeft = (s.ctx c).holdLeft ∧
  (t.ctx c).resleepLeft = (s.ctx c).resleepLeft ∧ (t.ctx c).sleepsTonight = (s.ctx c).sleepsTonight ∧
  t.stack c = [] ∧ (∀ k : Carrier, s.cluster.hostOf c = some k → t.stack k = (s.stack k).eraseP fun e => e.carrier == c) ∧
  (t.lane i).outstanding = none ∧ (t.channel i).liveTag = none ∧ (t.channel i).timeLeft = 0 ∧
  t.cluster.wantOf c = none ∧ Notice.fault.isIn t.cluster.note = true ∧
  s.cluster.QueryEnded t.cluster c false ∧ t.runState = s.runAfter t.cluster

theorem State.faultLeft_replied {s : State} {c : Carrier} (bare : s.stack c = []) (away : s.cluster.hostOf c ≠ some c)
    (cause : FaultCause) :
    s.FaultLeft (s.replied ((s.cluster.retire (siteOf c)).enterFaulted c cause)) (siteOf c) c cause := by
  obtain ⟨ctx, piles, outstanding, channel, unwanted, probes, outcomes⟩ :=
    Cluster.enterFaulted_bare (w := s.cluster.retire (siteOf c)) cause bare away
  have ended := (Cluster.queryEnded_endQuery (s.cluster.retire (siteOf c)) c false).congr (u := s.cluster) rfl ⟨rfl, rfl⟩
    ⟨probes, outcomes⟩
  have notice := Cluster.note_enterFaulted (s.cluster.retire (siteOf c)) c cause
  have idle : ((((s.cluster.retire (siteOf c)).endQuery c false).abandon c).lane (siteOf c)).outstanding = none ∧
      (((s.cluster.retire (siteOf c)).endQuery c false).abandon c).channel (siteOf c) =
        (s.channel (siteOf c)).retired := by
    have none : (((s.cluster.retire (siteOf c)).endQuery c false).lane (siteOf c)).outstanding = none := by
      rw [Cluster.lane_endQuery, s.cluster.lane_retire, if_pos rfl]
      rfl
    have quiet : ((s.cluster.retire (siteOf c)).endQuery c false).isOutstanding c = false := by
      rw [Cluster.isOutstanding, none]
    rw [Cluster.abandon, if_neg (by rw [quiet]; decide)]
    exact ⟨none, (Cluster.channel_endQuery ..).trans ((s.cluster.channel_retire ..).trans (if_pos rfl))⟩
  have channel := (channel (siteOf c)).trans idle.2
  generalize (s.cluster.retire (siteOf c)).enterFaulted c cause = v at *
  have ctx : (s.replied v).ctx c = _ := ctx
  unfold State.FaultLeft
  rw [ctx]
  refine ⟨rfl, rfl, rfl, rfl, rfl, rfl, rfl, rfl, rfl, rfl, rfl, rfl, rfl, (piles c).trans ((if_neg away).trans bare),
    fun k host => (piles k).trans (if_pos host), (outstanding (siteOf c)).trans idle.1, ?_, ?_, unwanted, notice, ended, rfl⟩
  · exact congrArg Channel.liveTag channel
  · exact congrArg Channel.timeLeft channel

section
variable {w : Cluster} {p : Policy} {o : Outstanding} {r : Reply}

theorem Cluster.handleReply_fault (fault : r.outcome = .fault) : w.handleReply p o r = w.replyFault o .radio := by
  cases is : o.command with
  | gate => simp only [Cluster.handleReply, is, Cluster.gateReply, fault]
  | shed => simp only [Cluster.handleReply, is, Cluster.shedReply, fault]
  | lower => simp only [Cluster.handleReply, is, Cluster.lowerReply, fault]
  | darken => simp only [Cluster.handleReply, is, Cluster.darkenReply, fault]
  | warm => simp only [Cluster.handleReply, is, Cluster.warmReply, fault]
  | raise => simp only [Cluster.handleReply, is, Cluster.raiseReply, fault]
  | reopen => simp only [Cluster.handleReply, is, Cluster.openReply, fault]
  | query => simp only [Cluster.handleReply, is, Cluster.queryReply, fault]

theorem Cluster.handleReply_nak (nak : r.outcome = .nak) (notGate : o.command ≠ .gate) (notDarken : o.command ≠ .darken) :
    w.handleReply p o r = w.replyFault o .refused := by
  cases is : o.command with
  | gate => exact absurd is notGate
  | darken => exact absurd is notDarken
  | shed => simp only [Cluster.handleReply, is, Cluster.shedReply, nak]
  | lower => simp only [Cluster.handleReply, is, Cluster.lowerReply, nak]
  | warm => simp only [Cluster.handleReply, is, Cluster.warmReply, nak]
  | raise => simp only [Cluster.handleReply, is, Cluster.raiseReply, nak]
  | reopen => simp only [Cluster.handleReply, is, Cluster.openReply, nak]
  | query => simp only [Cluster.handleReply, is, Cluster.queryReply, nak]

end

/-- Settles O49: each of these ends is the entry into FAULTED of a carrier with a bare stack. -/
theorem failuresFault : Obligations.FailuresFault := by
  intro s i o live here bare away
  subst here
  have left (cause : FaultCause) := State.faultLeft_replied bare away (failureCause (s.ctx o.carrier) o.command cause)
  have fails (cause : FaultCause) : (s.cluster.retire (siteOf o.carrier)).replyFault o cause =
      (s.cluster.retire (siteOf o.carrier)).enterFaulted o.carrier (failureCause (s.ctx o.carrier) o.command cause) := rfl
  refine ⟨fun tag spent => ?_, fun frame r answered => ⟨fun fault => ?_, fun nak notGate notDarken => ?_,
    fun busy wakes spent => ?_, fun ack is radio => ?_⟩⟩
  · refine ⟨_, ?_, left .timeout⟩
    have due : (s.channel (siteOf o.carrier)).timedOut = true := by
      simp [Channel.timedOut, Option.isSome_iff_ne_none, tag, spent]
    have faulted : s.cluster.commandTimeout (siteOf o.carrier) = (s.cluster.retire (siteOf o.carrier)).enterFaulted o.carrier
        (failureCause (s.ctx o.carrier) o.command .timeout) := by
      rw [Cluster.commandTimeout, show (s.cluster.lane (siteOf o.carrier)).outstanding = some o from live]
      rfl
    simp only [exec, execCommandTimeout, due, if_true]
    rw [show (s.on fun w => w.commandTimeout (siteOf o.carrier)) = s.on fun _ => _ from
      congrArg (fun w => { s with cluster := w }) faulted, State.testReleasingEnd_on]
    rfl
  · exact ⟨_, exec_answered answered ((Cluster.handleReply_fault fault).trans (fails .radio)), left .radio⟩
  · exact ⟨_, exec_answered answered ((Cluster.handleReply_nak nak notGate notDarken).trans (fails .refused)), left .refused⟩
  · refine ⟨_, exec_answered answered ?_, left .refused⟩
    rw [Cluster.handleReply_busy busy wakes, Cluster.busyRetry, if_neg (Nat.not_lt.mpr spent)]
    rfl
  · refine ⟨_, exec_answered answered (Eq.trans ?_ (fails .radio)), left .radio⟩
    simp only [Cluster.handleReply, is, Cluster.queryReply, ack, radio]

end Sys2Proof.Machine
end

section
/-! HOLD_ON, RELEASE_HOLD, LOAD_CARRIERS and PROBE (sections 10.2, 10.3 and 10.5). -/

namespace Sys2Proof.Machine

/-! ## HOLD_ON and RELEASE_HOLD -/

theorem Context.edit_holdLeft (x : Context) (m : Nat) :
    (x.edit fun y => { y with holdLeft := m }) = { x with holdLeft := m, dirty := x.dirty || decide (x.holdLeft ≠ m) } := by
  simp [Context.edit, Context.view, eq_comm]

/-- The carrier is selected and may be held. -/
def DirectiveRun.takes (d : DirectiveRun) (w : Cluster) (c : Carrier) : Bool :=
  d.selects c (w.ctx c).state && decide ((w.ctx c).state ≠ .unmanaged)

/-- The carrier is selected and may not be held. -/
def DirectiveRun.passes (d : DirectiveRun) (w : Cluster) (c : Carrier) : Bool :=
  d.selects c (w.ctx c).state && decide ((w.ctx c).state = .unmanaged)

/-- The context with its hold released. -/
def Context.unheld (x : Context) : Context := { x with holdLeft := 0, dirty := x.dirty || decide (x.holdLeft ≠ 0) }

section
variable {w v : Cluster} {d : DirectiveRun} {c : Carrier}

theorem releaseHold_step (w : Cluster) (d : DirectiveRun) (c : Carrier) :
    (let r := d.step releaseHoldCarrier w c
     (∀ e, r.1.ctx e = if e = c ∧ d.takes w c = true then (w.ctx c).unheld else w.ctx e) ∧
     r.1 = { w with contexts := r.1.contexts } ∧
     r.2 = { d with
       position := d.position + 1
       affected := d.affected + (d.takes w c).toNat
       skipped := d.skipped + (d.passes w c).toNat }) := by
  unfold DirectiveRun.step releaseHoldCarrier DirectiveRun.takes DirectiveRun.passes
  by_cases selected : d.selects c (w.ctx c).state = true
  · by_cases unmanaged : (w.ctx c).state = .unmanaged
    · rw [if_pos selected, if_pos unmanaged, selected, unmanaged]
      refine ⟨fun e => ?_, rfl, rfl⟩
      simp
    · rw [if_pos selected, if_neg unmanaged, selected, decide_eq_true unmanaged, decide_eq_false unmanaged]
      refine ⟨fun e => ?_, rfl, rfl⟩
      rw [Cluster.ctx_editCtx]
      by_cases own : e = c
      · simp [own, Context.edit_holdLeft, Context.unheld]
      · simp [own, Ne.symm own]
  · rw [if_neg selected, Bool.eq_false_iff.mpr selected]
    refine ⟨fun e => ?_, rfl, rfl⟩
    simp

/-- A whole walk of RELEASE_HOLD: every carrier from the position on is judged as it stood before the walk. -/
theorem releaseHold_walk (n : Nat) (w : Cluster) (d : DirectiveRun) (rest : d.position + n = 256) :
    (let r := DirectiveRun.walk releaseHoldCarrier n w d
     let left : List Carrier := (List.finRange 256).drop d.position
     (∀ e, r.1.ctx e = if d.position ≤ e.val ∧ d.takes w e = true then (w.ctx e).unheld else w.ctx e) ∧
     r.1 = { w with contexts := r.1.contexts } ∧
     r.2 = { d with
       position := 256, affected := d.affected + left.countP (d.takes w), skipped := d.skipped + left.countP (d.passes w) }) := by
  induction n generalizing w d with
  | zero =>
    obtain rest : d.position = 256 := rest
    have none : (List.finRange 256).drop d.position = [] := List.drop_eq_nil_of_le (by simp [rest])
    rw [none]
    refine ⟨fun e => (if_neg fun h => ?_).symm, rfl, ?_⟩
    · exact absurd e.isLt (by omega)
    · obtain ⟨⟩ := d
      cases rest
      rfl
  | succ n ih =>
    have lt : d.position < 256 := by omega
    have unfolded : DirectiveRun.walk releaseHoldCarrier (n + 1) w d =
        DirectiveRun.walk releaseHoldCarrier n (d.step releaseHoldCarrier w ⟨d.position, lt⟩).1
          (d.step releaseHoldCarrier w ⟨d.position, lt⟩).2 := dif_pos lt
    obtain ⟨ctx, only, run⟩ := releaseHold_step w d ⟨d.position, lt⟩
    rw [unfolded]
    generalize (d.step releaseHoldCarrier w ⟨d.position, lt⟩).1 = u at *
    generalize (d.step releaseHoldCarrier w ⟨d.position, lt⟩).2 = d1 at *
    have next : d1.position = d.position + 1 := by rw [run]
    have state (e : Carrier) : (u.ctx e).state = (w.ctx e).state := by
      rw [ctx]
      split
      · next h => rw [h.1]; rfl
      · rfl
    have takes : d1.takes u = d.takes w := funext fun e => by
      unfold DirectiveRun.takes
      rw [state, run]
      rfl
    have passes : d1.passes u = d.passes w := funext fun e => by
      unfold DirectiveRun.passes
      rw [state, run]
      rfl
    obtain ⟨ctxs, onlys, runs⟩ := ih u d1 (by omega)
    rw [takes, passes, next] at *
    generalize DirectiveRun.walk releaseHoldCarrier n u d1 = r at *
    have split : (List.finRange 256).drop d.position =
        (⟨d.position, lt⟩ : Carrier) :: (List.finRange 256).drop (d.position + 1) := by
      rw [List.drop_eq_getElem_cons (by simpa using lt)]
      simp
    have count (f : Carrier → Bool) (k : Nat) : k + (f ⟨d.position, lt⟩).toNat +
        ((List.finRange 256).drop (d.position + 1)).countP f = k + ((List.finRange 256).drop d.position).countP f := by
      rw [split, List.countP_cons]
      cases f ⟨d.position, lt⟩ <;> simp +arith
    refine ⟨fun e => ?_, ?_, ?_⟩
    · rw [ctxs, ctx]
      by_cases own : e = ⟨d.position, lt⟩
      · subst own
        have before : ¬d.position + 1 ≤ d.position := Nat.not_succ_le_self _
        simp [before]
      · have apart : e.val ≠ d.position := fun h => own (Fin.ext h)
        have after : d.position + 1 ≤ e.val ↔ d.position ≤ e.val := by omega
        simp only [after, own, false_and, if_false]
    · obtain ⟨a, rfl⟩ : ∃ a, u = { w with contexts := a } := ⟨_, only⟩
      exact onlys
    · rw [runs, run]
      simp only [count]

end

theorem State.runAfter_congr (s : State) {v w : Cluster} (state : ∀ c, (v.ctx c).state = (w.ctx c).state)
    (stack : ∀ c, v.stack c = w.stack c) : s.runAfter v = s.runAfter w := by
  have quiet : v.Quiet ↔ w.Quiet := forall_congr' fun c => by rw [state, stack]
  unfold State.runAfter
  simp only [quiet]

/-- Settles O59: HOLD_ON by what it does to one carrier, RELEASE_HOLD by its whole walk. -/
theorem holdDirectives : Obligations.HoldDirectives := by
  refine fun s p d => ⟨fun c executing position => ?_, fun executing start unaffected unskipped => ?_⟩
  · have done : exec (.holdOn 1) s = .next (s.walkDirective p d 1 (holdOnCarrier (max 1 (d.param 0)))) := by
      simp only [exec, execHoldOn, State.directiveOf_executing executing]
    have minutes : max 1 (d.param 0) = if d.param 0 = 0 then 1 else d.param 0 := by
      split <;> omega
    rw [minutes] at done
    refine ⟨fun unselected => ⟨_, done, State.walkDirective_unselected position unselected⟩,
      fun selected unmanaged => ⟨_, done, ?_⟩, fun selected managed => ?_⟩
    · have stepped := State.walkDirective_selected (p := p)
        (act := holdOnCarrier (if d.param 0 = 0 then 1 else d.param 0)) position selected
      rw [holdOnCarrier, if_pos (show (s.cluster.ctx c).state = .unmanaged from unmanaged)] at stepped
      simpa [DirectiveRun.count, DirectiveRun.next, position] using stepped
    · refine ⟨s.cluster.editCtx c fun x => { x with holdLeft := if d.param 0 = 0 then 1 else d.param 0 },
        (Cluster.ctx_editCtx_self ..).trans (Context.edit_holdLeft ..),
        fun e other => Cluster.ctx_editCtx_ne _ (Ne.symm other) _, rfl, _, done, ?_⟩
      have stepped := State.walkDirective_selected (p := p)
        (act := holdOnCarrier (if d.param 0 = 0 then 1 else d.param 0)) position selected
      rw [holdOnCarrier, if_neg (show (s.cluster.ctx c).state ≠ .unmanaged from managed)] at stepped
      simpa [DirectiveRun.count, DirectiveRun.next, position] using stepped
  · have done : exec (.releaseHold 256) s = .next (s.walkDirective p d 256 releaseHoldCarrier) := by
      simp only [exec, execReleaseHold, State.directiveOf_executing executing]
    have stepped := s.walkDirective_stepped p d 256 releaseHoldCarrier
    obtain ⟨ctx, only, run⟩ := releaseHold_walk 256 s.cluster { d with begun := true } (by simp [start])
    generalize DirectiveRun.walk releaseHoldCarrier 256 s.cluster { d with begun := true } = r at *
    obtain ⟨a, cluster⟩ : ∃ a, r.1 = { s.cluster with contexts := a } := ⟨_, only⟩
    have state (c : Carrier) : (r.1.ctx c).state = (s.cluster.ctx c).state := by
      rw [ctx]
      split <;> rfl
    have whole : (List.finRange 256).drop ({ d with begun := true } : DirectiveRun).position = List.finRange 256 := by
      rw [show ({ d with begun := true } : DirectiveRun).position = 0 from start, List.drop_zero]
    rw [whole] at run
    refine ⟨_, { s with runState := s.runAfter r.1, cluster := r.1 }, done, fun c => ?_, ?_, ?_⟩
    · refine (ctx c).trans (ite_congr (propext ?_) (fun _ => rfl) fun _ => rfl)
      exact ⟨fun h => h.2, fun h => ⟨Nat.le_trans (Nat.le_of_eq start) (Nat.zero_le _), h⟩⟩
    · rw [s.runAfter_congr state fun c => by rw [cluster]; rfl, cluster]
    · rw [State.Stepped, run] at stepped
      have stepped := (if_neg (Nat.lt_irrefl 256)).mp stepped
      dsimp only at stepped
      rw [unaffected, unskipped, Nat.zero_add, Nat.zero_add] at stepped
      exact stepped

/-! ## LOAD_CARRIERS -/

theorem Context.edit_cfg (x : Context) (cfg : CarrierConfig) :
    (x.edit fun y => { y with cfg }) = { x with cfg, dirty := x.dirty || decide (cfg.cover ≠ x.cfg.cover) } := by
  simp [Context.edit, Context.view]

/-- The run after the carrier c, which counts a affected and k skipped, with no row held. -/
def DirectiveRun.after (d : DirectiveRun) (c : Carrier) (a k : Nat) : DirectiveRun :=
  { d with begun := true, position := c.val + 1, affected := d.affected + a, skipped := d.skipped + k, row := none }

section
variable {s : State} {p : Pass} {d : DirectiveRun} {c : Carrier} {row : CarrierRow}

theorem Cluster.rowApplicable_iff (w : Cluster) (c : Carrier) :
    w.rowApplicable c = true ↔ w.stack c = [] ∧ ((w.ctx c).state = .unmanaged ∨ (w.ctx c).state = .unknown ∨
      (w.ctx c).state = .faulted ∨ ((w.ctx c).state = .serving ∧ (w.ctx c).reserved = false)) := by
  refine ⟨Cluster.rowApplicable_spec, fun ⟨bare, state⟩ => ?_⟩
  rcases state with h | h | h | ⟨h, unreserved⟩
  · simp [Cluster.rowApplicable, bare, h]
  · simp [Cluster.rowApplicable, bare, h]
  · simp [Cluster.rowApplicable, bare, h]
  · simp [Cluster.rowApplicable, bare, h, unreserved]

theorem Cluster.applyRow_edits {w : Cluster} (present : row.present = true) (large : row.capacityOk = true)
    (managed : (w.ctx c).state ≠ .unmanaged) :
    w.applyRow c row = (w.editCtx c fun x => { x with cfg := row.cfg }, true) := by
  rw [Cluster.applyRow, if_pos present, if_pos large, if_neg managed]

theorem Cluster.applyRow_presents {w : Cluster} (present : row.present = true) (large : row.capacityOk = true)
    (unmanaged : (w.ctx c).state = .unmanaged) : w.applyRow c row = (w.makePresent c row.cfg, true) := by
  rw [Cluster.applyRow, if_pos present, if_pos large, if_pos unmanaged]

theorem Cluster.applyRow_keeps {w : Cluster} (absent : row.present = false) (unmanaged : (w.ctx c).state = .unmanaged) :
    w.applyRow c row = (w, true) := by
  rw [Cluster.applyRow, if_neg (by rw [absent]; decide), if_pos unmanaged]

theorem Cluster.applyRow_removes {w : Cluster} (absent : row.present = false) (managed : (w.ctx c).state ≠ .unmanaged) :
    w.applyRow c row = (w.makeUnmanaged c, true) := by
  rw [Cluster.applyRow, if_neg (by rw [absent]; decide), if_neg managed]

theorem State.walkRows_held (position : d.position = c.val) (held : d.row = some row) :
    State.walkRows p 1 s d = s.takeRow d c row := by
  obtain ⟨n, lt⟩ := c
  cases position
  rw [State.walkRows, dif_pos lt]
  simp only [held]
  rfl

theorem State.walkRows_unheld (position : d.position = c.val) (free : d.row = none) :
    State.walkRows p 1 s { d with begun := true } =
      if d.selects c (s.ctx c).state = true then
        if s.cluster.rowApplicable c = true then
          (s.read p.base (rowOffset c) 32 (.directiveRow d.slot c), { d with begun := true })
        else (s.on fun _ => s.cluster, d.after c 0 1)
      else (s.on fun _ => s.cluster, d.after c 0 0) := by
  have skips : (({ d with begun := true } : DirectiveRun).count false).next = d.after c 0 1 := by
    simp [DirectiveRun.next, DirectiveRun.after, DirectiveRun.count, position, free]
  have goes : ({ d with begun := true } : DirectiveRun).next = d.after c 0 0 := by
    simp [DirectiveRun.next, DirectiveRun.after, position, free]
  rw [← skips, ← goes]
  obtain ⟨n, lt⟩ := c
  cases position
  rw [State.walkRows, dif_pos lt]
  simp only [free]
  rfl

/-- The conclusion of a walk or its next step. -/
theorem State.stepped_walked (s : State) (p : Pass) (d : DirectiveRun) (v : Cluster) :
    s.Stepped
      (let s1 := (s.on fun _ => v).testReleasingEnd
       if 256 ≤ d.position then s1.concludeDirective p d .ok else s1.enterPhase p (.intake (some d))) p d v := by
  unfold State.Stepped
  dsimp only
  rw [State.testReleasingEnd_on]
  by_cases h : d.position < 256
  · rw [if_pos h, if_neg (Nat.not_le.mpr h)]
    rfl
  · rw [if_neg h, if_pos (Nat.not_lt.mp h)]
    exact State.concludeDirective_concluded ..

theorem exec_loadCarriers (executing : s.Executing p d (some .loadCarriers)) {d1 : DirectiveRun} {v : Cluster}
    (walked : State.walkRows p 1 s { d with begun := true } = (s.on fun _ => v, d1)) :
    ∃ t, exec (.loadCarriers 1) s = .next t ∧ s.Stepped t p d1 v := by
  refine ⟨_, ?_, s.stepped_walked p d1 v⟩
  simp only [exec, execLoadCarriers, State.directiveOf_executing executing, walked]

theorem State.takeRow_refused (position : d.position = c.val) (refused : s.cluster.rowApplicable c = false ∨
    (row.present = true ∧ row.capacityOk = false)) :
    s.takeRow { d with begun := true } c row = (s.on fun _ => s.cluster, d.after c 0 1) := by
  have run : ({ ({ d with begun := true } : DirectiveRun).count false with row := none } : DirectiveRun).next = d.after c 0 1 := by
    simp [DirectiveRun.next, DirectiveRun.after, DirectiveRun.count, position]
  rw [State.takeRow]
  rcases refused with h | ⟨present, small⟩
  · rw [if_neg (by rw [h]; decide), run]
    rfl
  · have keeps : s.cluster.applyRow c row = (s.cluster, false) := by simp [Cluster.applyRow, present, small]
    rw [keeps]
    dsimp only
    rw [run]
    split <;> rfl

theorem State.takeRow_applied {v : Cluster} (position : d.position = c.val) (may : s.cluster.rowApplicable c = true)
    (applied : s.cluster.applyRow c row = (v, true)) :
    s.takeRow { d with begun := true } c row = (s.on fun _ => v, d.after c 1 0) := by
  have run : ({ ({ d with begun := true } : DirectiveRun).count true with row := none } : DirectiveRun).next = d.after c 1 0 := by
    simp [DirectiveRun.next, DirectiveRun.after, DirectiveRun.count, position]
  rw [State.takeRow, if_pos may, applied]
  dsimp only
  rw [run]

end

/-- The carrier's command, if any, is retired. -/
theorem Cluster.abandon_spec (w : Cluster) (c : Carrier) :
    (let v := w.abandon c
     (∀ j, v.lane j =
       if w.isOutstanding c = true ∧ j = siteOf c then (w.lane j).ended else w.lane j) ∧
     (∀ j, v.channel j = if w.isOutstanding c = true ∧ j = siteOf c then (w.channel j).retired else w.channel j) ∧
     v = { w with lanes := v.lanes, channels := v.channels }) := by
  rw [Cluster.abandon]
  cases live : w.isOutstanding c with
  | true =>
    refine ⟨fun j => (w.lane_retire ..).trans ?_, fun j => (w.channel_retire ..).trans ?_, rfl⟩
    · by_cases h : siteOf c = j
      · simp only [h, true_and, if_true]
      · simp [h, Ne.symm h]
    · by_cases h : siteOf c = j
      · simp only [h, true_and, if_true]
      · simp [h, Ne.symm h]
  | false => exact ⟨fun j => by simp, fun j => by simp, rfl⟩

/-- A carrier becomes UNMANAGED: its query ends, its command is retired and its wants leave. -/
theorem Cluster.makeUnmanaged_spec (w : Cluster) (c : Carrier) :
    (let v := w.makeUnmanaged c
     v.ctx c = (w.ctx c).becomeUnmanaged ∧ (∀ e, e ≠ c → v.ctx e = w.ctx e) ∧ w.QueryEnded v c false ∧
     v.lane (siteOf c) = { w.lane (siteOf c) with
       queue := (w.lane (siteOf c)).queue.filter fun y => y.carrier != c
       outstanding := if w.isOutstanding c = true then none else (w.lane (siteOf c)).outstanding } ∧
     v.channel (siteOf c) =
       (if w.isOutstanding c = true then (w.channel (siteOf c)).retired else w.channel (siteOf c)) ∧
     (∀ j : Site, j ≠ siteOf c → v.lane j = w.lane j ∧ v.channel j = w.channel j) ∧
     v = { w with
       contexts := v.contexts, lanes := v.lanes, channels := v.channels, probes := v.probes, outcomes := v.outcomes }) := by
  have same := (w.endQuery_spec c false).1
  have ended := w.queryEnded_endQuery c false
  unfold Cluster.makeUnmanaged
  obtain ⟨probes, outcomes, query⟩ : ∃ probes outcomes, w.endQuery c false = { w with probes := probes, outcomes := outcomes } :=
    ⟨_, _, same⟩
  rw [query] at ended ⊢
  dsimp only
  have live : ({ w with probes := probes, outcomes := outcomes } : Cluster).isOutstanding c = w.isOutstanding c := rfl
  obtain ⟨lane, channel, only⟩ := Cluster.abandon_spec ({ w with probes := probes, outcomes := outcomes } : Cluster) c
  rw [live] at lane channel
  generalize ({ w with probes := probes, outcomes := outcomes } : Cluster).abandon c = u at *
  obtain ⟨a, b, rfl⟩ : ∃ a b, u = { w with probes := probes, outcomes := outcomes, lanes := a, channels := b } := ⟨_, _, only⟩
  refine ⟨Cluster.ctx_setCtx_self .., fun e other => Cluster.ctx_setCtx_ne _ (Ne.symm other) _,
    ended.congr rfl ⟨rfl, rfl⟩ ⟨rfl, rfl⟩, ?_, ?_, fun j other => ⟨?_, ?_⟩, rfl⟩
  · refine (Cluster.lane_setLane_self ..).trans ?_
    rw [lane]
    simp only [and_true]
    split <;> rfl
  · refine (channel (siteOf c)).trans ?_
    simp only [and_true]
    rfl
  · refine (Cluster.lane_setLane_ne _ (Ne.symm other) _).trans ((lane j).trans (if_neg fun h => other h.2))
  · exact (channel j).trans (if_neg fun h => other h.2)

/-- Settles O58: the row is read, refused, or applied. -/
theorem loadCarriersRow : Obligations.LoadCarriersRow := by
  intro s p d c executing position
  have may := s.cluster.rowApplicable_iff c
  refine ⟨fun free => ⟨fun unselected => ?_, fun selected cannot => ?_, fun selected can => ?_⟩,
    fun row held => ⟨fun refused => ?_, fun can present large managed => ?_, fun can present large unmanaged free => ?_,
      fun can absent unmanaged => ?_, fun can absent managed => ?_⟩⟩
  · refine exec_loadCarriers executing ?_
    exact (State.walkRows_unheld position free).trans (if_neg unselected)
  · refine exec_loadCarriers executing ?_
    exact (State.walkRows_unheld position free).trans ((if_pos selected).trans (if_neg fun h => cannot (may.mp h)))
  · have walked := State.walkRows_unheld (s := s) (p := p) position free
    rw [if_pos selected, if_pos (may.mpr can)] at walked
    have goes : ¬256 ≤ d.position := by omega
    simp only [exec, execLoadCarriers, State.directiveOf_executing executing, walked, goes, if_false,
      State.testReleasingEnd_eq]
    rfl
  · have walked := (State.walkRows_held (p := p) (d := { d with begun := true }) position held).trans
      (State.takeRow_refused (s := s) (row := row) position (refused.imp_left fun h => Bool.eq_false_iff.mpr fun g => h (may.mp g)))
    exact exec_loadCarriers executing walked
  · have applied := Cluster.applyRow_edits (w := s.cluster) present large managed
    refine ⟨s.cluster.editCtx c fun x => { x with cfg := row.cfg }, ⟨(Cluster.ctx_editCtx_self ..).trans ?_,
      fun e other => Cluster.ctx_editCtx_ne _ (Ne.symm other) _⟩, rfl, exec_loadCarriers executing
        ((State.walkRows_held (p := p) (d := { d with begun := true }) position held).trans
          (State.takeRow_applied position (may.mpr can) applied))⟩
    exact Context.edit_cfg ..
  · have applied := Cluster.applyRow_presents (w := s.cluster) present large unmanaged
    have free : (s.cluster.setCtx c ((s.cluster.ctx c).becomePresent row.cfg)).Unasked c := free
    refine ⟨s.cluster.makePresent c row.cfg, ⟨(Cluster.ctx_want ..).trans ((Cluster.ctx_setCtx_self ..).trans ?_),
      fun e other => (Cluster.ctx_want ..).trans (Cluster.ctx_setCtx_ne _ (Ne.symm other) _)⟩,
      Cluster.lane_want_of_unasked free .query, fun j other => (Cluster.lane_want_ne _ other .query).trans rfl, ?_,
      exec_loadCarriers executing
        ((State.walkRows_held (p := p) (d := { d with begun := true }) position held).trans
          (State.takeRow_applied position (may.mpr can) applied))⟩
    · rw [State.ctx_reset]
      rfl
    · obtain ⟨a, h⟩ : ∃ a, s.cluster.makePresent c row.cfg =
          { s.cluster.setCtx c ((s.cluster.ctx c).becomePresent row.cfg) with lanes := a } := ⟨_, (Cluster.joinWant_spec ..).1⟩
      rw [h]
      rfl
  · have applied := Cluster.applyRow_keeps (w := s.cluster) absent unmanaged
    exact exec_loadCarriers executing
        ((State.walkRows_held (p := p) (d := { d with begun := true }) position held).trans
          (State.takeRow_applied position (may.mpr can) applied))
  · have applied := Cluster.applyRow_removes (w := s.cluster) absent managed
    obtain ⟨ctx, contexts, ended, lane, channel, others, only⟩ := s.cluster.makeUnmanaged_spec c
    refine ⟨s.cluster.makeUnmanaged c, exec_loadCarriers executing
        ((State.walkRows_held (p := p) (d := { d with begun := true }) position held).trans
          (State.takeRow_applied position (may.mpr can) applied)), ⟨ctx.trans ?_, contexts⟩, ended, lane, channel, others, only⟩
    rw [State.ctx_reset]
    rfl

end Sys2Proof.Machine
end

section
/-! PROBE (section 10.5). -/

namespace Sys2Proof.Machine

/-! ## The next step of a pass, whatever its phase -/

section
variable (s : State) (q : Option Pass) (p : Pass) (ph : Phase)

theorem State.issueHeader_repass (wrote : Bool) :
    ({ s with pass := q } : State).issueHeader { p with phase := ph } wrote = s.issueHeader p wrote := by
  cases wrote <;> rfl

theorem State.beginOutcomes_repass (wrote : Bool) :
    ({ s with pass := q } : State).beginOutcomes { p with phase := ph } wrote = s.beginOutcomes p wrote := by
  rw [State.beginOutcomes, State.beginOutcomes]
  dsimp only
  cases s.cluster.outcomes.map DirectiveOutcome.slot with
  | nil => exact s.issueHeader_repass q p ph wrote
  | cons n ns => rfl

theorem State.writeRecords_repass (wrote : Bool) (start : Nat) :
    ({ s with pass := q } : State).writeRecords { p with phase := ph } wrote start = s.writeRecords p wrote start := by
  rw [State.writeRecords, State.writeRecords]
  dsimp only
  cases s.cluster.nextDirty start with
  | none => exact s.beginOutcomes_repass q p ph wrote
  | some c => rfl

theorem State.intakeFrom_repass (n : Nat) :
    ({ s with pass := q } : State).intakeFrom { p with phase := ph } n = s.intakeFrom p n := by
  rw [State.intakeFrom, State.intakeFrom]
  split
  · rfl
  · rw [State.endIntake, State.endIntake]
    dsimp only
    split
    · exact s.writeRecords_repass q p ph false 0
    · rfl

end

/-! ## PROBE -/

section
variable {s : State} {p : Pass} {d : DirectiveRun} {c : Carrier}

/-- A PROBE's next step with the cluster v and the run d, for the slot n. -/
def State.probed (s : State) (p : Pass) (n : Slot) (d : DirectiveRun) (v : Cluster) : State :=
  if 256 ≤ d.position then (s.on fun _ => v.endSelection n).finishDirective p d
  else (s.on fun _ => v).enterPhase p (.intake (some d))

theorem State.probed_stepped (s : State) (p : Pass) (d : DirectiveRun) (v : Cluster) :
    s.ProbeStepped (s.probed p d.slot d v) p d v := by
  unfold State.ProbeStepped State.probed
  by_cases h : d.position < 256
  · rw [if_pos h, if_neg (Nat.not_le.mpr h)]
    rfl
  · rw [if_neg h, if_pos (Nat.not_lt.mp h)]
    exact State.finishDirective_executed ..

theorem State.probed_repass (s : State) (q : Option Pass) (p : Pass) (ph : Phase) (n : Slot) (d : DirectiveRun) (v w : Cluster) :
    ({ s with pass := q, cluster := w } : State).probed { p with phase := ph } n d v = s.probed p n d v := by
  unfold State.probed
  split
  · exact ({ s with
      cluster := v.endSelection n
      retake := if s.retake = some d.slot then none else s.retake } : State).intakeFrom_repass q p ph (d.slot.val + 1)
  · rfl

theorem exec_probe (executing : s.Executing p d (some .probe)) (n : Nat) :
    exec (.probe n) s = .next
      (let r := DirectiveRun.walk (probeCarrier d.slot) n (if d.begun then s.cluster else s.cluster.placeProbe d.slot)
        { d with begun := true }
       s.probed p d.slot r.2 r.1) := by
  simp only [exec, execProbe, State.directiveOf_executing executing]
  rfl

/-- A PROBE that has begun, at one carrier. -/
theorem exec_probe_one (executing : s.Executing p d (some .probe)) (begun : d.begun = true) (position : d.position = c.val) :
    ∃ t, exec (.probe 1) s = .next t ∧ t = s.probed p d.slot (d.step (probeCarrier d.slot) s.cluster c).2
      (d.step (probeCarrier d.slot) s.cluster c).1 := by
  refine ⟨_, exec_probe executing 1, ?_⟩
  have run : ({ d with begun := true } : DirectiveRun) = d := by
    obtain ⟨⟩ := d
    cases begun
    rfl
  rw [run, begun, DirectiveRun.walk_one position]
  rfl

theorem probe_selected (executing : s.Executing p d (some .probe)) (begun : d.begun = true) (position : d.position = c.val)
    (selected : d.selects c (s.ctx c).state = true) {v : Cluster} {affected : Bool}
    (taken : probeCarrier d.slot s.cluster c = (v, affected)) :
    ∃ t, exec (.probe 1) s = .next t ∧ s.ProbeStepped t p
      { d with
        position := c.val + 1
        affected := d.affected + affected.toNat
        skipped := d.skipped + (!affected).toNat } v := by
  obtain ⟨t, done, is⟩ := exec_probe_one executing begun position
  have step : d.step (probeCarrier d.slot) s.cluster c = (v, (d.count affected).next) := by
    rw [DirectiveRun.step, if_pos (show d.selects c (s.cluster.ctx c).state = true from selected), taken]
  have run : (d.count affected).next = { d with
      position := c.val + 1
      affected := d.affected + affected.toNat
      skipped := d.skipped + (!affected).toNat } := by
    cases affected <;> simp [DirectiveRun.count, DirectiveRun.next, position]
  rw [step, run] at is
  refine ⟨t, done, ?_⟩
  rw [is]
  exact s.probed_stepped p _ v

end

/-- A carrier that a PROBE takes and has queried. -/
theorem Cluster.want_joinProbe {w : Cluster} {c : Carrier} (free : w.Unasked c) (f : Context → Context) (n : Slot) :
    (let v := ((w.editCtx c f).want c .query).joinProbe n c
     v.ctx c = (w.ctx c).edit f ∧ (∀ e, e ≠ c → v.ctx e = w.ctx e) ∧
     v.lane (siteOf c) = (w.lane (siteOf c)).joined c .query 0 1 ∧ (∀ j, j ≠ siteOf c → v.lane j = w.lane j) ∧
     v = { w with
       contexts := v.contexts
       lanes := v.lanes
       probes := w.probes.map fun r => if r.slot = n then { r with members := r.members ++ [c] } else r }) := by
  refine ⟨(Cluster.ctx_want ..).trans (Cluster.ctx_editCtx_self ..),
    fun e other => (Cluster.ctx_want ..).trans (Cluster.ctx_editCtx_ne _ (Ne.symm other) _),
    Cluster.lane_want_of_unasked (w := w.editCtx c f) free .query, fun j other => Cluster.lane_want_ne (w.editCtx c f) other .query, ?_⟩
  obtain ⟨a, h⟩ : ∃ a, (w.editCtx c f).want c .query = { w.editCtx c f with lanes := a } := ⟨_, (Cluster.joinWant_spec ..).1⟩
  rw [h]
  rfl

theorem Context.edit_probed_serving {x : Context} (serving : x.state = .serving) :
    (x.edit fun y => { y.enter .unknown with probeOrigin := some .serving }) =
      { x with
        state := .unknown, cls := x.cls, probeOrigin := some .serving, sleepCount := 0, wakeCount := 0, dirty := true } := by
  rw [Context.edit_of_state (by simp [serving])]
  simp [Context.enter, serving]

theorem Context.edit_probed_faulted {x : Context} (faulted : x.state = .faulted) :
    (x.edit fun y => { y.enter .unknown with probeOrigin := some .faulted, cls := .absent }) =
      { x with
        state := .unknown, cls := .absent, probeOrigin := some .faulted, sleepCount := 0, wakeCount := 0, dirty := true } := by
  rw [Context.edit_of_state (by simp [faulted])]
  simp [Context.enter, faulted]

section
variable {w : Cluster} {n : Slot} {c : Carrier}

theorem probeCarrier_serves (serving : (w.ctx c).state = .serving) (unreserved : (w.ctx c).reserved = false)
    (bare : w.stack c = []) (free : w.Unasked c) : probeCarrier n w c = (w.probeServing n c, true) :=
  if_pos ⟨serving, unreserved, bare, (w.idle_iff c).mpr free⟩

theorem probeCarrier_waits (unknown : (w.ctx c).state = .unknown) (free : (w.ctx c).probeOrigin = none) :
    probeCarrier n w c = (w.probeUnknown n c, true) :=
  (if_neg fun h => absurd (unknown.symm.trans h.1) (by decide)).trans (if_pos ⟨unknown, free⟩)

theorem probeCarrier_faulted (faulted : (w.ctx c).state = .faulted) (bare : w.stack c = []) :
    probeCarrier n w c = (w.probeFaulted n c, true) :=
  (if_neg fun h => absurd (faulted.symm.trans h.1) (by decide)).trans
    ((if_neg fun h => absurd (faulted.symm.trans h.1) (by decide)).trans (if_pos ⟨faulted, bare⟩))

theorem probeCarrier_skips
    (notServes : ¬((w.ctx c).state = .serving ∧ (w.ctx c).reserved = false ∧ w.stack c = [] ∧ w.Unasked c))
    (notWaits : ¬((w.ctx c).state = .unknown ∧ (w.ctx c).probeOrigin = none))
    (notFaulted : ¬((w.ctx c).state = .faulted ∧ w.stack c = [])) :
    probeCarrier n w c = (w.editProbe n fun r => { r with skipped := r.skipped + 1 }, false) :=
  (if_neg fun h => notServes ⟨h.1, h.2.1, h.2.2.1, (w.idle_iff c).mp h.2.2.2⟩).trans
    ((if_neg notWaits).trans (if_neg notFaulted))

end

/-- Settles O60, by what a PROBE does to one carrier. (The model itself has the name probeCarrier.) -/
theorem probeCarrier_spec : Obligations.ProbeCarrier := by
  refine fun s p d executing => ⟨fun fresh n => ?_, fun c begun position => ⟨fun unselected => ?_, fun selected =>
    ⟨fun serves => ?_, fun waits => ?_, fun faulted free => ?_, fun notServes notWaits notFaulted => ?_⟩⟩⟩
  · have began : ({ s.goingOn p { d with begun := true } with cluster := s.cluster.placeProbe d.slot } : State).Executing
        { p with phase := .intake (some { d with begun := true }) } { d with begun := true } (some .probe) :=
      ⟨rfl, executing.2.1, rfl, executing.2.2.2⟩
    refine (exec_probe executing n).trans (Eq.trans ?_ (exec_probe began n).symm)
    rw [fresh]
    exact congrArg Host.Outcome.next (s.probed_repass _ p _ d.slot _ _ (s.cluster.placeProbe d.slot)).symm
  · obtain ⟨t, done, is⟩ := exec_probe_one executing begun position
    have step : d.step (probeCarrier d.slot) s.cluster c = (s.cluster, { d with position := c.val + 1 }) := by
      rw [DirectiveRun.step, if_neg (show ¬d.selects c (s.cluster.ctx c).state = true from unselected), DirectiveRun.next,
        position]
    rw [step] at is
    refine ⟨t, done, ?_⟩
    rw [is]
    exact s.probed_stepped p { d with position := c.val + 1 } s.cluster
  · obtain ⟨serving, unreserved, bare, free⟩ := serves
    obtain ⟨ctx, contexts, lane, lanes, only⟩ := Cluster.want_joinProbe free
      (fun x => { x.enter .unknown with probeOrigin := some .serving }) d.slot
    refine ⟨_, probe_selected executing begun position selected (probeCarrier_serves serving unreserved bare free),
      ctx.trans (Context.edit_probed_serving serving), contexts, lane, lanes, only⟩
  · obtain ⟨unknown, free⟩ := waits
    refine ⟨_, probe_selected executing begun position selected (probeCarrier_waits unknown free),
      (Cluster.ctx_editCtx_self ..).trans (Context.edit_of_view rfl), fun e other => Cluster.ctx_editCtx_ne _ (Ne.symm other) _, rfl,
      fun _ _ => rfl, rfl⟩
  · obtain ⟨state, bare⟩ := faulted
    obtain ⟨ctx, contexts, lane, lanes, only⟩ := Cluster.want_joinProbe free
      (fun x => { x.enter .unknown with probeOrigin := some .faulted, cls := .absent }) d.slot
    refine ⟨_, probe_selected executing begun position selected (probeCarrier_faulted state bare),
      ctx.trans (Context.edit_probed_faulted state), contexts, lane, lanes, only⟩
  · exact probe_selected executing begun position selected (probeCarrier_skips notServes notWaits notFaulted)

end Sys2Proof.Machine
end

section
/-! What wake requests to a set of carriers leave in a coherent cluster (sections 2.4, 5.6 and 5.7). -/

namespace Sys2Proof.Machine

/-! ## The entries that wake requests turn back -/

/-- The entry after wake requests to the carriers of S. -/
def Entry.woken (S : Carrier → Bool) (r : Reason) (e : Entry) : Entry :=
  if S e.carrier = true ∧ e.phase ≠ .returning then { e with phase := .returning, reason := r } else e

/-- The stack of k holds a reservation of a carrier of S. -/
def Cluster.loses (w : Cluster) (S : Carrier → Bool) (k : Carrier) : Bool :=
  (w.stack k).any fun e => S e.carrier && (w.ctx e.carrier).reserved

section
variable {S T : Carrier → Bool} {r : Reason} {e : Entry}

@[simp] theorem Entry.carrier_woken (S : Carrier → Bool) (r : Reason) (e : Entry) : (e.woken S r).carrier = e.carrier := by
  unfold Entry.woken
  split <;> rfl

theorem Entry.woken_of_rests (h : S e.carrier = false ∨ e.phase = .returning) : e.woken S r = e := by
  refine if_neg fun g => ?_
  rcases h with h | h
  · exact absurd (h.symm.trans g.1) (by decide)
  · exact g.2 h

theorem Entry.woken_of_turns (woken : S e.carrier = true) (active : e.phase ≠ .returning) :
    e.woken S r = { e with phase := .returning, reason := r } := if_pos ⟨woken, active⟩

theorem Entry.woken_woken (S T : Carrier → Bool) (r : Reason) (e : Entry) :
    (e.woken S r).woken T r = e.woken (fun c => S c || T c) r := by
  by_cases returning : e.phase = .returning
  · rw [Entry.woken_of_rests (S := S) (.inr returning), Entry.woken_of_rests (.inr returning), Entry.woken_of_rests (.inr returning)]
  · cases first : S e.carrier with
    | true =>
      rw [Entry.woken_of_turns (S := S) first returning, Entry.woken_of_rests (.inr rfl),
        Entry.woken_of_turns (by simp [first]) returning]
    | false =>
      rw [Entry.woken_of_rests (S := S) (.inl first)]
      simp [Entry.woken, first]

end

/-- Wake requests with one reason have been made to the carriers of S. -/
structure Cluster.Woken (w v : Cluster) (S : Carrier → Bool) (r : Reason) : Prop where
  only : w.OnlyCarriers v
  outstanding : ∀ i, (v.lane i).outstanding = (w.lane i).outstanding
  stack : ∀ k, v.stack k =
    ((w.stack k).filter fun e => !(S e.carrier && (w.ctx e.carrier).reserved)).map (Entry.woken S r)
  rests : ∀ k, ∀ e ∈ w.stack k, S e.carrier = false ∨ e.phase = .returning →
    v.ctx e.carrier = w.ctx e.carrier ∧ v.wantOf e.carrier = w.wantOf e.carrier
  cancels : ∀ k, ∀ e ∈ w.stack k, S e.carrier = true → (w.ctx e.carrier).reserved = true →
    v.ctx e.carrier =
      { (w.ctx e.carrier).noted r with reserved := false, resleepLeft := (w.ctx e.carrier).cfg.resleepHold } ∧
    v.wantOf e.carrier = none
  turns : ∀ k, ∀ e ∈ w.stack k, S e.carrier = true → e.phase ≠ .returning → (w.ctx e.carrier).reserved = false →
    v.ctx e.carrier = (w.ctx e.carrier).noted r ∧
    (∀ command, w.wakeCommand e.carrier = some command → v.wants e.carrier command = true) ∧
    (w.wakeCommand e.carrier = none → v.wantOf e.carrier = w.wantOf e.carrier)
  owners : ∀ k, w.holdsEntry k = false →
    v.ctx k =
      (if w.loses S k = true then (w.ctx k).handedOn (v.stack k).isEmpty (w.channel (siteOf k)).up else w.ctx k) ∧
    (w.loses S k = true ∧ v.stack k = [] ∧ w.Relinkable k → v.wants k .query = true) ∧
    (¬(w.loses S k = true ∧ v.stack k = [] ∧ w.Relinkable k) → v.wantOf k = w.wantOf k)

section
variable {w v u : Cluster} {X : Carrier → Prop} {S T : Carrier → Bool} {r : Reason}

theorem Cluster.Woken.mem_iff (h : w.Woken v S r) {k : Carrier} {f : Entry} :
    f ∈ v.stack k ↔ ∃ e ∈ w.stack k, (S e.carrier = true → (w.ctx e.carrier).reserved = false) ∧ e.woken S r = f := by
  rw [h.stack]
  simp [and_assoc, ← Bool.not_eq_true, Decidable.imp_iff_not_or]

theorem Cluster.Woken.mem (h : w.Woken v S r) {k : Carrier} {e : Entry} (he : e ∈ w.stack k)
    (stays : S e.carrier = true → (w.ctx e.carrier).reserved = false) : e.woken S r ∈ v.stack k :=
  h.mem_iff.mpr ⟨e, he, stays, rfl⟩

theorem Cluster.CoherentBut.reserved_of_returning (h : w.CoherentBut X) {k : Carrier} {e : Entry} (he : e ∈ w.stack k)
    (returning : e.phase = .returning) : (w.ctx e.carrier).reserved = false := by
  refine Classical.byContradiction fun reserved => ?_
  have path := h.phases k e he
  rw [returning, h.marks e.carrier (h.of_mem he).1 (by simpa using reserved)] at path
  cases path

theorem Cluster.CoherentBut.bare_of_mem (h : w.CoherentBut X) {k : Carrier} {e : Entry} (he : e ∈ w.stack k) :
    w.stack e.carrier = [] := by
  refine Classical.byContradiction fun owns => ?_
  obtain ⟨inside, sleeps, -⟩ := h.of_mem he
  exact absurd ((Context.sleeps_of_awake (h.owners _ inside owns)).symm.trans sleeps) (by decide)

theorem Cluster.Woken.reserved_eq (h : w.Woken v S r) {k : Carrier} {e : Entry} (he : e ∈ w.stack k) :
    (v.ctx e.carrier).reserved = (!S e.carrier && (w.ctx e.carrier).reserved) := by
  cases woken : S e.carrier with
  | false =>
    rw [(h.rests k e he (.inl woken)).1]
    rfl
  | true =>
    cases reserved : (w.ctx e.carrier).reserved with
    | true =>
      rw [(h.cancels k e he woken reserved).1]
      rfl
    | false =>
      by_cases returning : e.phase = .returning
      · rw [(h.rests k e he (.inr returning)).1, reserved]
        rfl
      · rw [(h.turns k e he woken returning reserved).1]
        exact reserved

theorem Cluster.Woken.holdsEntry_of_none (h : w.Woken v S r) {c : Carrier} (none : w.holdsEntry c = false) :
    v.holdsEntry c = false := by
  rw [Cluster.holdsEntry_eq_false_iff] at *
  intro k
  refine Classical.byContradiction fun stands => ?_
  obtain ⟨f, hf, rfl⟩ := Cluster.standsOn_iff.mp (by simpa using stands)
  obtain ⟨e, he, -, rfl⟩ := h.mem_iff.mp hf
  rw [Entry.carrier_woken] at none
  exact absurd (none k) (by rw [Cluster.standsOn_of_mem he]; decide)

/-- A cancelled reservation leaves no entry. -/
theorem Cluster.Woken.holdsEntry_of_cancelled (h : w.Woken v S r) {c : Carrier} (woken : S c = true) (reserved : (w.ctx c).reserved = true) :
    v.holdsEntry c = false := by
  rw [Cluster.holdsEntry_eq_false_iff]
  intro l
  refine Classical.byContradiction fun stands => ?_
  obtain ⟨f, hf, rfl⟩ := Cluster.standsOn_iff.mp (by simpa using stands)
  obtain ⟨e, -, stays, rfl⟩ := h.mem_iff.mp hf
  rw [Entry.carrier_woken] at woken reserved
  exact absurd ((stays woken).symm.trans reserved) (by decide)

theorem Cluster.Woken.loses_eq (h : w.Woken v S r) (k : Carrier) :
    v.loses T k = (w.stack k).any fun e => !S e.carrier && T e.carrier && (w.ctx e.carrier).reserved := by
  rw [Bool.eq_iff_iff, Cluster.loses, List.any_eq_true, List.any_eq_true]
  constructor
  · rintro ⟨f, hf, lost⟩
    obtain ⟨e, he, -, rfl⟩ := h.mem_iff.mp hf
    rw [Entry.carrier_woken, h.reserved_eq he] at lost
    exact ⟨e, he, by simpa [and_comm, and_left_comm, and_assoc] using lost⟩
  · rintro ⟨e, he, lost⟩
    obtain ⟨out, inside, reserved⟩ : S e.carrier = false ∧ T e.carrier = true ∧ (w.ctx e.carrier).reserved = true := by
      simpa [and_assoc] using lost
    refine ⟨e.woken S r, h.mem he fun g => absurd (out.symm.trans g) (by decide), ?_⟩
    rw [Entry.carrier_woken, h.reserved_eq he, out, inside, reserved]
    rfl

theorem Cluster.Woken.loses_or (h : w.Woken v S r) (k : Carrier) :
    w.loses (fun c => S c || T c) k = (w.loses S k || v.loses T k) := by
  rw [h.loses_eq, Cluster.loses, Cluster.loses, Bool.eq_iff_iff, Bool.or_eq_true, List.any_eq_true, List.any_eq_true,
    List.any_eq_true]
  constructor
  · rintro ⟨e, he, lost⟩
    cases first : S e.carrier with
    | true => exact .inl ⟨e, he, by simpa [first] using lost⟩
    | false => exact .inr ⟨e, he, by simpa [first] using lost⟩
  · rintro (⟨e, he, lost⟩ | ⟨e, he, lost⟩)
    · exact ⟨e, he, by simp_all⟩
    · exact ⟨e, he, by simp_all⟩

/-- A stack that loses no reservation keeps its depth. -/
theorem Cluster.Woken.stack_eq_nil (h : w.Woken v S r) {k : Carrier} (kept : w.loses S k = false) :
    v.stack k = [] ↔ w.stack k = [] := by
  have all : ((w.stack k).filter fun e => !(S e.carrier && (w.ctx e.carrier).reserved)) = w.stack k := by
    refine List.filter_eq_self.mpr fun e he => ?_
    rw [Bool.eq_false_iff.mpr (List.any_eq_false.mp kept e he)]
    rfl
  rw [h.stack, all, List.map_eq_nil_iff]

theorem Cluster.stack_ne_nil_of_loses {k : Carrier} (lost : w.loses S k = true) : w.stack k ≠ [] := by
  intro bare
  rw [Cluster.loses, bare] at lost
  cases lost

theorem Context.handedOn_handedOn (x : Context) (emptied up : Bool) :
    (x.handedOn false up).handedOn emptied up = x.handedOn emptied up := by
  simp [Context.handedOn]

theorem Cluster.wakeCommand_of_light {c : Carrier} (light : (w.ctx c).state = .light) : w.wakeCommand c = some .raise := by
  rw [Cluster.wakeCommand, light]

theorem Cluster.wakeCommand_of_dark {c : Carrier} (dark : (w.ctx c).state = .dark) : w.wakeCommand c = some .warm := by
  rw [Cluster.wakeCommand, dark]

theorem Cluster.wakeCommand_of_draining {c : Carrier} (draining : (w.ctx c).state = .draining)
    (drains : w.wants c .shed = true ∨ w.wants c .lower = true) : w.wakeCommand c = some .reopen := by
  rw [Cluster.wakeCommand, draining]
  exact if_pos ((Bool.or_eq_true _ _).mpr drains)

theorem Cluster.wakeCommand_congr {c : Carrier} (ctx : v.ctx c = w.ctx c) (want : v.wantOf c = w.wantOf c) :
    v.wakeCommand c = w.wakeCommand c := by
  unfold Cluster.wakeCommand Cluster.wants
  rw [ctx, want]

theorem Cluster.wants_congr {c : Carrier} (want : v.wantOf c = w.wantOf c) (command : RadioCommand) :
    v.wants c command = w.wants c command := by
  unfold Cluster.wants
  rw [want]

/-- Wake requests to the carriers of S and then to those of T are wake requests to both. -/
theorem Cluster.Woken.trans (h : w.Woken v S r) (g : v.Woken u T r) (coherent : w.CoherentBut X) :
    w.Woken u (fun c => S c || T c) r where
  only := g.only.after h.only
  outstanding i := (g.outstanding i).trans (h.outstanding i)
  stack k := by
    rw [g.stack, h.stack, List.filter_map, List.map_map, List.filter_filter]
    have woken : Entry.woken T r ∘ Entry.woken S r = Entry.woken (fun c => S c || T c) r :=
      funext fun e => Entry.woken_woken S T r e
    rw [woken]
    refine congrArg _ (List.filter_congr fun e he => ?_)
    simp only [Function.comp, Entry.carrier_woken, h.reserved_eq he]
    cases S e.carrier <;> cases T e.carrier <;> cases (w.ctx e.carrier).reserved <;> rfl
  rests k e he rest := by
    have before : S e.carrier = false ∨ e.phase = .returning := rest.imp_left fun q => (Bool.or_eq_false_iff.mp q).1
    have stays (woken : S e.carrier = true) : (w.ctx e.carrier).reserved = false :=
      coherent.reserved_of_returning he (before.resolve_left (by rw [woken]; decide))
    obtain ⟨ctx, want⟩ := h.rests k e he before
    have there := h.mem he stays
    rw [Entry.woken_of_rests before] at there
    obtain ⟨ctx', want'⟩ := g.rests k e there (rest.imp_left fun q => (Bool.or_eq_false_iff.mp q).2)
    exact ⟨ctx'.trans ctx, want'.trans want⟩
  cancels k e he woken reserved := by
    cases first : S e.carrier with
    | true =>
      obtain ⟨ctx, want⟩ := h.cancels k e he first reserved
      have bare : v.stack e.carrier = [] := by rw [h.stack, coherent.bare_of_mem he]; rfl
      have kept : v.loses T e.carrier = false := by rw [Cluster.loses, bare]; rfl
      obtain ⟨ctx', -, want'⟩ := g.owners e.carrier (h.holdsEntry_of_cancelled first reserved)
      rw [kept] at ctx' want'
      exact ⟨ctx'.trans ctx, (want' fun q => absurd q.1 (by decide)).trans want⟩
    | false =>
      obtain ⟨ctx, -⟩ := h.rests k e he (.inl first)
      have there := h.mem he fun q => absurd (first.symm.trans q) (by decide)
      rw [Entry.woken_of_rests (.inl first)] at there
      have after := g.cancels k e there (by simpa [first] using woken) (by rw [ctx]; exact reserved)
      rwa [ctx] at after
  turns k e he woken active unreserved := by
    have there := h.mem he fun _ => unreserved
    cases first : S e.carrier with
    | true =>
      obtain ⟨ctx, wanted, unwanted⟩ := h.turns k e he first active unreserved
      have rest := g.rests k _ there (.inr (by rw [Entry.woken_of_turns first active]))
      rw [Entry.carrier_woken] at rest
      obtain ⟨ctx', want'⟩ := rest
      exact ⟨ctx'.trans ctx, fun command q => (Cluster.wants_congr want' command).trans (wanted command q),
        fun q => want'.trans (unwanted q)⟩
    | false =>
      obtain ⟨ctx, want⟩ := h.rests k e he (.inl first)
      rw [Entry.woken_of_rests (.inl first)] at there
      have after := g.turns k e there (by simpa [first] using woken) active (by rw [ctx]; exact unreserved)
      rw [ctx, Cluster.wakeCommand_congr ctx want, want] at after
      exact after
  owners k none := by
    obtain ⟨ctx, queried, kept⟩ := h.owners k none
    obtain ⟨ctx', queried', kept'⟩ := g.owners k (h.holdsEntry_of_none none)
    have up : (v.channel (siteOf k)).up = (w.channel (siteOf k)).up := congrArg Channel.up (h.only.channel _)
    rw [h.loses_or]
    rw [up] at ctx'
    cases lost' : v.loses T k with
    | false =>
      rw [lost'] at ctx' kept'
      have empty : u.stack k = [] ↔ v.stack k = [] := g.stack_eq_nil lost'
      have isEmpty : (u.stack k).isEmpty = (v.stack k).isEmpty := by
        rw [Bool.eq_iff_iff, List.isEmpty_iff, List.isEmpty_iff, empty]
      have want : u.wantOf k = v.wantOf k := kept' fun q => absurd q.1 (by decide)
      rw [Bool.or_false, isEmpty, empty, want]
      exact ⟨ctx'.trans ctx, fun q => (Cluster.wants_congr want .query).trans (queried q), kept⟩
    | true =>
      have deep : v.stack k ≠ [] := Cluster.stack_ne_nil_of_loses lost'
      have shallow : (v.stack k).isEmpty = false := by simpa using deep
      have want : v.wantOf k = w.wantOf k := kept fun q => deep q.2.1
      have state : (v.ctx k).state = (w.ctx k).state ∧ (v.ctx k).cause = (w.ctx k).cause := by
        rw [ctx, shallow]
        split <;> simp [Context.handedOn]
      have relinkable : v.Relinkable k ↔ w.Relinkable k := by
        rw [Cluster.Relinkable, Cluster.Relinkable, state.1, state.2, up]
      rw [lost', if_pos rfl] at ctx'
      rw [lost', relinkable, want] at kept'
      rw [lost', relinkable] at queried'
      rw [Bool.or_true, if_pos rfl]
      refine ⟨ctx'.trans ?_, queried', kept'⟩
      rw [ctx, shallow]
      split
      · exact Context.handedOn_handedOn ..
      · rfl

/-! ## One wake request -/

/-- Wake requests to carriers whose entries are all RETURNING change nothing. -/
theorem Cluster.Woken.idle (h : w.CoherentBut X) (r : Reason)
    (returning : ∀ k, ∀ e ∈ w.stack k, S e.carrier = true → e.phase = .returning) : w.Woken w S r := by
  have unreserved (k : Carrier) (e : Entry) (he : e ∈ w.stack k) : (S e.carrier && (w.ctx e.carrier).reserved) = false := by
    cases woken : S e.carrier with
    | true => exact h.reserved_of_returning he (returning k e he woken)
    | false => rfl
  have kept (k : Carrier) : w.loses S k = false := List.any_eq_false.mpr fun e he => by rw [unreserved k e he]; decide
  refine ⟨.refl w, fun _ => rfl, fun k => ?_, fun _ _ _ _ => ⟨rfl, rfl⟩, fun k e he woken reserved => ?_,
    fun k e he woken active _ => absurd (returning k e he woken) active, fun k _ => ?_⟩
  · rw [List.filter_eq_self.mpr fun e he => by rw [unreserved k e he]; rfl]
    refine ((List.map_congr_left fun e he => ?_).trans (List.map_id _)).symm
    refine Entry.woken_of_rests ?_
    cases woken : S e.carrier with
    | true => exact .inr (returning k e he woken)
    | false => exact .inl rfl
  · have := unreserved k e he
    rw [woken, reserved] at this
    cases this
  · rw [kept]
    exact ⟨rfl, fun q => absurd q.1 (by decide), fun _ => rfl⟩

theorem Cluster.CoherentBut.unsent_of_wakeCommand (h : w.CoherentBut X) {c : Carrier} (inside : ¬X c) {command : RadioCommand}
    (wakes : w.wakeCommand c = some command) : w.isOutstanding c = false := by
  refine Classical.byContradiction fun sent => ?_
  obtain ⟨o, live, rfl⟩ := Cluster.isOutstanding_iff.mp (by simpa using sent)
  have fits := h.sent _ o live inside
  rw [Cluster.wakeCommand] at wakes
  cases state : (w.ctx o.carrier).state with
  | light => cases is : o.command <;> simp [RadioCommand.fitsSent, is, state] at fits
  | dark => cases is : o.command <;> simp [RadioCommand.fitsSent, is, state] at fits
  | draining =>
    have wanted : ∃ command, w.wants o.carrier command = true := by
      refine Classical.byContradiction fun none => ?_
      simp only [not_exists, Bool.not_eq_true] at none
      rw [state] at wakes
      simp [none] at wakes
    obtain ⟨command, wanted⟩ := wanted
    obtain ⟨x, queued, own, -⟩ := Cluster.exists_of_wants wanted
    exact (h.lanes (siteOf o.carrier)).not_queued live x queued own
  | unmanaged | unknown | stray | serving | lowering | deepening | warming | raising | faulted =>
    rw [state] at wakes
    cases wakes

/-- A wake request that turns the entry e back. -/
theorem Cluster.Woken.turned (h : w.CoherentBut X) {k : Carrier} {e : Entry} (he : e ∈ w.stack k)
    (turns : (w.ctx e.carrier).state.turns = true) (active : e.phase ≠ .returning) (r : Reason) :
    w.Woken (w.wakeRequest e.carrier r) (· == e.carrier) r := by
  have inside := (h.of_mem he).1
  have holds : w.holdsActive e.carrier = true := (h.holdsActive_iff _).mpr ⟨k, e, he, rfl, active⟩
  have unreserved : (w.ctx e.carrier).reserved = false := by
    refine Classical.byContradiction fun reserved => ?_
    rw [h.marks e.carrier inside (by simpa using reserved)] at turns
    cases turns
  have keeps (d : Carrier) : ((d == e.carrier) && (w.ctx d).reserved) = false := by
    by_cases own : d = e.carrier
    · rw [own, unreserved, Bool.and_false]
    · rw [beq_false_of_ne own, Bool.false_and]
  have ctx := Cluster.ctx_wakeRequest_turns turns holds r
  have want (d : Carrier) (other : d ≠ e.carrier) : (w.wakeRequest e.carrier r).wantOf d = w.wantOf d := by
    rw [Cluster.wakeRequest_turns turns holds]
    cases w.wakeCommand e.carrier with
    | none => exact w.wantOf_turnBack e.carrier r d
    | some command => exact (Cluster.wantOf_want_ne _ (Ne.symm other) command).trans (w.wantOf_turnBack e.carrier r d)
  have kept (l : Carrier) : w.loses (· == e.carrier) l = false := List.any_eq_false.mpr fun f _ => by rw [keeps]; decide
  refine ⟨Cluster.onlyCarriers_wakeRequest .., fun i => Cluster.outstanding_wakeRequest .., fun l => ?_, fun l f hf rest => ?_,
    fun l f hf own reserved => ?_, fun l f hf own _ _ => ?_, fun l none => ?_⟩
  · rw [Cluster.stack_wakeRequest_turns turns holds, h.hostOf_eq he, List.filter_eq_self.mpr fun f _ => by rw [keeps]; rfl]
    have same (f : Entry) (hf : f ∈ w.stack l) : f.woken (· == e.carrier) r =
        if f.carrier = e.carrier then { f with phase := .returning, reason := r } else f := by
      by_cases own : f.carrier = e.carrier
      · obtain ⟨-, rfl⟩ := h.entry_unique hf he own
        rw [if_pos rfl]
        exact Entry.woken_of_turns (beq_self_eq_true _) active
      · rw [if_neg own]
        exact Entry.woken_of_rests (.inl (beq_false_of_ne own))
    rw [List.map_congr_left same]
    split
    · rfl
    · next away =>
      refine ((List.map_congr_left fun f hf => ?_).trans (List.map_id _)).symm
      exact if_neg fun own => away (congrArg some (h.entry_unique he hf own.symm).1)
  · have other : f.carrier ≠ e.carrier := by
      intro own
      obtain ⟨-, rfl⟩ := h.entry_unique hf he own
      exact rest.elim (fun q => absurd (q.symm.trans (beq_self_eq_true _)) (by decide)) active
    exact ⟨(ctx _).trans (if_neg other), want _ other⟩
  · rw [beq_iff_eq] at own
    rw [own, unreserved] at reserved
    cases reserved
  · obtain own : f.carrier = e.carrier := beq_iff_eq.mp own
    rw [own]
    refine ⟨(ctx _).trans (if_pos rfl), fun command wakes => ?_, fun none => ?_⟩
    · have lane := Cluster.lane_wakeRequest_some turns holds r wakes (siteOf e.carrier)
      have joined := Cluster.wants_joinWant_self (w.turnBack e.carrier r)
        ((w.isOutstanding_turnBack e.carrier r e.carrier).trans (h.unsent_of_wakeCommand inside wakes)) command 0 1
      refine (Cluster.wants_congr ?_ command).trans joined
      unfold Cluster.wantOf
      rw [lane]
      rfl
    · unfold Cluster.wantOf
      rw [Cluster.lane_wakeRequest_none turns holds r none]
  · have other : l ≠ e.carrier := by
      rintro rfl
      exact absurd ((Cluster.holdsEntry_eq_false_iff.mp none k).symm.trans (Cluster.standsOn_of_mem he)) (by decide)
    rw [kept]
    exact ⟨(ctx l).trans (if_neg other), fun q => absurd q.1 (by decide), fun _ => want l other⟩

/-- A command that has joined a lane without a want of its carrier is wanted. -/
theorem Cluster.wants_of_joined {c : Carrier} {command : RadioCommand} {wait attempt : Nat}
    (joined : v.lane (siteOf c) = (w.lane (siteOf c)).joined c command wait attempt) (free : w.wantOf c = none) :
    v.wants c command = true := by
  unfold Cluster.wants Cluster.wantOf at *
  rw [joined, Lane.joined, List.find?_append, free]
  simp

/-- A wake request that cancels the reservation of the entry e. -/
theorem Cluster.Woken.cancelled (h : w.CoherentBut X) (rest : ∀ k, X k → ¬w.Relinkable k) {k : Carrier} {e : Entry}
    (he : e ∈ w.stack k) (reserved : (w.ctx e.carrier).reserved = true) (r : Reason) :
    w.Woken (w.wakeRequest e.carrier r) (· == e.carrier) r := by
  have inside := (h.of_mem he).1
  have host := h.hostOf_eq he
  have away : k ≠ e.carrier := by
    intro own
    have bare := h.bare_of_mem he
    rw [← own] at bare
    rw [bare] at he
    cases he
  have free (relinkable : w.Relinkable k) : w.Unasked k := by
    by_cases out : X k
    · exact absurd relinkable (rest k out)
    · exact h.unasked_of_state out (.inl relinkable.1)
  rw [Cluster.wakeRequest_reserved (h.marks e.carrier inside reserved) reserved]
  have ctx := Cluster.ctx_cancelReservation host away r
  have stack (l : Carrier) : (w.cancelReservation e.carrier r).stack l =
      (w.stack l).filter fun f => !((f.carrier == e.carrier) && (w.ctx f.carrier).reserved) := by
    have removed (f : Entry) (_ : f ∈ w.stack l) : (!((f.carrier == e.carrier) && (w.ctx f.carrier).reserved)) =
        (f.carrier != e.carrier) := by
      by_cases own : f.carrier = e.carrier
      · rw [own, reserved, Bool.and_true]
        rfl
      · rw [beq_false_of_ne own, Bool.false_and]
        exact (bne_iff_ne.mpr own).symm
    rw [w.stack_cancelReservation, host, List.filter_congr removed]
    split
    · exact eraseP_carrier_eq_filter (h.nodup l) e.carrier
    · next other =>
      refine (List.filter_eq_self.mpr fun f hf => bne_iff_ne.mpr fun own => ?_).symm
      exact other (congrArg some (h.entry_unique he hf own.symm).1)
  have want (d : Carrier) (other : d ≠ e.carrier) (kept : w.hostOf e.carrier = some d → ¬w.Relinkable d) :
      (w.cancelReservation e.carrier r).wantOf d = w.wantOf d :=
    (Cluster.wantOf_removeEntry (w := w.dropWant e.carrier) d kept).trans (w.wantOf_dropWant_ne (Ne.symm other))
  have loses (l : Carrier) : w.loses (· == e.carrier) l = decide (l = k) := by
    rw [Bool.eq_iff_iff, Cluster.loses, List.any_eq_true, decide_eq_true_eq]
    constructor
    · rintro ⟨f, hf, lost⟩
      obtain ⟨own, -⟩ : f.carrier = e.carrier ∧ _ := by simpa using lost
      exact (h.entry_unique hf he own).1
    · rintro rfl
      exact ⟨e, he, by simp [reserved]⟩
  refine ⟨(Cluster.onlyCarriers_cancelReservation w e.carrier r), fun i => Cluster.outstanding_cancelReservation .., fun l => ?_,
    fun l f hf rests => ?_, fun l f hf own _ => ?_, fun l f hf own _ unreserved => ?_, fun l none => ?_⟩
  · rw [stack]
    refine ((List.map_congr_left fun f hf => ?_).trans (List.map_id _)).symm
    refine Entry.woken_of_rests (.inl ?_)
    obtain ⟨there, stays⟩ := List.mem_filter.mp hf
    refine beq_false_of_ne fun own => ?_
    rw [own, reserved] at stays
    simp at stays
  · have other : f.carrier ≠ e.carrier := by
      intro own
      rcases rests with q | q
      · exact absurd (q.symm.trans (beq_iff_eq.mpr own)) (by decide)
      · have := h.reserved_of_returning hf q
        rw [own, reserved] at this
        cases this
    have below : f.carrier ≠ k := by
      intro own
      have bare := h.bare_of_mem hf
      rw [own] at bare
      rw [bare] at he
      cases he
    exact ⟨(ctx _).trans ((if_neg other).trans (if_neg below)),
      want _ other fun q => absurd (Option.some.inj (host.symm.trans q)) (Ne.symm below)⟩
  · obtain own : f.carrier = e.carrier := beq_iff_eq.mp own
    rw [own]
    refine ⟨(ctx _).trans (if_pos rfl), ?_⟩
    exact (Cluster.wantOf_removeEntry (w := w.dropWant e.carrier) e.carrier fun q =>
      absurd (Option.some.inj (host.symm.trans q)) away).trans (w.wantOf_dropWant_self e.carrier)
  · rw [beq_iff_eq.mp own, reserved] at unreserved
    cases unreserved
  · have other : l ≠ e.carrier := by
      rintro rfl
      exact absurd ((Cluster.holdsEntry_eq_false_iff.mp none k).symm.trans (Cluster.standsOn_of_mem he)) (by decide)
    rw [loses, ctx, if_neg other]
    by_cases owner : l = k
    · subst owner
      have closed : (w.cancelReservation e.carrier r).stack l = (w.stack l).eraseP fun f => f.carrier == e.carrier :=
        (w.stack_cancelReservation ..).trans (if_pos host)
      rw [closed, if_pos rfl, decide_eq_true rfl, if_pos rfl]
      have lane (relinkable : w.Relinkable l) := Cluster.lane_removeEntry (w := w.dropWant e.carrier) host
        (.inr ⟨relinkable.1, (w.wantOf_dropWant_ne (Ne.symm other)).trans (free relinkable).1,
          (w.isOutstanding_dropWant ..).trans (free relinkable).2⟩) (siteOf l)
      refine ⟨rfl, fun ⟨_, empty, relinkable⟩ => ?_, fun q => ?_⟩
      · refine Cluster.wants_of_joined ((lane relinkable).trans (if_pos ⟨⟨empty, relinkable⟩, rfl⟩)) ?_
        exact (w.wantOf_dropWant_ne (Ne.symm other)).trans (free relinkable).1
      · by_cases relinkable : w.Relinkable l
        · have kept : ((w.dropWant e.carrier).removeEntry e.carrier).wantOf l = (w.dropWant e.carrier).wantOf l := by
            unfold Cluster.wantOf
            rw [lane relinkable, if_neg fun g => q ⟨rfl, g.1.1, relinkable⟩]
          exact kept.trans (w.wantOf_dropWant_ne (Ne.symm other))
        · exact want l other fun _ => relinkable
    · rw [if_neg owner, decide_eq_false owner]
      exact ⟨rfl, fun q => absurd q.1 (by decide),
        fun _ => want l other fun q => absurd (Option.some.inj (host.symm.trans q)) (Ne.symm owner)⟩

theorem Cluster.exists_of_holdsEntry {c : Carrier} (h : w.holdsEntry c = true) : ∃ k, ∃ e ∈ w.stack k, e.carrier = c := by
  obtain ⟨k, host⟩ := Option.isSome_iff_exists.mp h
  exact ⟨k, Cluster.standsOn_iff.mp (Cluster.hostOf_some w host)⟩

theorem Cluster.woken_wakeRequest (h : w.CoherentBut X) (rest : ∀ k, X k → ¬w.Relinkable k) {c : Carrier} (inside : ¬X c)
    (r : Reason) : w.Woken (w.wakeRequest c r) (· == c) r := by
  by_cases active : ∃ k, ∃ e ∈ w.stack k, e.carrier = c ∧ e.phase ≠ .returning
  · obtain ⟨k, e, he, rfl, active⟩ := active
    have fits := h.phases k e he
    cases reserved : (w.ctx e.carrier).reserved with
    | true => exact .cancelled h rest he reserved r
    | false =>
      refine .turned h he ?_ active r
      have sleeps : (w.ctx e.carrier).state.inSleepPath = true := by
        have := (h.of_mem he).2.1
        simpa [Context.sleeps, reserved] using this
      cases state : (w.ctx e.carrier).state with
      | draining | lowering | light | deepening | dark | warming => rfl
      | raising =>
        rw [state] at fits
        cases phase : e.phase with
        | returning => exact absurd phase active
        | reserved | settling | settled =>
          rw [phase] at fits
          cases fits
      | unmanaged | unknown | stray | serving | faulted =>
        rw [state] at sleeps
        cases sleeps
  · have idle : w.wakeRequest c r = w := by
      refine Cluster.wakeRequest_idle (fun _ => ?_) (fun serving => ?_) r
      · rw [← Bool.not_eq_true, h.holdsActive_iff]
        exact active
      · refine Classical.byContradiction fun reserved => ?_
        have reserved : (w.ctx c).reserved = true := by simpa using reserved
        have sleeps : (w.ctx c).sleeps = true := by simp [Context.sleeps, serving, reserved]
        obtain ⟨k, e, he, rfl⟩ := Cluster.exists_of_holdsEntry ((h.holdsEntry_iff c).mpr ⟨inside, sleeps⟩)
        refine active ⟨k, e, he, rfl, fun returning => ?_⟩
        exact absurd ((h.reserved_of_returning he returning).symm.trans reserved) (by decide)
    rw [idle]
    refine .idle h r fun k e he own => ?_
    refine Classical.byContradiction fun returning => ?_
    exact active ⟨k, e, he, beq_iff_eq.mp own, returning⟩

/-- Wake requests to a list of carriers, in its order. -/
theorem Cluster.woken_wakeAll (cs : List Carrier) (h : w.CoherentBut X) (rest : ∀ k, X k → ¬w.Relinkable k)
    (inside : ∀ c ∈ cs, ¬X c) (r : Reason) : w.Woken (w.wakeAll cs r) cs.contains r := by
  induction cs generalizing w with
  | nil => exact .idle h r fun _ _ _ q => absurd q (by simp)
  | cons c cs ih =>
    have first := Cluster.woken_wakeRequest h rest (inside c List.mem_cons_self) r
    have others := ih (h.wakeRequest c r) (fun k out => Cluster.not_relinkable_wakeRequest w (rest k out) c r)
      fun d hd => inside d (List.mem_cons_of_mem c hd)
    have both := first.trans others h
    have same : (fun d => (d == c) || cs.contains d) = (c :: cs).contains := funext fun d => (List.contains_cons ..).symm
    rwa [same] at both

theorem Cluster.Woken.standsOn_eq (h : w.Woken v S r) {c : Carrier} (out : S c = false) (k : Carrier) :
    v.standsOn c k = w.standsOn c k := by
  rw [Bool.eq_iff_iff, Cluster.standsOn_iff, Cluster.standsOn_iff]
  constructor
  · rintro ⟨f, hf, rfl⟩
    obtain ⟨e, he, -, rfl⟩ := h.mem_iff.mp hf
    exact ⟨e, he, (Entry.carrier_woken ..).symm⟩
  · rintro ⟨e, he, rfl⟩
    exact ⟨e.woken S r, h.mem he fun q => absurd (out.symm.trans q) (by decide), Entry.carrier_woken ..⟩

/-- Unwinding stacks makes wake requests to the carriers that have stood on them before. -/
theorem Cluster.woken_unwind (ks : List Carrier) (h : w.CoherentBut fun _ => False) (r : Reason) :
    w.Woken (ks.foldl (fun v k => v.unwind k r) w) (fun c => ks.any fun k => w.standsOn c k) r := by
  induction ks generalizing w with
  | nil => exact .idle h r fun _ _ _ q => absurd q (by simp)
  | cons k ks ih =>
    have first := Cluster.woken_wakeAll ((w.stack k).reverse.map Entry.carrier) h (fun _ => False.elim) (fun _ _ => id) r
    have both := first.trans (ih (h.unwind k r)) h
    have member (c : Carrier) : ((w.stack k).reverse.map Entry.carrier).contains c = w.standsOn c k := by
      rw [Bool.eq_iff_iff, Cluster.standsOn_iff, List.contains_iff_mem]
      simp
    have same : (fun c => ((w.stack k).reverse.map Entry.carrier).contains c || ks.any fun l => (w.unwind k r).standsOn c l) =
        fun c => (k :: ks).any fun l => w.standsOn c l := by
      funext c
      rw [member, List.any_cons]
      cases stands : w.standsOn c k with
      | true => rfl
      | false =>
        refine congrArg (fun f => false || ks.any f) (funext fun l => first.standsOn_eq ?_ l)
        rw [member, stands]
    exact same ▸ both

theorem Cluster.woken_unwindAll (h : w.CoherentBut fun _ => False) (r : Reason) :
    w.Woken (w.unwindAll r) w.holdsEntry r := by
  have all : (fun c => carriers.any fun k => w.standsOn c k) = w.holdsEntry := by
    funext c
    rw [← Bool.not_inj_iff, Bool.eq_iff_iff, Bool.not_eq_true', Bool.not_eq_true', Cluster.holdsEntry_eq_false_iff,
      List.any_eq_false]
    simp [mem_carriers]
  exact all ▸ Cluster.woken_unwind carriers h r

/-! ## The reserved-sleep marks -/

theorem Cluster.CoherentBut.unmarked_of_none (h : w.CoherentBut fun _ => False) {c : Carrier} (none : w.holdsEntry c = false) :
    (w.ctx c).reserved = false := by
  refine Classical.byContradiction fun marked => ?_
  have marked : (w.ctx c).reserved = true := by simpa using marked
  have sleeps : (w.ctx c).sleeps = true := by simp [Context.sleeps, h.marks c id marked, marked]
  exact absurd (none.symm.trans ((h.holdsEntry_iff c).mpr ⟨id, sleeps⟩)) (by decide)

theorem Cluster.Woken.unmarked (woken : w.Woken v S r) {c : Carrier} (unmarked : (w.ctx c).reserved = false) :
    (v.ctx c).reserved = false := by
  cases entry : w.holdsEntry c with
  | true =>
    obtain ⟨k, e, he, rfl⟩ := Cluster.exists_of_holdsEntry entry
    rw [woken.reserved_eq he, unmarked, Bool.and_false]
  | false =>
    rw [(woken.owners c entry).1]
    split
    · rw [Context.handedOn]
      split <;> exact unmarked
    · exact unmarked

/-- A carrier to which a wake request has been made has no reservation. -/
theorem Cluster.Woken.unreserved (woken : w.Woken v S r) (h : w.CoherentBut fun _ => False) {c : Carrier} (inside : S c = true) :
    (v.ctx c).reserved = false := by
  cases entry : w.holdsEntry c with
  | true =>
    obtain ⟨k, e, he, rfl⟩ := Cluster.exists_of_holdsEntry entry
    rw [woken.reserved_eq he, inside]
    rfl
  | false => exact woken.unmarked (h.unmarked_of_none entry)

end

end Sys2Proof.Machine
end

section
/-! Every stack unwound: RELEASE, and the entry into failsafe at the end of a starved gather (sections 4.4, 5.7 and 11.3). -/

namespace Sys2Proof.Machine

/-! ## Every stack unwound -/

section
variable {w v : Cluster} {r : Reason}

/-- Wake requests to all that hold an entry unwind every stack. -/
theorem Cluster.Woken.unwoundAll (woken : w.Woken v w.holdsEntry r) (h : w.CoherentBut fun _ => False) : w.UnwoundAll v r := by
  have holds (k : Carrier) (e : Entry) (he : e ∈ w.stack k) : w.holdsEntry e.carrier = true :=
    (h.holdsEntry_iff _).mpr ⟨id, (h.of_mem he).2.1⟩
  have loses (c : Carrier) : w.loses w.holdsEntry c = (w.stack c).any fun e => (w.ctx e.carrier).reserved := by
    rw [Bool.eq_iff_iff, Cluster.loses, List.any_eq_true, List.any_eq_true]
    refine exists_congr fun e => and_congr_right fun he => ?_
    rw [holds c e he, Bool.true_and]
  refine ⟨fun k => ?_, fun c => ?_, woken.outstanding, fun k e he => ⟨fun returning => woken.rests k e he (.inr returning),
    woken.cancels k e he (holds k e he), fun active unreserved => ?_⟩, fun c none => ?_⟩
  · rw [woken.stack]
    have kept : (w.stack k).filter (fun e => !(w.holdsEntry e.carrier && (w.ctx e.carrier).reserved)) =
        (w.stack k).filter fun e => !(w.ctx e.carrier).reserved :=
      List.filter_congr fun e he => by rw [holds k e he, Bool.true_and]
    rw [kept]
    refine List.map_congr_left fun e he => ?_
    split
    · next returning => exact Entry.woken_of_rests (.inr returning)
    · next active => exact Entry.woken_of_turns (holds k e (List.mem_filter.mp he).1) active
  · cases entry : w.holdsEntry c with
    | true => exact woken.unreserved h entry
    | false => exact woken.unmarked (h.unmarked_of_none entry)
  · obtain ⟨ctx, wanted, unwanted⟩ := woken.turns k e he (holds k e he) active unreserved
    refine ⟨ctx, fun light => wanted _ (Cluster.wakeCommand_of_light light), fun dark => wanted _ (Cluster.wakeCommand_of_dark dark),
      fun opens => wanted _ (Cluster.wakeCommand_of_draining opens.1 opens.2), fun light dark still => unwanted ?_⟩
    rw [Cluster.wakeCommand]
    split
    · next is => exact absurd is light
    · next is => exact absurd is dark
    · next is => exact if_neg fun drains => still ⟨is, (Bool.or_eq_true _ _).mp drains⟩
    · rfl
  · obtain ⟨ctx, queried, kept⟩ := woken.owners c none
    rw [loses] at ctx queried kept
    dsimp only
    cases lost : (w.stack c).any fun e => (w.ctx e.carrier).reserved with
    | false =>
      rw [lost] at ctx kept
      rw [Bool.false_and, if_neg fun q => absurd q.1 (by decide), Bool.or_false]
      exact ⟨ctx.trans (by simp), kept fun q => absurd q.1 (by decide)⟩
    | true =>
      rw [lost, if_pos rfl] at ctx
      rw [lost] at queried kept
      rw [Bool.true_and, Bool.or_true]
      have link : ((v.stack c).isEmpty = true ∧ (w.ctx c).state = .faulted ∧ (w.ctx c).cause = some .link ∧
          (w.channel (siteOf c)).up = true) ↔ v.stack c = [] ∧ w.Relinkable c := by rw [List.isEmpty_iff]; exact Iff.rfl
      rw [Context.handedOn] at ctx
      split
      · next q =>
        rw [if_pos q] at ctx
        exact ⟨ctx, queried ⟨rfl, link.mp q⟩⟩
      · next q =>
        rw [if_neg q] at ctx
        exact ⟨ctx, kept fun g => q (link.mpr g.2)⟩

theorem Cluster.unwoundAll_unwindAll (h : w.Coherent) (r : Reason) : w.UnwoundAll (w.unwindAll r) r :=
  (Cluster.woken_unwindAll (w.coherent_iff.mp h) r).unwoundAll (w.coherent_iff.mp h)

end

/-! ## RELEASE -/

/-- The state that a taken RELEASE leaves but for the sweep in progress, with the unwound cluster v. -/
def State.released (s : State) (v : Cluster) : State :=
  { s with
    runState := if v.Quiet then .holding else .releasing
    refused := false
    timer := { s.timer with sweepPending := false }
    cluster := v }

theorem State.release_eq {s : State} {v : Cluster} (unwound : s.cluster.unwindAll .release = v) :
    s.release = (s.released v).leaveRunning := by
  have on : (({ s with runState := .releasing, refused := false } : State).clearPending.on fun w => w.unwindAll .release) =
      ({ s with runState := .releasing, refused := false } : State).clearPending.on fun _ => v :=
    congrArg (fun v => { ({ s with runState := .releasing, refused := false } : State).clearPending with cluster := v }) unwound
  rw [State.release, on, State.testReleasingEnd_on]
  simp [State.released, State.runAfter, State.clearPending]

/-- Settles O17: RELEASE unwinds every stack. -/
theorem releaseTurnsAllBack : Obligations.ReleaseTurnsAllBack := by
  intro s coherent runs
  have done : exec .release s = .next s.release := by
    rcases runs with h | h <;> simp only [exec, execRelease, h]
  have unwound := Cluster.unwoundAll_unwindAll coherent.1 .release
  have only := Cluster.onlyCarriers_unwindAll s.cluster .release
  have released := State.release_eq (s := s) rfl
  generalize s.cluster.unwindAll .release = v at *
  refine ⟨_, s.released v, done, unwound, ?_, ?_⟩
  · obtain ⟨a, b, d, rfl⟩ : ∃ a b d, v = { s.cluster with contexts := a, coverStacks := b, lanes := d } := ⟨_, _, _, only⟩
    rfl
  · rw [released]
    exact State.leaveRunning_leavesRunning _

/-! ## The end of a gather -/

section
variable (s : State) (q : Option Access) (p : Pass)

theorem State.beginOutcomes_report (wrote : Bool) :
    ({ s with port := q } : State).beginOutcomes p wrote = s.beginOutcomes p wrote := by
  rw [State.beginOutcomes, State.beginOutcomes]
  dsimp only
  cases s.cluster.outcomes.map DirectiveOutcome.slot with
  | nil => cases wrote <;> rfl
  | cons n ns => rfl

theorem State.beginWriteBack_report : ({ s with port := q } : State).beginWriteBack p = s.beginWriteBack p := by
  rw [State.beginWriteBack, State.beginWriteBack, State.writeRecords, State.writeRecords]
  dsimp only
  cases s.cluster.nextDirty 0 with
  | none => exact s.beginOutcomes_report q p false
  | some c => rfl

/-- The part enters failsafe, with the unwound cluster v. -/
def State.failsafed (s : State) (v : Cluster) : State :=
  { s with failsafe := true, runState := s.runAfter v, cluster := v }

theorem State.enterFailsafe_eq {v : Cluster} (unwound : (s.cluster.notify .failsafe).unwindAll .failsafe = v) :
    s.enterFailsafe.testReleasingEnd = s.failsafed v := by
  have on : s.enterFailsafe = ({ s with failsafe := true } : State).on fun _ => v :=
    congrArg (fun v => ({ s with failsafe := true, cluster := v } : State)) unwound
  rw [on, State.testReleasingEnd_on]
  rfl

theorem State.entersFailsafe : s.EntersFailsafe s.enterFailsafe.testReleasingEnd := by
  have unwound (h : s.cluster.Coherent) := Cluster.unwoundAll_unwindAll
    ((Cluster.alike_notify s.cluster .failsafe).coherent h) .failsafe
  have only := Cluster.onlyCarriers_unwindAll (s.cluster.notify .failsafe) .failsafe
  have enters := s.enterFailsafe_eq rfl
  generalize (s.cluster.notify .failsafe).unwindAll .failsafe = v at *
  rw [enters]
  refine ⟨unwound, ?_⟩
  obtain ⟨a, b, d, rfl⟩ : ∃ a b d, v = { s.cluster.notify .failsafe with contexts := a, coverStacks := b, lanes := d } :=
    ⟨_, _, _, only⟩
  rfl

variable {taken visited failed : Bool}

theorem State.starvationCheck_of_taken : s.starvationCheck true visited failed = { s with starvation := 0, failsafe := false } := rfl

theorem State.starvationCheck_of_cut (cut : failed = true ∨ visited = false) : s.starvationCheck false visited failed = s :=
  (if_neg Bool.false_ne_true).trans (if_pos (by simpa using cut))

theorem State.starvationCheck_of_whole (whole : ¬(failed = true ∨ visited = false)) :
    s.starvationCheck false visited failed =
      if s.policy.failsafeLimit ≤ min 255 (s.starvation + 1) ∧ s.failsafe = false then
        ({ s with starvation := min 255 (s.starvation + 1) } : State).enterFailsafe.testReleasingEnd
      else { s with starvation := min 255 (s.starvation + 1) } :=
  (if_neg Bool.false_ne_true).trans (if_neg (by simpa using whole))

theorem State.starvationCheck_checked (taken visited failed : Bool) :
    s.StarvationChecked (s.starvationCheck taken visited failed) taken visited failed := by
  cases taken with
  | true => exact s.starvationCheck_of_taken
  | false =>
    by_cases cut : failed = true ∨ visited = false
    · rw [s.starvationCheck_of_cut cut, State.StarvationChecked, if_neg Bool.false_ne_true, if_pos cut]
    · rw [s.starvationCheck_of_whole cut, State.StarvationChecked, if_neg Bool.false_ne_true, if_neg cut]
      split
      · exact ({ s with starvation := min 255 (s.starvation + 1) } : State).entersFailsafe
      · rfl

theorem State.enterFailsafe_report :
    ({ s with port := q } : State).enterFailsafe.testReleasingEnd = { s.enterFailsafe.testReleasingEnd with port := q } := by
  have here := s.enterFailsafe_eq rfl
  have there := ({ s with port := q } : State).enterFailsafe_eq rfl
  dsimp only at there
  generalize (s.cluster.notify .failsafe).unwindAll .failsafe = v at here there
  rw [here, there]
  rfl

theorem State.starvationCheck_report (taken visited failed : Bool) :
    ({ s with port := q } : State).starvationCheck taken visited failed =
      { s.starvationCheck taken visited failed with port := q } := by
  cases taken with
  | true => rfl
  | false =>
    by_cases cut : failed = true ∨ visited = false
    · rw [State.starvationCheck_of_cut _ cut, State.starvationCheck_of_cut _ cut]
    · rw [State.starvationCheck_of_whole _ cut, State.starvationCheck_of_whole _ cut]
      dsimp only
      split
      · exact ({ s with starvation := min 255 (s.starvation + 1) } : State).enterFailsafe_report q
      · rfl

/-- The end of a gather, whatever the port holds. -/
theorem State.endGather_gatherEnds (taken visited failed : Bool) :
    s.GatherEnds (({ s with port := q } : State).endGather p taken visited failed) p taken visited failed := by
  refine ⟨_, s.starvationCheck_checked taken visited failed, ?_⟩
  rw [State.endGather, s.starvationCheck_report q]
  generalize s.starvationCheck taken visited failed = v
  dsimp only
  by_cases goesBack : failed = true ∨ p.leftRunning = true
  · refine (if_pos goesBack).mpr ?_
    rw [if_pos (by simpa using goesBack), v.beginWriteBack_report q]
    exact v.beginWriteBack_beginsWriteBack p
  · refine (if_neg goesBack).mpr ?_
    rw [if_neg (by simpa using goesBack)]
    rfl

end

theorem State.gatherFrom_of_absent {u : State} {p : Pass} {taken visited : Bool} {start : Nat}
    (h : u.cluster.nextPresent start = none) : u.gatherFrom p taken visited start = u.endGather p taken visited false := by
  rw [State.gatherFrom, h]

theorem State.gatherEnded_none (u : State) (p : Pass) (taken visited : Bool) (purpose : Purpose) :
    u.gatherEnded p taken visited purpose none = u.endGather p taken visited true := by
  cases purpose <;> rfl

/-- Settles O33: each end of a gather checks for starvation and goes on. -/
theorem starvedGatherEntersFailsafe : Obligations.StarvedGatherEntersFailsafe := by
  refine ⟨fun s p a c tk visited stamp b used users phase awaiting read one last => ?_,
    fun s p a tk visited phase cut pass port => ?_, fun s pending idle running absent => ?_⟩
  · have slot := s.slotVisited_slotVisited c stamp b used users
    have same : ({ s with port := none } : State).slotVisited c stamp b used users =
        { s.slotVisited c stamp b used users with port := none } := by
      unfold State.slotVisited
      dsimp only
      split <;> rfl
    have done : ({ s.slotVisited c stamp b used users with port := none } : State).cluster.nextPresent (c.val + 1) = none :=
      Cluster.nextPresent_eq_none fun d above => (congrArg CarrierConfig.present (slot.cfg d)).trans (last d above)
    refine ⟨_, s.slotVisited c stamp b used users, exec_complete_gather awaiting phase (data := [b]) (.inr one.symm), slot, ?_⟩
    have taken : observationTaken (s.ctx c) stamp b = decide (stamp = b ∧ (s.ctx c).lastStamp ≠ some stamp) := by
      rw [Bool.eq_iff_iff, observationTaken_iff, decide_eq_true_iff]
    have ends : ({ s with port := none } : State).gatherEnded p tk visited (.secondStamp c stamp used users) (some [b]) =
        ({ s.slotVisited c stamp b used users with port := none } : State).endGather p
          (tk || decide (stamp = b ∧ (s.ctx c).lastStamp ≠ some stamp)) visited false := by
      rw [← taken, ← State.gatherFrom_of_absent done, ← same]
      rfl
    rw [ends]
    exact State.endGather_gatherEnds ..
  · refine ⟨_, exec_error_of_pass pass port, ?_⟩
    rw [State.passEnded_gather phase cut, State.gatherEnded_none]
    exact s.failed.endGather_gatherEnds none p tk visited true
  · have begins : s.sweepMayBegin = true := by simp [State.sweepMayBegin, pending, idle, running]
    have none : ({ s with
        timer := { s.timer with sweepPending := false }
        sweepCount := wrapUp 4294967296 s.sweepCount } : State).cluster.nextPresent 0 = none :=
      Cluster.nextPresent_eq_none fun c _ => absent c
    have done : exec .sweepBegin s = .next s.beginSweep := congrArg Host.Outcome.next (if_pos begins)
    rw [State.beginSweep, State.gatherFrom_of_absent none] at done
    refine ⟨_, done, ?_⟩
    obtain ⟨v, checked, goes⟩ := ({ s with
        timer := { s.timer with sweepPending := false }
        sweepCount := wrapUp 4294967296 s.sweepCount } : State).endGather_gatherEnds s.port (s.newPass true) false false false
    refine ⟨v, checked, ?_⟩
    rw [if_neg (by simp)]
    exact (if_neg (by simp [State.newPass])).mp goes

end Sys2Proof.Machine
end

section
/-! The directives without a selector, and the CLOSE effects of LOAD_POLICY (sections 9.5 and 10). -/

namespace Sys2Proof.Machine

/-! ## CLOSE effects -/

section
variable {w v : Cluster} {X : Carrier → Prop} {S T : Carrier → Bool} {r : Reason}

/-- Only the carriers with an entry count. -/
theorem Cluster.Woken.congr (h : w.Woken v S r) (same : ∀ k, ∀ e ∈ w.stack k, S e.carrier = T e.carrier) : w.Woken v T r where
  only := h.only
  outstanding := h.outstanding
  stack k := by
    rw [h.stack, List.filter_congr fun e he => by rw [same k e he]]
    refine List.map_congr_left fun e he => ?_
    rw [Entry.woken, Entry.woken, same k e (List.mem_filter.mp he).1]
  rests k e he rest := h.rests k e he (by rwa [same k e he])
  cancels k e he woken := h.cancels k e he (by rwa [same k e he])
  turns k e he woken := h.turns k e he (by rwa [same k e he])
  owners k none := by
    have loses : w.loses S k = w.loses T k := by
      rw [Bool.eq_iff_iff, Cluster.loses, Cluster.loses, List.any_eq_true, List.any_eq_true]
      exact exists_congr fun e => and_congr_right fun he => by rw [same k e he]
    rw [← loses]
    exact h.owners k none

theorem Cluster.woken_closeEffects (h : w.CoherentBut fun _ => False) (n : WindowNo) :
    w.Woken (w.closeEffects n) (fun c => (w.ctx c).boundTo n) .windowClose := by
  refine (Cluster.woken_wakeAll _ h (fun _ => False.elim) (fun _ _ => id) .windowClose).congr fun k e he => ?_
  have holds : w.holdsEntry e.carrier = true := (h.holdsEntry_iff _).mpr ⟨id, (h.of_mem he).2.1⟩
  rw [Bool.eq_iff_iff, List.contains_iff_mem, List.mem_filter, Cluster.bound, List.mem_filter]
  simp [mem_carriers, holds]

/-- What a wake request leaves of its carrier, by the entry that it has held. -/
theorem Cluster.Woken.turnedBack (woken : w.Woken v S r) (h : w.CoherentBut fun _ => False) {c : Carrier} (inside : S c = true) :
    (v.ctx c).reserved = false ∧ (∀ k : Carrier, ∀ e ∈ v.stack k, e.carrier = c → e.phase = .returning) ∧
    ∀ k : Carrier, ∀ e ∈ w.stack k, e.carrier = c →
      (e.phase = .returning → e ∈ v.stack k ∧ v.ctx c = w.ctx c ∧ v.wantOf c = w.wantOf c) ∧
      ((w.ctx c).reserved = true →
        v.ctx c = { (w.ctx c).noted r with reserved := false, resleepLeft := (w.ctx c).cfg.resleepHold } ∧
          v.holdsEntry c = false ∧ v.wantOf c = none) ∧
      (e.phase ≠ .returning → (w.ctx c).reserved = false →
        { e with phase := .returning, reason := r } ∈ v.stack k ∧ v.ctx c = (w.ctx c).noted r ∧
        ((w.ctx c).state = .light → v.wants c .raise = true) ∧
        ((w.ctx c).state = .dark → v.wants c .warm = true) ∧
        ((w.ctx c).state = .draining → w.wants c .shed = true ∨ w.wants c .lower = true → v.wants c .reopen = true)) := by
  refine ⟨woken.unreserved h inside, fun k e he own => ?_, fun k e he own => ?_⟩
  · obtain ⟨f, hf, -, rfl⟩ := woken.mem_iff.mp he
    rw [Entry.carrier_woken] at own
    by_cases returning : f.phase = .returning
    · rw [Entry.woken_of_rests (.inr returning)]
      exact returning
    · rw [Entry.woken_of_turns (own ▸ inside) returning]
  · subst own
    refine ⟨fun returning => ?_, fun reserved => ?_, fun active unreserved => ?_⟩
    · obtain ⟨ctx, want⟩ := woken.rests k e he (.inr returning)
      have there := woken.mem he fun _ => h.reserved_of_returning he returning
      rw [Entry.woken_of_rests (.inr returning)] at there
      exact ⟨there, ctx, want⟩
    · obtain ⟨ctx, want⟩ := woken.cancels k e he inside reserved
      exact ⟨ctx, woken.holdsEntry_of_cancelled inside reserved, want⟩
    · obtain ⟨ctx, wanted, -⟩ := woken.turns k e he inside active unreserved
      have there := woken.mem he fun _ => unreserved
      rw [Entry.woken_of_turns inside active] at there
      exact ⟨there, ctx, fun light => wanted _ (Cluster.wakeCommand_of_light light),
        fun dark => wanted _ (Cluster.wakeCommand_of_dark dark),
        fun draining drains => wanted _ (Cluster.wakeCommand_of_draining draining drains)⟩

/-- A carrier to which no wake request has been made keeps its entry, and its context and want where it owns no stack. -/
theorem Cluster.Woken.kept (woken : w.Woken v S r) {c : Carrier} (out : S c = false) :
    (∀ (k : Carrier) (e : Entry), e.carrier = c → (e ∈ v.stack k ↔ e ∈ w.stack k)) ∧
      (w.stack c = [] → v.ctx c = w.ctx c ∧ v.wantOf c = w.wantOf c) := by
  refine ⟨fun k e own => ?_, fun bare => ?_⟩
  · subst own
    rw [woken.mem_iff]
    constructor
    · rintro ⟨f, hf, -, is⟩
      have own : f.carrier = e.carrier := by rw [← is, Entry.carrier_woken]
      rw [Entry.woken_of_rests (.inl (by rw [own]; exact out))] at is
      exact is ▸ hf
    · exact fun he => ⟨e, he, fun q => absurd (out.symm.trans q) (by decide), Entry.woken_of_rests (.inl out)⟩
  · cases entry : w.holdsEntry c with
    | true =>
      obtain ⟨k, e, he, rfl⟩ := Cluster.exists_of_holdsEntry entry
      exact woken.rests k e he (.inl out)
    | false =>
      have kept : w.loses S c = false := by rw [Cluster.loses, bare]; rfl
      obtain ⟨ctx, -, want⟩ := woken.owners c entry
      rw [kept] at ctx want
      exact ⟨ctx, want fun q => absurd q.1 (by decide)⟩

end

/-! ## The windows of LOAD_POLICY -/

/-- A window that was OPEN or SHALLOW is disabled by its new entry. -/
def Window.shuts (old : Window) (e : WindowEntry) : Bool := old.entry.enabled && old.phase != .closed && !e.enabled

theorem Window.shuts_iff {old : Window} {e : WindowEntry} :
    old.shuts e = true ↔ old.entry.enabled = true ∧ old.phase ≠ .closed ∧ e.enabled = false := by
  simp [Window.shuts, and_assoc]

theorem Context.boundTo_iff {x : Context} {n : WindowNo} :
    x.boundTo n = true ↔ x.cfg.present = true ∧ x.cfg.window = some n := by
  simp [Context.boundTo]

section
variable {s : State} (new : Vector WindowEntry 8)

theorem State.cluster_settleWindow (s : State) (n : WindowNo) :
    (s.settleWindow new n).cluster = if (s.window n).shuts new[n] = true then s.cluster.closeEffects n else s.cluster := by
  unfold State.settleWindow Window.shuts
  dsimp only
  cases was : (s.window n).entry.enabled with
  | false => simp
  | true =>
    cases stays : new[n].enabled with
    | true => simp
    | false =>
      by_cases closed : (s.window n).phase = .closed
      · simp [closed]
      · simp [closed]

/-- The carrier is bound to a window of the list that LOAD_POLICY disables while it is OPEN or SHALLOW. -/
def State.shutsFor (s : State) (ns : List WindowNo) (c : Carrier) : Bool :=
  ns.any fun n => (s.ctx c).boundTo n && (s.window n).shuts new[n]

theorem State.woken_settleWindows (ns : List WindowNo) (nodup : ns.Nodup) (h : s.cluster.CoherentBut fun _ => False) :
    s.cluster.Woken (ns.foldl (fun v n => v.settleWindow new n) s).cluster (s.shutsFor new ns) .windowClose := by
  induction ns generalizing s with
  | nil => exact .idle h _ fun _ _ _ q => absurd q (by simp [State.shutsFor])
  | cons n ns ih =>
    obtain ⟨away, nodup⟩ := List.nodup_cons.mp nodup
    have cluster := s.cluster_settleWindow new n
    have first : s.cluster.Woken (s.settleWindow new n).cluster (fun c => (s.ctx c).boundTo n && (s.window n).shuts new[n])
        .windowClose := by
      rw [cluster]
      split
      · next shuts =>
        simp only [shuts, Bool.and_true]
        exact Cluster.woken_closeEffects h n
      · next stays =>
        simp only [Bool.eq_false_iff.mpr stays, Bool.and_false]
        exact .idle h _ fun _ _ _ q => absurd q (by decide)
    have cfg (c : Carrier) : ((s.settleWindow new n).ctx c).cfg = (s.ctx c).cfg := by
      rw [State.ctx, cluster]
      split
      · exact (s.cluster.roused_wakeAll _ .windowClose c).cfg
      · rfl
    have coherent : (s.settleWindow new n).cluster.CoherentBut fun _ => False := by
      rw [cluster]
      split
      · exact h.closeEffects n
      · exact h
    have both := first.trans (ih nodup coherent) h
    have same : (fun c => ((s.ctx c).boundTo n && (s.window n).shuts new[n]) || (s.settleWindow new n).shutsFor new ns c) =
        s.shutsFor new (n :: ns) := by
      funext c
      rw [State.shutsFor, State.shutsFor, List.any_cons]
      refine congrArg _ ?_
      rw [Bool.eq_iff_iff, List.any_eq_true, List.any_eq_true]
      refine exists_congr fun m => and_congr_right fun hm => ?_
      rw [State.window_settleWindow, if_neg (ne_of_mem_of_not_mem hm away).symm, Context.boundTo, Context.boundTo, cfg]
    exact same ▸ both

/-- The carrier is bound to a window that LOAD_POLICY disables while it is OPEN or SHALLOW. -/
abbrev State.Shuts (s : State) (ws : Vector WindowEntry 8) (c : Carrier) : Prop :=
  (s.ctx c).cfg.present = true ∧ ∃ n : WindowNo, (s.ctx c).cfg.window = some n ∧
    (s.window n).entry.enabled = true ∧ (s.window n).phase ≠ .closed ∧ ws[n].enabled = false

theorem State.shutsFor_iff (s : State) (order : List WindowNo) (c : Carrier) :
    s.shutsFor new (completeWindows order) c = true ↔ s.Shuts new c := by
  rw [State.shutsFor, List.any_eq_true]
  constructor
  · rintro ⟨n, -, shuts⟩
    obtain ⟨bound, shuts⟩ := (Bool.and_eq_true _ _).mp shuts
    obtain ⟨present, window⟩ := Context.boundTo_iff.mp bound
    exact ⟨present, n, window, Window.shuts_iff.mp shuts⟩
  · rintro ⟨present, n, window, shuts⟩
    exact ⟨n, mem_completeWindows order n,
      (Bool.and_eq_true _ _).mpr ⟨Context.boundTo_iff.mpr ⟨present, window⟩, Window.shuts_iff.mpr shuts⟩⟩

/-- With no carrier bound to a window that shuts, LOAD_POLICY leaves the cluster. -/
theorem State.cluster_applyWindows_of_none {s : State} {order : List WindowNo} (none : ∀ c, ¬s.Shuts new c) :
    (s.applyWindows new order).cluster = s.cluster := by
  have settles (ns : List WindowNo) (nodup : ns.Nodup) (u : State) (here : u.cluster = s.cluster)
      (windows : ∀ n ∈ ns, u.window n = s.window n) : (ns.foldl (fun v n => v.settleWindow new n) u).cluster = s.cluster := by
    induction ns generalizing u with
    | nil => exact here
    | cons n ns ih =>
      obtain ⟨away, nodup⟩ := List.nodup_cons.mp nodup
      refine ih nodup _ ?_ fun m hm => ?_
      · rw [State.cluster_settleWindow, windows n List.mem_cons_self, here]
        split
        · next shuts =>
          have unbound : s.cluster.bound n = [] := List.filter_eq_nil_iff.mpr fun c _ bound => none c ?_
          · rw [Cluster.closeEffects, unbound]
            rfl
          · obtain ⟨present, window⟩ := Context.boundTo_iff.mp bound
            obtain ⟨enabled, acting, disabled⟩ := Window.shuts_iff.mp shuts
            exact ⟨present, n, window, enabled, acting, disabled⟩
        · rfl
      · rw [State.window_settleWindow, if_neg (ne_of_mem_of_not_mem hm away).symm]
        exact windows m (List.mem_cons_of_mem n hm)
  exact settles _ (completeWindows_nodup order) s rfl fun _ _ => rfl

theorem State.onlyCarriers_applyWindows (s : State) (order : List WindowNo) :
    s.cluster.OnlyCarriers (s.applyWindows new order).cluster ∧
      s.applyWindows new order = { s with
        windows := (s.applyWindows new order).windows, cluster := (s.applyWindows new order).cluster } := by
  have settles (n : WindowNo) (u : State) : u.cluster.OnlyCarriers (u.settleWindow new n).cluster ∧
      u.settleWindow new n = { u with windows := (u.settleWindow new n).windows, cluster := (u.settleWindow new n).cluster } := by
    constructor
    · rw [State.cluster_settleWindow]
      split
      · exact Cluster.onlyCarriers_wakeAll ..
      · exact .refl _
    · unfold State.settleWindow
      dsimp only
      split
      · rfl
      · split <;> rfl
  unfold State.applyWindows
  refine List.foldlRecOn (motive := fun v : State => s.cluster.OnlyCarriers v.cluster ∧
    v = { s with windows := v.windows, cluster := v.cluster }) _ _ ⟨.refl _, rfl⟩ fun v ⟨only, same⟩ n _ => ?_
  obtain ⟨only', same'⟩ := settles n v
  refine ⟨only'.after only, same'.trans ?_⟩
  obtain ⟨a, b, rfl⟩ : ∃ a b, v = { s with windows := a, cluster := b } := ⟨_, _, same⟩
  rfl

end

/-! ## The directives -/

theorem Context.edit_tally (x : Context) : (x.edit fun y => { y with lightMinutes := 0, darkMinutes := 0 }) =
    { x with
      lightMinutes := 0
      darkMinutes := 0
      dirty := x.dirty || decide (x.lightMinutes ≠ 0 ∨ x.darkMinutes ≠ 0) } := by
  simp [Context.edit, Context.view, eq_comm, Decidable.imp_iff_not_or]

section
variable {s : State} {p : Pass} {d : DirectiveRun}

/-- A directive whose walk has counted no carrier ends with its outcome. -/
theorem State.concluded_zero (s : State) (p : Pass) {d : DirectiveRun} (affected : d.affected = 0) (skipped : d.skipped = 0)
    (code : OutcomeCode) : s.Concluded (s.concludeDirective p d code) p d 0 0 code := by
  have done := s.concludeDirective_concluded p d code
  rwa [affected, skipped] at done

theorem DirectiveRun.clockInRange_iff (d : DirectiveRun) : d.clockInRange = true ↔
    byteAt d.params 0 ≤ 59 ∧ byteAt d.params 1 ≤ 59 ∧ byteAt d.params 2 ≤ 23 ∧ byteAt d.params 3 ≤ 6 := decide_eq_true_iff

/-- The state that LOAD_POLICY leaves before its outcome. -/
def State.policied (s : State) (q : Policy) (ws : Vector WindowEntry 8) (order : List WindowNo) : State :=
  (({ s with policy := q, timer := s.timer.reloaded q.reload } : State).applyWindows ws order).testReleasingEnd

end

/-- Settles O57: each of these directives ends with its outcome, and LOAD_POLICY closes the windows that it disables. -/
theorem directivesWithoutSelector : Obligations.DirectivesWithoutSelector := by
  intro s p d affected skipped
  refine ⟨fun executing => ⟨fun inRange => ?_, fun outOfRange => ?_⟩, fun executing => ?_, fun executing => ?_,
    fun executing fresh stopped n => ?_, fun q ws executing tables order => ?_⟩
  · refine ⟨_, ?_, State.concluded_zero _ p affected skipped .ok⟩
    simp only [exec, execSetClock, State.directiveOf_executing executing, d.clockInRange_iff.mpr inRange, if_true]
    rfl
  · refine ⟨_, ?_, State.concluded_zero _ p affected skipped .rejParam⟩
    have out : d.clockInRange = false := Bool.eq_false_iff.mpr fun h => outOfRange (d.clockInRange_iff.mp h)
    simp only [exec, execSetClock, State.directiveOf_executing executing, out]
    rfl
  · refine ⟨({ s with fleetTally := 0 } : State).on fun w => w.editAll fun x => { x with lightMinutes := 0, darkMinutes := 0 },
      fun c => (s.cluster.ctx_editAll _ c).trans (Context.edit_tally (s.ctx c)), rfl, _, ?_,
      State.concluded_zero _ p affected skipped .ok⟩
    simp only [exec, execClearTally, State.directiveOf_executing executing]
  · refine ⟨_, ?_, State.concluded_zero _ p affected skipped .rejKind⟩
    simp only [exec, execDirectiveUnknownKind, State.directiveOf_executing executing]
  · refine ⟨_, ?_, State.concluded_zero _ p affected skipped .rejRun⟩
    have judged : d.begun = false ∧ s.runState ≠ .running := ⟨fresh, stopped⟩
    simp only [exec, execSleepNow, State.directiveOf_executing executing]
    rw [if_pos judged]
  · have done : exec (.loadPolicy order) s = .next ((s.policied q ws order).concludeDirective p d .ok) := by
      simp only [exec, execLoadPolicy, State.directiveOf_executing executing, tables]
      rfl
    have window (n : WindowNo) := State.window_applyWindows
      ({ s with policy := q, timer := s.timer.reloaded q.reload } : State) ws order n
    obtain ⟨only, same⟩ := ({ s with policy := q, timer := s.timer.reloaded q.reload } : State).onlyCarriers_applyWindows ws order
    have still := State.cluster_applyWindows_of_none ws (s := { s with policy := q, timer := s.timer.reloaded q.reload })
      (order := order)
    have woken (h : s.cluster.Coherent) := State.woken_settleWindows (s := { s with policy := q, timer := s.timer.reloaded q.reload })
      ws (completeWindows order) (completeWindows_nodup order) (s.cluster.coherent_iff.mp h)
    rw [← State.applyWindows] at woken
    have policied : s.policied q ws order = (({ s with policy := q, timer := s.timer.reloaded q.reload } : State).applyWindows ws
      order).testReleasingEnd := rfl
    generalize ({ s with policy := q, timer := s.timer.reloaded q.reload } : State).applyWindows ws order = v at *
    rw [policied, State.testReleasingEnd_eq] at done
    refine ⟨_, ⟨_, done, State.concluded_zero _ p affected skipped .ok⟩, fun n => window n, ?_, fun none => still none,
      fun coherent c => ⟨fun closing => ?_, fun staying => ?_⟩⟩
    · obtain ⟨a, b, c, cluster⟩ : ∃ a b c, v.cluster = { s.cluster with contexts := a, coverStacks := b, lanes := c } :=
        ⟨_, _, _, only⟩
      obtain ⟨windows, rfl⟩ : ∃ windows, v = { s with
          policy := q
          timer := s.timer.reloaded q.reload
          windows := windows
          cluster := { s.cluster with contexts := a, coverStacks := b, lanes := c } } :=
        ⟨_, same.trans (congrArg (fun w => ({ s with
          policy := q, timer := s.timer.reloaded q.reload, windows := v.windows, cluster := w } : State)) cluster)⟩
      rfl
    · exact (woken coherent.1).turnedBack (s.cluster.coherent_iff.mp coherent.1) ((State.shutsFor_iff ws _ order c).mpr closing)
    · exact (woken coherent.1).kept (Bool.eq_false_iff.mpr fun h => staying ((State.shutsFor_iff ws _ order c).mp h))

end Sys2Proof.Machine
end

section
/-! A link DOWN: the managed carriers of the site enter FAULTED one after the other (sections 5.8 and 8.5). -/

namespace Sys2Proof.Machine

/-! ## One carrier enters FAULTED -/

/-- The carrier c, with no command outstanding and no link to come back by, has entered FAULTED. -/
structure Cluster.FaultStep (w v : Cluster) (c : Carrier) (cause : FaultCause) : Prop where
  state : (v.ctx c).state = .faulted ∧ (v.ctx c).cause = some cause
  unwanted : v.wantOf c = none
  noted : Notice.fault.isIn v.note = true
  channel : ∀ i, v.channel i = w.channel i
  outstanding : ∀ i, (v.lane i).outstanding = (w.lane i).outstanding
  own : v.stack c = ((w.stack c).filter fun e => !(w.ctx e.carrier).reserved).map (Entry.woken (fun _ => true) .coverLost)
  others : ∀ k, k ≠ c → v.stack k = (w.stack k).filter fun e => e.carrier != c
  rests : ∀ e ∈ w.stack c, e.phase = .returning →
    v.ctx e.carrier = w.ctx e.carrier ∧ v.wantOf e.carrier = w.wantOf e.carrier
  cancels : ∀ e ∈ w.stack c, (w.ctx e.carrier).reserved = true →
    v.ctx e.carrier =
      { (w.ctx e.carrier).noted .coverLost with reserved := false, resleepLeft := (w.ctx e.carrier).cfg.resleepHold } ∧
    v.wantOf e.carrier = none
  turns : ∀ e ∈ w.stack c, e.phase ≠ .returning → (w.ctx e.carrier).reserved = false →
    v.ctx e.carrier = (w.ctx e.carrier).noted .coverLost ∧
    (∀ command, w.wakeCommand e.carrier = some command → v.wants e.carrier command = true)
  sleepers : ∀ k, k ≠ c → ∀ e ∈ w.stack k, e.carrier ≠ c →
    v.ctx e.carrier = w.ctx e.carrier ∧ v.wantOf e.carrier = w.wantOf e.carrier
  bare : ∀ d, d ≠ c → w.holdsEntry d = false → w.stack d = [] → v.ctx d = w.ctx d ∧ v.wantOf d = w.wantOf d
  owners : ∀ d, d ≠ c → w.holdsEntry d = false →
    ((v.ctx d).state = .faulted → (w.ctx d).state = .faulted) ∧
    (¬w.Relinkable d →
      (v.ctx d).state = (w.ctx d).state ∧ (v.ctx d).cause = (w.ctx d).cause ∧ v.wantOf d = w.wantOf d)
  probes : v.probes = (w.endQuery c false).probes

section
variable {w : Cluster} {c : Carrier}

/-- The carrier as it stands before its own stack is unwound: its query ended, its want and its entry gone. -/
def Cluster.withdrawn (w : Cluster) (c : Carrier) : Cluster :=
  ((((w.endQuery c false).abandon c).dropWant c).removeEntry c).editCtx c fun x => { x with reserved := false }

theorem Cluster.enterFaulted_eq (w : Cluster) (c : Carrier) (cause : FaultCause) :
    w.enterFaulted c cause = ((((w.withdrawn c).unwind c .coverLost).editCtx c fun x =>
      { x.enter .faulted with lightRun := 0, cause := some cause }).notify .fault).markDirty c := rfl

theorem Cluster.abandon_of_idle (idle : w.isOutstanding c = false) : w.abandon c = w := if_neg (by rw [idle]; decide)

/-- The cluster in which the withdrawal removes the entry. -/
structure Cluster.Withdrawal (w u : Cluster) (c : Carrier) : Prop where
  ctx : ∀ d, u.ctx d = w.ctx d
  stack : ∀ k, u.stack k = w.stack k
  unwanted : u.wantOf c = none
  want : ∀ d, d ≠ c → u.wantOf d = w.wantOf d
  outstanding : ∀ i, (u.lane i).outstanding = (w.lane i).outstanding
  channel : ∀ i, u.channel i = w.channel i
  probes : u.probes = (w.endQuery c false).probes

theorem Cluster.withdrawal (idle : w.isOutstanding c = false) :
    w.Withdrawal (((w.endQuery c false).abandon c).dropWant c) c := by
  have same := (w.endQuery_spec c false).1
  have idle' : (w.endQuery c false).isOutstanding c = false := by
    rw [same]
    exact idle
  rw [Cluster.abandon_of_idle idle']
  refine ⟨fun d => ?_, fun k => ?_, Cluster.wantOf_dropWant_self .., fun d other => ?_, fun i => ?_, fun i => ?_, rfl⟩
  · exact (Cluster.ctx_dropWant ..).trans (Cluster.ctx_endQuery ..)
  · exact (Cluster.stack_dropWant ..).trans (Cluster.stack_endQuery ..)
  · rw [Cluster.wantOf_dropWant_ne _ (Ne.symm other), same]
    rfl
  · rw [Cluster.outstanding_dropWant, same]
    rfl
  · exact Cluster.channel_endQuery ..

theorem Cluster.Withdrawal.hostOf {u : Cluster} (left : w.Withdrawal u c) : u.hostOf c = w.hostOf c := by
  unfold Cluster.hostOf
  simp only [left.stack]

theorem Cluster.CoherentBut.withdrawn (h : w.CoherentBut fun _ => False) (c : Carrier) :
    (w.withdrawn c).CoherentBut fun d => d = c ∨ False :=
  (((((Cluster.alike_endQuery w c false).coherentBut h).abandon c).dropWant c).removeEntry c).setCtx_left (.inl rfl) _

section
variable (h : w.CoherentBut fun _ => False) (idle : w.isOutstanding c = false)
include h idle

theorem Cluster.stack_withdrawn (k : Carrier) : (w.withdrawn c).stack k = (w.stack k).filter fun e => e.carrier != c := by
  have left := Cluster.withdrawal idle
  have host := left.hostOf
  rw [Cluster.withdrawn, Cluster.stack_editCtx, Cluster.stack_removeEntry, host, left.stack]
  split
  · exact eraseP_carrier_eq_filter (h.nodup k) c
  · next away =>
    refine (List.filter_eq_self.mpr fun e he => bne_iff_ne.mpr ?_).symm
    rintro rfl
    exact away (h.hostOf_eq he)

theorem Cluster.stack_withdrawn_self : (w.withdrawn c).stack c = w.stack c := by
  rw [Cluster.stack_withdrawn h idle]
  refine List.filter_eq_self.mpr fun e he => bne_iff_ne.mpr ?_
  rintro rfl
  rw [h.bare_of_mem he] at he
  cases he

/-- The removal reaches the context of the carrier and that of its host alone. -/
theorem Cluster.ctx_withdrawn {d : Carrier} (other : d ≠ c) (away : w.hostOf c ≠ some d) :
    (w.withdrawn c).ctx d = w.ctx d ∧ (w.withdrawn c).wantOf d = w.wantOf d := by
  have left := Cluster.withdrawal idle
  have host := left.hostOf
  refine ⟨?_, (Cluster.wantOf_removeEntry d fun q => absurd (host.symm.trans q) away).trans (left.want d other)⟩
  rw [Cluster.withdrawn, Cluster.ctx_editCtx_ne _ (Ne.symm other)]
  cases g : w.hostOf c with
  | none => rw [Cluster.removeEntry_of_none (host.trans g), left.ctx]
  | some k =>
    have apart : k ≠ c := by
      rintro rfl
      obtain ⟨e, he, rfl⟩ := Cluster.standsOn_iff.mp (Cluster.hostOf_some w g)
      rw [h.bare_of_mem he] at he
      cases he
    rw [Cluster.ctx_removeEntry (host.trans g) apart, if_neg other, if_neg fun q => away (g.trans (congrArg some q.symm)), left.ctx]

theorem Cluster.host_withdrawn {d : Carrier} (other : d ≠ c) :
    (((w.withdrawn c).ctx d).state = .faulted → (w.ctx d).state = .faulted) ∧
    (¬w.Relinkable d → ((w.withdrawn c).ctx d).state = (w.ctx d).state ∧ ((w.withdrawn c).ctx d).cause = (w.ctx d).cause ∧
      (w.withdrawn c).wantOf d = w.wantOf d) := by
  have left := Cluster.withdrawal idle
  have ctx : (w.withdrawn c).ctx d = ((((w.endQuery c false).abandon c).dropWant c).removeEntry c).ctx d :=
    Cluster.ctx_editCtx_ne _ (Ne.symm other) _
  have host := left.hostOf
  have relinkable : (((w.endQuery c false).abandon c).dropWant c).Relinkable d ↔ w.Relinkable d := by
    rw [Cluster.Relinkable, Cluster.Relinkable, left.ctx, left.channel]
  have roused := Cluster.roused_removeEntry (((w.endQuery c false).abandon c).dropWant c) c d
  rw [left.ctx] at roused
  rw [ctx]
  refine ⟨fun faulted => ?_, fun unlinked => ⟨?_, roused.cause,
    (Cluster.wantOf_removeEntry d fun _ => mt relinkable.mp unlinked).trans (left.want d other)⟩⟩
  · rcases roused.state with q | ⟨q, -⟩
    · exact q.symm.trans faulted
    · exact q
  · by_cases hosts : w.hostOf c = some d
    · have apart : d ≠ c := other
      rw [Cluster.ctx_removeEntry (host.trans hosts) apart, if_neg other, if_pos rfl, left.ctx, left.channel, Context.handedOn,
        if_neg fun q => unlinked q.2]
    · exact congrArg Context.state (ctx.symm.trans (Cluster.ctx_withdrawn h idle other hosts).1)

end

theorem Cluster.ctx_withdrawn_self (h : w.CoherentBut fun _ => False) (idle : w.isOutstanding c = false) :
    ((w.withdrawn c).ctx c).state = (w.ctx c).state ∧ ((w.withdrawn c).ctx c).cause = (w.ctx c).cause := by
  have left := Cluster.withdrawal idle
  have host := left.hostOf
  have same : ((((w.endQuery c false).abandon c).dropWant c).removeEntry c).ctx c =
      { w.ctx c with dirty := (((((w.endQuery c false).abandon c).dropWant c).removeEntry c).ctx c).dirty } := by
    cases g : w.hostOf c with
    | none => rw [Cluster.removeEntry_of_none (host.trans g), left.ctx]
    | some k =>
      have apart : k ≠ c := by
        rintro rfl
        obtain ⟨e, he, rfl⟩ := Cluster.standsOn_iff.mp (Cluster.hostOf_some w g)
        rw [h.bare_of_mem he] at he
        cases he
      rw [Cluster.ctx_removeEntry (host.trans g) apart, if_pos rfl, left.ctx]
  rw [Cluster.withdrawn, Cluster.ctx_editCtx_self, same]
  exact ⟨rfl, rfl⟩

theorem Cluster.faultStep (h : w.CoherentBut fun _ => False) (idle : w.isOutstanding c = false) (unlinked : ¬w.Relinkable c)
    (cause : FaultCause) : w.FaultStep (w.enterFaulted c cause) c cause := by
  have left := Cluster.withdrawal idle
  have coherent := h.withdrawn c
  have stack := Cluster.stack_withdrawn h idle
  have own := Cluster.stack_withdrawn_self h idle
  have channel (i : Site) : (w.withdrawn c).channel i = w.channel i :=
    ((Cluster.onlyCarriers_removeEntry (((w.endQuery c false).abandon c).dropWant c) c).channel i).trans (left.channel i)
  have rest (k : Carrier) (out : k = c ∨ False) : ¬(w.withdrawn c).Relinkable k := by
    obtain rfl : k = c := out.resolve_right id
    obtain ⟨state, fault⟩ := Cluster.ctx_withdrawn_self h idle
    rw [Cluster.Relinkable, state, fault, channel]
    exact unlinked
  have woken := Cluster.woken_wakeAll (((w.withdrawn c).stack c).reverse.map Entry.carrier) coherent rest (fun d hd => by
    obtain ⟨e, he, rfl⟩ := List.mem_map.mp hd
    exact (coherent.of_mem (List.mem_reverse.mp he)).1) .coverLost
  have self := w.ctx_enterFaulted_self c cause
  have noted := w.note_enterFaulted c cause
  have member (d : Carrier) : (((w.withdrawn c).stack c).reverse.map Entry.carrier).contains d = w.standsOn d c := by
    rw [Bool.eq_iff_iff, Cluster.standsOn_iff, List.contains_iff_mem, own]
    simp
  have ends := w.enterFaulted_eq c cause
  rw [Cluster.unwind] at ends
  generalize w.enterFaulted c cause = u at *
  generalize ((w.withdrawn c).stack c).reverse.map Entry.carrier = cs at *
  generalize (w.withdrawn c).wakeAll cs .coverLost = v at *
  -- The last edits reach the context of c and the notices alone.
  have ctx (d : Carrier) (other : d ≠ c) : u.ctx d = v.ctx d := by
    rw [ends, Cluster.ctx_markDirty, if_neg (Ne.symm other)]
    exact Cluster.ctx_editCtx_ne _ (Ne.symm other) _
  have atop (k : Carrier) : u.stack k = v.stack k := by rw [ends]; rfl
  have wants (d : Carrier) : u.wantOf d = v.wantOf d := by rw [ends]; rfl
  have inside {e : Entry} (he : e ∈ w.stack c) : cs.contains e.carrier = true :=
    (member _).trans (Cluster.standsOn_of_mem he)
  have outside {k : Carrier} (away : k ≠ c) {e : Entry} (he : e ∈ w.stack k) : cs.contains e.carrier = false := by
    rw [member, ← Bool.not_eq_true, Cluster.standsOn_iff]
    rintro ⟨f, hf, same⟩
    exact away (h.entry_unique he hf same.symm).1
  have apart {e : Entry} (he : e ∈ w.stack c) : e.carrier ≠ c := by
    rintro rfl
    rw [h.bare_of_mem he] at he
    cases he
  have hostless {d : Carrier} (bare : w.stack d = []) : w.hostOf c ≠ some d := fun host => by
    obtain ⟨e, he, -⟩ := Cluster.standsOn_iff.mp (Cluster.hostOf_some w host)
    rw [bare] at he
    cases he
  have sleeper {k : Carrier} {e : Entry} (he : e ∈ w.stack k) (other : e.carrier ≠ c) :=
    Cluster.ctx_withdrawn h idle other (hostless (h.bare_of_mem he))
  have there {k : Carrier} {e : Entry} (he : e ∈ w.stack k) (other : e.carrier ≠ c) : e ∈ (w.withdrawn c).stack k := by
    rw [stack]
    exact List.mem_filter.mpr ⟨he, bne_iff_ne.mpr other⟩
  have none {d : Carrier} (none : w.holdsEntry d = false) : (w.withdrawn c).holdsEntry d = false := by
    rw [Cluster.holdsEntry_eq_false_iff] at *
    intro k
    rw [← Bool.not_eq_true, Cluster.standsOn_iff]
    rintro ⟨e, he, rfl⟩
    rw [stack] at he
    exact absurd ((none k).symm.trans (Cluster.standsOn_of_mem (List.mem_filter.mp he).1)) (by decide)
  have kept {d : Carrier} (other : d ≠ c) : (w.withdrawn c).loses cs.contains d = false := by
    refine List.any_eq_false.mpr fun e he => ?_
    rw [stack] at he
    rw [outside other (List.mem_filter.mp he).1]
    exact Bool.false_ne_true
  refine
    { state := ⟨self.1, self.2.1⟩
      unwanted := (wants c).trans ?_
      noted := noted
      channel := fun i => ?_
      outstanding := fun i => ?_
      own := ?_
      others := fun k other => ?_
      rests := fun e he returning => ?_
      cancels := fun e he reserved => ?_
      turns := fun e he active unreserved => ?_
      sleepers := fun k away e he other => ?_
      bare := fun d other unheld bare => ?_
      owners := fun d other unheld => ?_
      probes := ?_ }
  · have unheld : (w.withdrawn c).holdsEntry c = false := Cluster.holdsEntry_eq_false_iff.mpr fun k => by
      rw [← Bool.not_eq_true, Cluster.standsOn_iff]
      rintro ⟨e, he, same⟩
      rw [stack] at he
      exact bne_iff_ne.mp (List.mem_filter.mp he).2 same
    have alone : (((w.endQuery c false).abandon c).dropWant c).hostOf c ≠ some c := fun host => by
      obtain ⟨e, he, same⟩ := Cluster.standsOn_iff.mp (Cluster.hostOf_some _ host)
      rw [left.stack] at he
      exact apart he same
    have removed := Cluster.wantOf_removeEntry c fun host => absurd host alone
    exact ((woken.owners c unheld).2.2 fun q => rest c (.inl rfl) q.2.2).trans (removed.trans left.unwanted)
  · rw [ends]
    exact (woken.only.channel i).trans (channel i)
  · rw [ends]
    exact (woken.outstanding i).trans ((Cluster.outstanding_removeEntry ..).trans (left.outstanding i))
  · have same : ((w.stack c).filter fun e => !(cs.contains e.carrier && ((w.withdrawn c).ctx e.carrier).reserved)) =
        (w.stack c).filter fun e => !(w.ctx e.carrier).reserved :=
      List.filter_congr fun e he => by rw [inside he, Bool.true_and, (sleeper he (apart he)).1]
    rw [atop, woken.stack, own, same]
    refine List.map_congr_left fun e he => ?_
    rw [Entry.woken, Entry.woken, inside (List.mem_filter.mp he).1]
  · have all : (((w.stack k).filter fun e => e.carrier != c).filter fun e =>
        !(cs.contains e.carrier && ((w.withdrawn c).ctx e.carrier).reserved)) = (w.stack k).filter fun e => e.carrier != c :=
      List.filter_eq_self.mpr fun e he => by
        rw [outside other (List.mem_filter.mp he).1, Bool.false_and, Bool.not_false]
    rw [atop, woken.stack, stack, all]
    refine (List.map_congr_left fun e he => ?_).trans (List.map_id _)
    exact Entry.woken_of_rests (.inl (outside other (List.mem_filter.mp he).1))
  · obtain ⟨same, want⟩ := sleeper he (apart he)
    obtain ⟨ctx', want'⟩ := woken.rests c e (there he (apart he)) (.inr returning)
    exact ⟨(ctx _ (apart he)).trans (ctx'.trans same), (wants _).trans (want'.trans want)⟩
  · obtain ⟨same, want⟩ := sleeper he (apart he)
    rw [← same] at reserved
    obtain ⟨ctx', want'⟩ := woken.cancels c e (there he (apart he)) (inside he) reserved
    rw [same] at ctx'
    exact ⟨(ctx _ (apart he)).trans ctx', (wants _).trans want'⟩
  · obtain ⟨same, want⟩ := sleeper he (apart he)
    rw [← same] at unreserved
    obtain ⟨ctx', wanted, -⟩ := woken.turns c e (there he (apart he)) (inside he) active unreserved
    rw [same] at ctx'
    exact ⟨(ctx _ (apart he)).trans ctx', fun command wakes => (Cluster.wants_congr (wants _) command).trans
      (wanted command ((Cluster.wakeCommand_congr same want).trans wakes))⟩
  · obtain ⟨same, want⟩ := sleeper he other
    obtain ⟨ctx', want'⟩ := woken.rests k e (there he other) (.inl (outside away he))
    exact ⟨(ctx _ other).trans (ctx'.trans same), (wants _).trans (want'.trans want)⟩
  · obtain ⟨same, want⟩ := Cluster.ctx_withdrawn h idle other (hostless bare)
    obtain ⟨ctx', -, want'⟩ := woken.owners d (none unheld)
    rw [kept other] at ctx' want'
    exact ⟨(ctx d other).trans (ctx'.trans same), (wants d).trans ((want' fun q => absurd q.1 (by decide)).trans want)⟩
  · obtain ⟨ctx', -, want'⟩ := woken.owners d (none unheld)
    rw [kept other] at ctx' want'
    have ctx' : u.ctx d = (w.withdrawn c).ctx d := (ctx d other).trans ctx'
    have want' : u.wantOf d = (w.withdrawn c).wantOf d := (wants d).trans (want' fun q => absurd q.1 (by decide))
    rw [ctx', want']
    exact Cluster.host_withdrawn h idle other
  · rw [ends]
    have removed : (w.withdrawn c).probes = (((w.endQuery c false).abandon c).dropWant c).probes :=
      (Cluster.onlyCarriers_removeEntry (((w.endQuery c false).abandon c).dropWant c) c).probes
    have awake : v.probes = (w.withdrawn c).probes := woken.only.probes
    exact awake.trans (removed.trans left.probes)

end

end Sys2Proof.Machine
end

section
/-! The carriers of a site enter FAULTED one after the other (section 8.5): what has come about after some of them. -/

namespace Sys2Proof.Machine

/-- What the loss of its cover leaves of the carrier of the entry e. -/
structure Cluster.CoverLost (w v : Cluster) (e : Entry) : Prop where
  rests : e.phase = .returning → v.ctx e.carrier = w.ctx e.carrier ∧ v.wantOf e.carrier = w.wantOf e.carrier
  cancels : (w.ctx e.carrier).reserved = true →
    v.ctx e.carrier =
      { (w.ctx e.carrier).noted .coverLost with reserved := false, resleepLeft := (w.ctx e.carrier).cfg.resleepHold } ∧
    v.wantOf e.carrier = none
  turns : e.phase ≠ .returning → (w.ctx e.carrier).reserved = false →
    v.ctx e.carrier = (w.ctx e.carrier).noted .coverLost ∧
    ∀ command, w.wakeCommand e.carrier = some command → v.wants e.carrier command = true

/-- The carriers of P have been visited, and those among them that are managed have entered FAULTED with cause LINK. -/
structure Cluster.LinkFaulted (w v : Cluster) (P : Carrier → Bool) : Prop where
  channel : ∀ i, v.channel i = w.channel i
  outstanding : ∀ i, (v.lane i).outstanding = (w.lane i).outstanding
  stack : ∀ k, v.stack k =
    if P k = true then
      ((w.stack k).filter fun e => !P e.carrier && !(w.ctx e.carrier).reserved).map (Entry.woken (fun _ => true) .coverLost)
    else (w.stack k).filter fun e => !P e.carrier
  faulted : ∀ c, P c = true → (w.ctx c).state ≠ .unmanaged →
    (v.ctx c).state = .faulted ∧ (v.ctx c).cause = some .link ∧ v.wantOf c = none ∧ Notice.fault.isIn v.note = true
  unmanaged : ∀ c, P c = true → (w.ctx c).state = .unmanaged → v.ctx c = w.ctx c
  sleepers : ∀ k, P k = false → ∀ e ∈ w.stack k, P e.carrier = false →
    v.ctx e.carrier = w.ctx e.carrier ∧ v.wantOf e.carrier = w.wantOf e.carrier
  lost : ∀ k, P k = true → ∀ e ∈ w.stack k, P e.carrier = false → w.CoverLost v e
  bare : ∀ c, P c = false → w.holdsEntry c = false → w.stack c = [] → v.ctx c = w.ctx c ∧ v.wantOf c = w.wantOf c
  owners : ∀ c, P c = false → w.holdsEntry c = false →
    ((v.ctx c).state = .faulted → (w.ctx c).state = .faulted) ∧
    (¬w.Relinkable c → (v.ctx c).state = (w.ctx c).state ∧ (v.ctx c).cause = (w.ctx c).cause)
  unlisted : ∀ c, P c = true → (w.ctx c).state = .unknown → (w.ctx c).probeOrigin ≠ none → ∀ r ∈ v.probes, c ∉ r.members

section
variable {w v u : Cluster} {P : Carrier → Bool} {c : Carrier}

theorem Cluster.LinkFaulted.start (w : Cluster) : w.LinkFaulted w fun _ => false where
  channel _ := rfl
  outstanding _ := rfl
  stack _ := (List.filter_eq_self.mpr fun _ _ => rfl).symm
  faulted _ h := absurd h Bool.false_ne_true
  unmanaged _ h := absurd h Bool.false_ne_true
  sleepers _ _ _ _ _ := ⟨rfl, rfl⟩
  lost _ h := absurd h Bool.false_ne_true
  bare _ _ _ _ := ⟨rfl, rfl⟩
  owners _ _ _ := ⟨id, fun _ => ⟨rfl, rfl⟩⟩
  unlisted _ h := absurd h Bool.false_ne_true

theorem Cluster.mem_endQuery_probes {answered : Bool} {r : ProbeRecord} (h : r ∈ (w.endQuery c answered).probes) :
    (∃ p ∈ w.probes, r.members ⊆ p.members) ∧ ((w.ctx c).state = .unknown → (w.ctx c).probeOrigin ≠ none → c ∉ r.members) := by
  have counts (p : ProbeRecord) : (p.count c answered).members = p.members.filter fun m => m != c := by
    unfold ProbeRecord.count
    split
    · rfl
    · next out =>
      refine (List.filter_eq_self.mpr fun m hm => bne_iff_ne.mpr ?_).symm
      rintro rfl
      exact out (List.contains_iff_mem.mpr hm)
  unfold Cluster.endQuery at h
  split at h
  · obtain ⟨p, hp, rfl⟩ := List.mem_map.mp (List.mem_filter.mp h).1
    rw [counts]
    exact ⟨⟨p, hp, fun _ hm => (List.mem_filter.mp hm).1⟩, fun _ _ hc => bne_iff_ne.mp (List.mem_filter.mp hc).2 rfl⟩
  · next free => exact ⟨⟨r, h, fun _ => id⟩, fun unknown origin => absurd ⟨unknown, Option.isSome_iff_ne_none.mpr origin⟩ free⟩

section
variable (h : w.LinkFaulted v P)
include h

theorem Cluster.LinkFaulted.of_mem {k : Carrier} {f : Entry} (hf : f ∈ v.stack k) :
    ∃ e ∈ w.stack k, e.carrier = f.carrier ∧ P e.carrier = false ∧ (P k = true → (w.ctx e.carrier).reserved = false) := by
  rw [h.stack] at hf
  split at hf
  · obtain ⟨e, he, rfl⟩ := List.mem_map.mp hf
    obtain ⟨he, stays⟩ := List.mem_filter.mp he
    rw [Bool.and_eq_true, Bool.not_eq_true', Bool.not_eq_true'] at stays
    exact ⟨e, he, (Entry.carrier_woken ..).symm, stays.1, fun _ => stays.2⟩
  · next out =>
    obtain ⟨he, stays⟩ := List.mem_filter.mp hf
    exact ⟨f, he, rfl, Bool.not_eq_true' _ |>.mp stays, fun q => absurd q out⟩

theorem Cluster.LinkFaulted.mem_lost {k : Carrier} (inside : P k = true) {e : Entry} (he : e ∈ w.stack k)
    (out : P e.carrier = false) (unreserved : (w.ctx e.carrier).reserved = false) :
    e.woken (fun _ => true) .coverLost ∈ v.stack k := by
  rw [h.stack, if_pos inside]
  exact List.mem_map_of_mem (List.mem_filter.mpr ⟨he, by rw [out, unreserved]; rfl⟩)

theorem Cluster.LinkFaulted.mem_left {k : Carrier} (away : P k = false) {e : Entry} (he : e ∈ w.stack k)
    (out : P e.carrier = false) : e ∈ v.stack k := by
  rw [h.stack, if_neg (Bool.not_eq_true _ |>.mpr away)]
  exact List.mem_filter.mpr ⟨he, by rw [out]; rfl⟩

theorem Cluster.LinkFaulted.stack_nil {k : Carrier} (nil : w.stack k = []) : v.stack k = [] := by
  rw [h.stack, nil]
  split <;> rfl

theorem Cluster.LinkFaulted.holdsEntry_of
    (gone : ∀ k, ∀ e ∈ w.stack k, e.carrier = c → P c = true ∨ (P k = true ∧ (w.ctx c).reserved = true)) :
    v.holdsEntry c = false := by
  refine Cluster.holdsEntry_eq_false_iff.mpr fun k => ?_
  rw [← Bool.not_eq_true, Cluster.standsOn_iff]
  rintro ⟨f, hf, rfl⟩
  obtain ⟨e, he, same, out, kept⟩ := h.of_mem hf
  rw [same] at out kept
  rcases gone k e he same with q | ⟨inside, reserved⟩
  · exact absurd (q.symm.trans out) (by decide)
  · exact absurd ((kept inside).symm.trans reserved) (by decide)

theorem Cluster.LinkFaulted.holdsEntry_of_none (none : w.holdsEntry c = false) : v.holdsEntry c = false :=
  h.holdsEntry_of fun k e he same => by
    have absent := Cluster.holdsEntry_eq_false_iff.mp none k
    rw [← same, Cluster.standsOn_of_mem he] at absent
    exact absurd absent (by decide)

theorem Cluster.LinkFaulted.holdsEntry_of_in (inside : P c = true) : v.holdsEntry c = false :=
  h.holdsEntry_of fun _ _ _ _ => .inl inside

theorem Cluster.LinkFaulted.state_of_held (held : w.holdsEntry c = true) (out : P c = false) :
    (v.ctx c).state = (w.ctx c).state := by
  obtain ⟨k, e, he, rfl⟩ := Cluster.exists_of_holdsEntry held
  cases inside : P k with
  | false => rw [(h.sleepers k inside e he out).1]
  | true =>
    have lost := h.lost k inside e he out
    by_cases returning : e.phase = .returning
    · rw [(lost.rests returning).1]
    · cases reserved : (w.ctx e.carrier).reserved with
      | false => rw [(lost.turns returning reserved).1]; rfl
      | true => rw [(lost.cancels reserved).1]; rfl

/-- A carrier not yet visited has the state it had, but where its cover could hand it on to UNKNOWN. -/
theorem Cluster.LinkFaulted.state_eq (out : P c = false) (unlinked : ¬w.Relinkable c) :
    (v.ctx c).state = (w.ctx c).state := by
  cases held : w.holdsEntry c with
  | false => exact ((h.owners c out held).2 unlinked).1
  | true => exact h.state_of_held held out

end

theorem Cluster.CoverLost.congr {e : Entry} (h : w.CoverLost v e) (ctx : u.ctx e.carrier = v.ctx e.carrier)
    (want : u.wantOf e.carrier = v.wantOf e.carrier) : w.CoverLost u e where
  rests returning := ⟨ctx.trans (h.rests returning).1, want.trans (h.rests returning).2⟩
  cancels reserved := ⟨ctx.trans (h.cancels reserved).1, want.trans (h.cancels reserved).2⟩
  turns active unreserved := ⟨ctx.trans (h.turns active unreserved).1, fun command wakes =>
    (Cluster.wants_congr want command).trans ((h.turns active unreserved).2 command wakes)⟩

/-- The loss of a cover, told from a cluster in which the carrier stands as in w. -/
theorem Cluster.FaultStep.coverLost (step : v.FaultStep u c .link) {e : Entry} (he : e ∈ v.stack c)
    (ctx : v.ctx e.carrier = w.ctx e.carrier) (want : v.wantOf e.carrier = w.wantOf e.carrier) : w.CoverLost u e where
  rests returning := by
    rw [← ctx, ← want]
    exact step.rests e he returning
  cancels reserved := by
    rw [← ctx] at reserved ⊢
    exact step.cancels e he reserved
  turns active unreserved := by
    rw [← Cluster.wakeCommand_congr ctx want]
    rw [← ctx] at unreserved ⊢
    exact step.turns e he active unreserved

theorem Cluster.CoherentBut.alone (h : w.CoherentBut fun _ => False)
    (state : (w.ctx c).state = .unmanaged ∨ (w.ctx c).state = .unknown) : w.stack c = [] ∧ w.holdsEntry c = false := by
  constructor
  · refine Classical.byContradiction fun owner => ?_
    have awake := h.owners c id owner
    rcases state with q | q <;> simp [Context.Awake, q] at awake
  · rw [← Bool.not_eq_true, h.holdsEntry_iff]
    rintro ⟨-, sleeps⟩
    have marked := h.marks c id
    rcases state with q | q <;> simp_all [Context.sleeps, CarrierState.inSleepPath]

/-- The visit of an UNMANAGED carrier. -/
theorem Cluster.LinkFaulted.pass (h : w.LinkFaulted v P) (out : P c = false)
    (unmanaged : (w.ctx c).state = .unmanaged) (nil : w.stack c = []) (unheld : w.holdsEntry c = false) :
    w.LinkFaulted v fun d => P d || d == c := by
  have other {k : Carrier} {e : Entry} (he : e ∈ w.stack k) : e.carrier ≠ c := by
    rintro rfl
    have absent := Cluster.holdsEntry_eq_false_iff.mp unheld k
    rw [Cluster.standsOn_of_mem he] at absent
    cases absent
  have apart {k : Carrier} {e : Entry} (he : e ∈ w.stack k) : k ≠ c := by
    rintro rfl
    rw [nil] at he
    cases he
  have inside {d : Carrier} (d_in : (P d || d == c) = true) (ne : d ≠ c) : P d = true := by simpa [ne] using d_in
  have outside {d : Carrier} (d_out : (P d || d == c) = false) : P d = false := (Bool.or_eq_false_iff.mp d_out).1
  refine
    { h with
      stack := fun k => ?_
      faulted := fun d d_in managed => h.faulted d (inside d_in fun q => managed (q ▸ unmanaged)) managed
      unmanaged := fun d d_in idle => ?_
      sleepers := fun k away e he e_out => h.sleepers k (outside away) e he (outside e_out)
      lost := fun k k_in e he e_out => h.lost k (inside k_in (apart he)) e he (outside e_out)
      bare := fun d d_out => h.bare d (outside d_out)
      owners := fun d d_out => h.owners d (outside d_out)
      unlisted := fun d d_in unknown => h.unlisted d (inside d_in fun q => by subst q; rw [unmanaged] at unknown; cases unknown) unknown }
  · have same {p : Entry → Bool} : ((w.stack k).filter fun e => !(P e.carrier || e.carrier == c) && p e) =
        (w.stack k).filter fun e => !P e.carrier && p e :=
      List.filter_congr fun e he => by rw [beq_false_of_ne (other he), Bool.or_false]
    have plain : ((w.stack k).filter fun e => !(P e.carrier || e.carrier == c)) = (w.stack k).filter fun e => !P e.carrier :=
      List.filter_congr fun e he => by rw [beq_false_of_ne (other he), Bool.or_false]
    rw [same, plain, h.stack]
    by_cases here : k = c
    · subst here
      simp [nil]
    · rw [beq_false_of_ne here, Bool.or_false]
  · by_cases here : d = c
    · subst here
      exact (h.bare d out unheld nil).1
    · exact h.unmanaged d (inside d_in here) idle

/-- The visit of a managed carrier. -/
theorem Cluster.LinkFaulted.fault (h : w.LinkFaulted v P) (coherent : w.CoherentBut fun _ => False) (out : P c = false)
    (managed : (w.ctx c).state ≠ .unmanaged) (down : ∀ d, (P d || d == c) = true → (w.channel (siteOf d)).up = false)
    (step : v.FaultStep u c .link) : w.LinkFaulted u fun d => P d || d == c := by
  have inside {d : Carrier} (d_in : (P d || d == c) = true) (ne : d ≠ c) : P d = true := by simpa [ne] using d_in
  have outside {d : Carrier} (d_out : (P d || d == c) = false) : P d = false ∧ d ≠ c := by simpa using d_out
  have unlinked {d : Carrier} (d_in : (P d || d == c) = true) : ¬v.Relinkable d := fun q => by
    have up := q.2.2
    rw [h.channel, down d d_in] at up
    cases up
  refine
    { channel := fun i => (step.channel i).trans (h.channel i)
      outstanding := fun i => (step.outstanding i).trans (h.outstanding i)
      stack := fun k => ?_
      faulted := fun d d_in d_managed => ?_
      unmanaged := fun d d_in idle => ?_
      sleepers := fun k away e he e_out => ?_
      lost := fun k k_in e he e_out => ?_
      bare := fun d d_out unheld nil => ?_
      owners := fun d d_out unheld => ?_
      unlisted := fun d d_in unknown origin r hr => ?_ }
  · by_cases here : k = c
    · subst here
      have mine : v.stack k = (w.stack k).filter fun e => !P e.carrier := by
        rw [h.stack, if_neg (Bool.not_eq_true _ |>.mpr out)]
      rw [step.own, mine, List.filter_filter, if_pos (by simp)]
      refine congrArg (List.map _) (List.filter_congr fun e he => ?_)
      have ne : e.carrier ≠ k := by
        rintro rfl
        rw [coherent.bare_of_mem he] at he
        cases he
      rw [beq_false_of_ne ne, Bool.or_false]
      cases e_out : P e.carrier with
      | true => rw [Bool.not_true, Bool.and_false, Bool.false_and]
      | false => rw [(h.sleepers k out e he e_out).1, Bool.and_comm]
    · rw [step.others k here, h.stack, beq_false_of_ne here, Bool.or_false]
      split
      · rw [List.filter_map, List.filter_filter]
        refine congrArg (List.map _) (List.filter_congr fun e _ => ?_)
        rw [Function.comp_apply, Entry.carrier_woken, bne]
        cases P e.carrier <;> cases e.carrier == c <;> rfl
      · rw [List.filter_filter]
        refine List.filter_congr fun e _ => ?_
        rw [bne]
        cases P e.carrier <;> cases e.carrier == c <;> rfl
  · by_cases here : d = c
    · subst here
      exact ⟨step.state.1, step.state.2, step.unwanted, step.noted⟩
    · obtain ⟨faulted, link, unwanted, -⟩ := h.faulted d (inside d_in here) d_managed
      obtain ⟨state, cause, want⟩ := (step.owners d here (h.holdsEntry_of_in (inside d_in here))).2 (unlinked d_in)
      exact ⟨state.trans faulted, cause.trans link, want.trans unwanted, step.noted⟩
  · have here : d ≠ c := fun q => managed (q ▸ idle)
    have ctx := h.unmanaged d (inside d_in here) idle
    obtain ⟨nil, unheld⟩ := coherent.alone (.inl idle)
    exact (step.bare d here (h.holdsEntry_of_none unheld) (h.stack_nil nil)).1.trans ctx
  · obtain ⟨k_out, k_ne⟩ := outside away
    obtain ⟨e_out, e_ne⟩ := outside e_out
    obtain ⟨ctx, want⟩ := h.sleepers k k_out e he e_out
    obtain ⟨ctx', want'⟩ := step.sleepers k k_ne e (h.mem_left k_out he e_out) e_ne
    exact ⟨ctx'.trans ctx, want'.trans want⟩
  · obtain ⟨e_out, e_ne⟩ := outside e_out
    by_cases here : k = c
    · obtain ⟨ctx, want⟩ := h.sleepers k (here ▸ out) e he e_out
      exact step.coverLost (here ▸ h.mem_left (here ▸ out) he e_out) ctx want
    · have k_in := inside k_in here
      have kept : u.ctx e.carrier = v.ctx e.carrier ∧ u.wantOf e.carrier = v.wantOf e.carrier := by
        cases reserved : (w.ctx e.carrier).reserved with
        | true =>
          have unheld : v.holdsEntry e.carrier = false := h.holdsEntry_of fun l f hf same => .inr
            ⟨(coherent.entry_unique hf he same).1 ▸ k_in, reserved⟩
          exact step.bare e.carrier e_ne unheld (h.stack_nil (coherent.bare_of_mem he))
        | false =>
          have stays := step.sleepers k here _ (h.mem_lost k_in he e_out reserved) (by rwa [Entry.carrier_woken])
          rwa [Entry.carrier_woken] at stays
      exact (h.lost k k_in e he e_out).congr kept.1 kept.2
  · obtain ⟨d_out, here⟩ := outside d_out
    obtain ⟨ctx, want⟩ := h.bare d d_out unheld nil
    obtain ⟨ctx', want'⟩ := step.bare d here (h.holdsEntry_of_none unheld) (h.stack_nil nil)
    exact ⟨ctx'.trans ctx, want'.trans want⟩
  · obtain ⟨d_out, here⟩ := outside d_out
    obtain ⟨faulted, kept⟩ := h.owners d d_out unheld
    obtain ⟨faulted', kept'⟩ := step.owners d here (h.holdsEntry_of_none unheld)
    refine ⟨fun q => faulted (faulted' q), fun d_unlinked => ?_⟩
    obtain ⟨state, cause⟩ := kept d_unlinked
    have still : ¬v.Relinkable d := by rwa [Cluster.Relinkable, state, cause, h.channel]
    obtain ⟨state', cause', -⟩ := kept' still
    exact ⟨state'.trans state, cause'.trans cause⟩
  · rw [step.probes] at hr
    obtain ⟨⟨p, hp, sub⟩, gone⟩ := Cluster.mem_endQuery_probes hr
    by_cases here : d = c
    · subst here
      obtain ⟨nil, unheld⟩ := coherent.alone (.inr unknown)
      rw [(h.bare d out unheld nil).1] at gone
      exact gone unknown origin
    · exact fun hd => h.unlisted d (inside d_in here) unknown origin p hp (sub hd)

theorem Cluster.LinkFaulted.visit (h : w.LinkFaulted v P) (coherent : w.CoherentBut fun _ => False)
    (here : v.CoherentBut fun _ => False) (out : P c = false) (idle : v.isOutstanding c = false)
    (down : ∀ d, (P d || d == c) = true → (w.channel (siteOf d)).up = false) :
    w.LinkFaulted (v.faultByLink c) fun d => P d || d == c := by
  have unlinked : ¬w.Relinkable c := fun q => by
    have up := q.2.2
    rw [down c (by simp)] at up
    cases up
  have state := h.state_eq out unlinked
  unfold Cluster.faultByLink
  split
  · next unmanaged =>
    have unmanaged := state.symm.trans unmanaged
    obtain ⟨nil, unheld⟩ := coherent.alone (.inl unmanaged)
    exact h.pass out unmanaged nil unheld
  · next managed =>
    have still : ¬v.Relinkable c := fun q => by
      have up := q.2.2
      rw [h.channel, down c (by simp)] at up
      cases up
    exact h.fault coherent out (fun q => managed (state.trans q)) down (Cluster.faultStep here idle still .link)

/-- The carriers of one site, whose link is DOWN and none of whose commands is outstanding. -/
theorem Cluster.LinkFaulted.all {i : Site} (coherent : w.CoherentBut fun _ => False) (down : (w.channel i).up = false)
    (idle : (w.lane i).outstanding = none) (cs : List Carrier) (nodup : cs.Nodup) :
    ∀ {v : Cluster} {P : Carrier → Bool}, w.LinkFaulted v P → v.CoherentBut (fun _ => False) →
      (∀ d, (P d || cs.contains d) = true → siteOf d = i) → (∀ c ∈ cs, P c = false) →
      w.LinkFaulted (cs.foldl Cluster.faultByLink v) fun d => P d || cs.contains d := by
  induction cs with
  | nil =>
    intro v P h _ _ _
    simpa using h
  | cons c cs ih =>
    intro v P h here site out
    obtain ⟨fresh, nodup⟩ := List.nodup_cons.mp nodup
    have at_c : siteOf c = i := site c (by simp)
    have sites (d : Carrier) (d_in : (P d || d == c) = true) : siteOf d = i := site d (by
      rw [List.contains_cons, ← Bool.or_assoc, d_in, Bool.true_or])
    have resting : v.isOutstanding c = false := by
      rw [← Bool.not_eq_true, Cluster.isOutstanding_iff]
      rintro ⟨o, ho, -⟩
      rw [at_c, h.outstanding, idle] at ho
      cases ho
    have next := h.visit coherent here (out c List.mem_cons_self) resting fun d d_in => (sites d d_in).symm ▸ down
    have coherent' : (v.faultByLink c).CoherentBut fun _ => False :=
      Cluster.CoherentBut.faultAll [c] (fun d hd => (List.mem_singleton.mp hd) ▸ at_c) here ((congrArg Channel.up (h.channel i)).trans down)
    have same (d : Carrier) : (P d || (c :: cs).contains d) = ((P d || d == c) || cs.contains d) := by
      rw [List.contains_cons, Bool.or_assoc]
    rw [funext same]
    refine ih nodup next coherent' (fun d d_in => site d ((same d).trans d_in)) fun d hd => ?_
    rw [out d (List.mem_cons_of_mem _ hd), Bool.false_or]
    exact beq_false_of_ne (ne_of_mem_of_not_mem hd fresh)

end

end Sys2Proof.Machine
end

section
/-! A link DOWN as a whole (sections 5.8 and 8.5). -/

namespace Sys2Proof.Machine

section
variable {w v : Cluster} {i : Site} {c : Carrier}

/-- The channel goes DOWN and its live command, if any, is abandoned (section 8.5). -/
def Cluster.cutOff (w : Cluster) (i : Site) : Cluster :=
  let u := w.setChannel i { w.channel i with up := false }
  if (u.channel i).liveTag.isSome then u.retire i else u

theorem Cluster.linkDown_eq (w : Cluster) (i : Site) : w.linkDown i = (carriersOf i).foldl Cluster.faultByLink (w.cutOff i) := rfl

/-- Nothing but the channel and the outstanding command of the site has changed. -/
structure Cluster.CutOff (w v : Cluster) (i : Site) : Prop where
  ctx : ∀ c, v.ctx c = w.ctx c
  stack : ∀ k, v.stack k = w.stack k
  want : ∀ c, v.wantOf c = w.wantOf c
  down : (v.channel i).up = false ∧ (v.channel i).liveTag = none ∧ (v.channel i).nextTag = (w.channel i).nextTag
  idle : (v.lane i).outstanding = none

theorem Cluster.cutOff_cutOff (agree : w.TagsAgree) (i : Site) : w.CutOff (w.cutOff i) i := by
  have same := w.channel_setChannel_self i { w.channel i with up := false }
  have agrees := agree i
  unfold Cluster.cutOff
  dsimp only
  split
  · have channel := (w.setChannel i { w.channel i with up := false }).channel_retire i i
    have lane := (w.setChannel i { w.channel i with up := false }).lane_retire i i
    rw [if_pos rfl, same] at channel
    refine ⟨fun _ => rfl, fun _ => rfl, fun _ => Cluster.wantOf_retire .., ?_, ?_⟩
    · rw [channel]
      exact ⟨rfl, rfl, rfl⟩
    · rw [lane, if_pos rfl]
      rfl
  · next dead =>
    rw [same] at dead
    have none : (w.channel i).liveTag = none := by simpa using dead
    refine ⟨fun _ => rfl, fun _ => rfl, fun _ => rfl, ?_, ?_⟩
    · rw [same]
      exact ⟨rfl, none, rfl⟩
    · rw [none] at agrees
      exact Option.map_eq_none_iff.mp agrees

theorem Cluster.CoherentBut.cutOff (h : w.CoherentBut fun _ => False) (i : Site) :
    (w.cutOff i).CoherentBut fun _ => False := by
  have set := (Cluster.alike_setChannel w i { w.channel i with up := false }).coherentBut h
  unfold Cluster.cutOff
  dsimp only
  split
  · exact set.retire i
  · exact set

/-- What a link DOWN has made of every carrier: those of the site have been visited. -/
theorem Cluster.linkFaulted_linkDown (h : w.CoherentBut fun _ => False) (agree : w.TagsAgree) (i : Site) :
    (w.cutOff i).LinkFaulted (w.linkDown i) fun c => siteOf c == i := by
  have cut := Cluster.cutOff_cutOff agree i
  have coherent := h.cutOff i
  have all := Cluster.LinkFaulted.all coherent cut.down.1 cut.idle (carriersOf i) ((List.nodup_finRange 256).filter _)
    (.start _) coherent (fun d d_in => mem_carriersOf.mp (List.contains_iff_mem.mp ((Bool.false_or _).symm.trans d_in)))
    fun _ _ => rfl
  have same (d : Carrier) : (false || (carriersOf i).contains d) = (siteOf d == i) := by
    rw [Bool.false_or, Bool.eq_iff_iff, List.contains_iff_mem, mem_carriersOf, beq_iff_eq]
  rw [funext same] at all
  exact all

end

theorem Entry.woken_all (r : Reason) (e : Entry) :
    e.woken (fun _ => true) r = if e.phase = .returning then e else { e with phase := .returning, reason := r } := by
  by_cases h : e.phase = .returning
  · rw [if_pos h, Entry.woken_of_rests (.inr h)]
  · rw [if_neg h, Entry.woken_of_turns rfl h]

/-- Settles O51: the fold over the carriers of the site faults each of them once. -/
theorem linkDownFaults : Obligations.LinkDownFaults := by
  refine fun s i coherent agree => ⟨fun up => ?_, fun down => ?_⟩
  · have whole := (Cluster.coherent_iff _).mp coherent.1
    have cut := Cluster.cutOff_cutOff agree i
    have linked := Cluster.linkFaulted_linkDown whole agree i
    have done : exec (.linkDown i) s = .next (s.on fun w => w.linkDown i).testReleasingEnd :=
      congrArg Host.Outcome.next (if_pos up)
    rw [show (s.on fun w => w.linkDown i) = s.on fun _ => s.cluster.linkDown i from rfl, State.testReleasingEnd_on] at done
    generalize s.cluster.linkDown i = v at *
    generalize s.cluster.cutOff i = u at *
    have home {c : Carrier} (own : siteOf c = i) : (siteOf c == i) = true := beq_iff_eq.mpr own
    have away {c : Carrier} (other : siteOf c ≠ i) : (siteOf c == i) = false := beq_false_of_ne other
    refine ⟨_, done, ?_, ?_, ?_, ?_, fun c own managed => ?_, fun k => ?_, fun c own unmanaged => ?_, fun c other faulted => ?_,
      fun c own unknown origin => ?_, fun k c own other e he same => ?_, fun c other nil alone => ?_, rfl⟩
    · exact (congrArg Channel.up (linked.channel i)).trans cut.down.1
    · exact (congrArg Channel.liveTag (linked.channel i)).trans cut.down.2.1
    · exact (linked.outstanding i).trans cut.idle
    · exact (congrArg Channel.nextTag (linked.channel i)).trans cut.down.2.2
    · obtain ⟨faulted, link, unwanted, noted⟩ := linked.faulted c (home own) fun q =>
        managed ((congrArg Context.state (cut.ctx c)).symm.trans q)
      exact ⟨faulted, link, linked.holdsEntry_of_in (home own), unwanted, noted⟩
    · refine (linked.stack k).trans ?_
      rw [cut.stack, funext (Entry.woken_all _)]
      simp only [beq_iff_eq, cut.ctx]
      rfl
    · exact (linked.unmanaged c (home own) ((congrArg Context.state (cut.ctx c)).trans unmanaged)).trans (cut.ctx c)
    · have before : (u.ctx c).state = .faulted := by
        cases held : u.holdsEntry c with
        | false => exact (linked.owners c (away other) held).1 faulted
        | true => exact (linked.state_of_held held (away other)).symm.trans faulted
      exact (congrArg Context.state (cut.ctx c)).symm.trans before
    · refine linked.unlisted c (home own) ?_ ?_
      · rw [cut.ctx]
        exact unknown
      · rw [cut.ctx]
        exact origin
    · subst same
      have lost := linked.lost k (home own) e ((cut.stack k).symm ▸ he) (away other)
      obtain ⟨ctx, want⟩ : u.ctx e.carrier = s.ctx e.carrier ∧ u.wantOf e.carrier = s.cluster.wantOf e.carrier :=
        ⟨cut.ctx _, cut.want _⟩
      refine ⟨fun returning => ?_, fun reserved => ?_, fun active unreserved => ?_⟩
      · obtain ⟨ctx', want'⟩ := lost.rests returning
        exact ⟨ctx'.trans ctx, want'.trans want⟩
      · obtain ⟨ctx', want'⟩ := lost.cancels ((congrArg Context.reserved ctx).trans reserved)
        rw [ctx] at ctx'
        refine ⟨ctx', linked.holdsEntry_of fun l f hf same => .inr ⟨?_, (congrArg Context.reserved ctx).trans reserved⟩, want'⟩
        rw [cut.stack] at hf
        exact (whole.entry_unique hf he same).1 ▸ home own
      · obtain ⟨ctx', wanted⟩ := lost.turns active ((congrArg Context.reserved ctx).trans unreserved)
        rw [ctx] at ctx'
        rw [Cluster.wakeCommand_congr ctx want] at wanted
        exact ⟨ctx', fun light => wanted _ (Cluster.wakeCommand_of_light light),
          fun dark => wanted _ (Cluster.wakeCommand_of_dark dark),
          fun draining drains => wanted _ (Cluster.wakeCommand_of_draining draining drains)⟩
    · have kept : v.ctx c = u.ctx c ∧ v.wantOf c = u.wantOf c := by
        cases held : u.holdsEntry c with
        | false => exact linked.bare c (away other) held ((cut.stack c).trans nil)
        | true =>
          obtain ⟨k, e, he, rfl⟩ := Cluster.exists_of_holdsEntry held
          refine linked.sleepers k (away fun own => ?_) e he (away other)
          have absent := alone k own
          rw [cut.stack] at he
          exact absurd ((Cluster.standsOn_of_mem he).symm.trans absent) (by decide)
      exact ⟨kept.1.trans (cut.ctx c), kept.2.trans (cut.want c)⟩
  · exact congrArg Host.Outcome.next (if_neg (by rw [down]; decide))

end Sys2Proof.Machine
end

section
/-! The windows of a minute event (section 9.4), told of one carrier: the parts that pass it by, and those of its own window. -/

namespace Sys2Proof.Machine

/-- The carrier c keeps its entry and, where it owns no stack, its want and all of its context but the counts of the night,
the countdowns, of which the re-sleep hold falls by b at most, and the dirty mark, which stays set. -/
structure Cluster.Steady (w v : Cluster) (c : Carrier) (b : Nat) : Prop where
  entries : ∀ (k : Carrier) (e : Entry), e.carrier = c → (e ∈ v.stack k ↔ e ∈ w.stack k)
  bare : w.stack c = [] → v.stack c = []
  cfg : (v.ctx c).cfg = (w.ctx c).cfg
  reserved : (v.ctx c).reserved = (w.ctx c).reserved
  ctx : w.stack c = [] → v.ctx c =
    { w.ctx c with
      sleepsTonight := (v.ctx c).sleepsTonight, deepenDeclined := (v.ctx c).deepenDeclined
      lightMinutes := (v.ctx c).lightMinutes, darkMinutes := (v.ctx c).darkMinutes, holdLeft := (v.ctx c).holdLeft
      resleepLeft := (v.ctx c).resleepLeft, lightRun := (v.ctx c).lightRun, dirty := (v.ctx c).dirty }
  want : w.stack c = [] → v.wantOf c = w.wantOf c
  dirty : (w.ctx c).dirty = true → (v.ctx c).dirty = true
  resleep : (v.ctx c).resleepLeft ≤ (w.ctx c).resleepLeft ∧ (w.ctx c).resleepLeft ≤ (v.ctx c).resleepLeft + b

/-- The carrier's night goes on, with a minute more at most a times. -/
structure Cluster.SameNight (w v : Cluster) (c : Carrier) (a : Nat) : Prop where
  sleeps : (v.ctx c).sleepsTonight = (w.ctx c).sleepsTonight
  declined : (v.ctx c).deepenDeclined = (w.ctx c).deepenDeclined
  light : (v.ctx c).lightMinutes ≤ (w.ctx c).lightMinutes + a
  dark : (v.ctx c).darkMinutes ≤ (w.ctx c).darkMinutes + a

section
variable {w v u : Cluster} {c : Carrier} {a a' b b' : Nat} {S : Carrier → Bool} {r : Reason}

theorem Cluster.Steady.trans (h : w.Steady v c b) (g : v.Steady u c b') : w.Steady u c (b + b') where
  entries k e own := (g.entries k e own).trans (h.entries k e own)
  bare nil := g.bare (h.bare nil)
  cfg := g.cfg.trans h.cfg
  reserved := g.reserved.trans h.reserved
  ctx nil := by
    have := g.ctx (h.bare nil)
    rw [h.ctx nil] at this
    exact this
  want nil := (g.want (h.bare nil)).trans (h.want nil)
  dirty set := g.dirty (h.dirty set)
  resleep := ⟨Nat.le_trans g.resleep.1 h.resleep.1, by have := g.resleep.2; have := h.resleep.2; omega⟩

theorem Cluster.Steady.of_same (entries : ∀ (k : Carrier) (e : Entry), e.carrier = c → (e ∈ v.stack k ↔ e ∈ w.stack k))
    (bare : w.stack c = [] → v.stack c = []) (ctx : v.ctx c = w.ctx c) (want : v.wantOf c = w.wantOf c) : w.Steady v c b := by
  refine ⟨entries, bare, ?_, ?_, fun _ => ?_, fun _ => want, ?_, ?_⟩
  all_goals rw [ctx]
  · exact id
  · exact ⟨Nat.le_refl _, Nat.le_add_right ..⟩

theorem Cluster.Steady.refl (w : Cluster) (c : Carrier) : w.Steady w c b := .of_same (fun _ _ _ => .rfl) id rfl rfl

theorem Cluster.SameNight.trans (h : w.SameNight v c a) (g : v.SameNight u c a') : w.SameNight u c (a + a') where
  sleeps := g.sleeps.trans h.sleeps
  declined := g.declined.trans h.declined
  light := by have := g.light; have := h.light; omega
  dark := by have := g.dark; have := h.dark; omega

theorem Cluster.SameNight.of_same (ctx : v.ctx c = w.ctx c) : w.SameNight v c a := by
  constructor <;> rw [ctx] <;> exact Nat.le_add_right ..

/-! ## A CLOSE -/

theorem Cluster.Woken.steady (woken : w.Woken v S r) (out : S c = false) : w.Steady v c 0 := by
  obtain ⟨entries, plain⟩ := woken.kept out
  have bare (nil : w.stack c = []) : v.stack c = [] := by rw [woken.stack, nil]; rfl
  by_cases nil : w.stack c = []
  · exact .of_same entries bare (plain nil).1 (plain nil).2
  · have owner : v.ctx c = w.ctx c ∨ ∃ emptied up, v.ctx c = (w.ctx c).handedOn emptied up := by
      cases held : w.holdsEntry c with
      | true =>
        obtain ⟨k, e, he, rfl⟩ := Cluster.exists_of_holdsEntry held
        exact .inl (woken.rests k e he (.inl out)).1
      | false =>
        have ctx := (woken.owners c held).1
        split at ctx
        · exact .inr ⟨_, _, ctx⟩
        · exact .inl ctx
    refine ⟨entries, bare, ?_, ?_, fun q => absurd q nil, fun q => absurd q nil, ?_, ?_⟩
    all_goals
      rcases owner with q | ⟨emptied, up, q⟩
      · simp [q]
      · rw [q, Context.handedOn]
        split <;> simp

/-- What wake requests may change in a context, were it woken or the owner of a stack. -/
theorem Cluster.Woken.ctx_eq (woken : w.Woken v S r) (c : Carrier) :
    v.ctx c = { w.ctx c with
      state := (v.ctx c).state, cls := (v.ctx c).cls, probeOrigin := (v.ctx c).probeOrigin, sleepCount := (v.ctx c).sleepCount
      wakeCount := (v.ctx c).wakeCount, dirty := (v.ctx c).dirty, lastReason := (v.ctx c).lastReason
      reserved := (v.ctx c).reserved, resleepLeft := (v.ctx c).resleepLeft } := by
  cases held : w.holdsEntry c with
  | false =>
    rw [(woken.owners c held).1]
    unfold Context.handedOn
    split
    · split <;> rfl
    · rfl
  | true =>
    obtain ⟨k, e, he, rfl⟩ := Cluster.exists_of_holdsEntry held
    by_cases rests : S e.carrier = false ∨ e.phase = .returning
    · rw [(woken.rests k e he rests).1]
    · obtain ⟨inside, active⟩ := not_or.mp rests
      rw [Bool.not_eq_false] at inside
      cases reserved : (w.ctx e.carrier).reserved with
      | false => rw [(woken.turns k e he inside active reserved).1]; rfl
      | true => rw [(woken.cancels k e he inside reserved).1]; rfl

theorem Cluster.Woken.sameNight (woken : w.Woken v S r) (c : Carrier) : w.SameNight v c 0 := by
  constructor <;> rw [woken.ctx_eq c] <;> exact Nat.le_refl _

theorem Cluster.Woken.cfg (woken : w.Woken v S r) (c : Carrier) : (v.ctx c).cfg = (w.ctx c).cfg := by
  rw [woken.ctx_eq c]

/-! ## Countdowns, accounting and OPEN -/

theorem Cluster.Steady.editAll {f : Context → Context}
    (ctx : f (w.ctx c) = { w.ctx c with
      sleepsTonight := (f (w.ctx c)).sleepsTonight, deepenDeclined := (f (w.ctx c)).deepenDeclined
      lightMinutes := (f (w.ctx c)).lightMinutes, darkMinutes := (f (w.ctx c)).darkMinutes
      holdLeft := (f (w.ctx c)).holdLeft, resleepLeft := (f (w.ctx c)).resleepLeft, lightRun := (f (w.ctx c)).lightRun })
    (resleep : (f (w.ctx c)).resleepLeft ≤ (w.ctx c).resleepLeft ∧ (w.ctx c).resleepLeft ≤ (f (w.ctx c)).resleepLeft + b) :
    w.Steady (w.editAll f) c b := by
  have dirty : (f (w.ctx c)).dirty = (w.ctx c).dirty := by rw [ctx]
  refine ⟨fun _ _ _ => .rfl, id, ?_, ?_, fun _ => ?_, fun _ => rfl, fun set => ?_, ?_⟩
  all_goals rw [Cluster.ctx_editAll, Context.edit]
  · rw [ctx]
  · rw [ctx]
  · rw [ctx]
  · rw [dirty, set, Bool.true_or]
  · exact resleep

theorem Cluster.steady_countDown (w : Cluster) (c : Carrier) :
    w.Steady (w.editAll Context.countDown) c 1 ∧ w.SameNight (w.editAll Context.countDown) c 0 := by
  constructor
  · refine .editAll ?_ ?_
    · unfold Context.countDown
      split <;> rfl
    · unfold Context.countDown
      split
      · exact ⟨Nat.sub_le .., by dsimp only; omega⟩
      · exact ⟨Nat.le_refl _, Nat.le_succ _⟩
  · constructor
    all_goals
      rw [Cluster.ctx_editAll, Context.edit, Context.countDown]
      split <;> simp

theorem Cluster.steady_account (w : Cluster) (c : Carrier) :
    w.Steady (w.editAll Context.account) c 0 ∧ w.SameNight (w.editAll Context.account) c 1 := by
  have account : (w.ctx c).account = { w.ctx c with
      lightMinutes := (w.ctx c).account.lightMinutes, darkMinutes := (w.ctx c).account.darkMinutes } ∧
      (w.ctx c).account.lightMinutes ≤ (w.ctx c).lightMinutes + 1 ∧ (w.ctx c).account.darkMinutes ≤ (w.ctx c).darkMinutes + 1 := by
    cases present : (w.ctx c).cfg.present with
    | false => simp [Context.account, present]
    | true =>
      rw [Context.account_of_present present]
      dsimp only
      refine ⟨rfl, ?_, ?_⟩ <;> split <;> omega
  obtain ⟨ctx, light, dark⟩ := account
  constructor
  · refine .editAll ?_ ?_
    · rw [ctx]
    · rw [ctx]
      exact ⟨Nat.le_refl _, Nat.le_refl _⟩
  · constructor
    all_goals rw [Cluster.ctx_editAll, Context.edit]
    · rw [ctx]
    · rw [ctx]
    · exact light
    · exact dark

theorem Cluster.steady_openEffects (w : Cluster) (n : WindowNo) (c : Carrier) : w.Steady (w.openEffects n) c 0 := by
  refine .editAll ?_ ?_
  · split <;> rfl
  · split <;> exact ⟨Nat.le_refl _, Nat.le_refl _⟩

theorem Cluster.sameNight_openEffects {n : WindowNo} (away : (w.ctx c).boundTo n = false) : w.SameNight (w.openEffects n) c 0 := by
  refine .of_same ?_
  rw [Cluster.openEffects, Cluster.ctx_editAll]
  simp [Context.edit, away]

theorem Cluster.night_openEffects {n : WindowNo} (bound : (w.ctx c).boundTo n = true) :
    (let y := (w.openEffects n).ctx c
     y.sleepsTonight = 0 ∧ y.deepenDeclined = false ∧ y.lightMinutes = 0 ∧ y.darkMinutes = 0) := by
  rw [Cluster.openEffects, Cluster.ctx_editAll, Context.edit, if_pos bound]
  exact ⟨rfl, rfl, rfl, rfl⟩

/-! ## A DEEP_STOP -/

/-- Nothing of the context has changed but what the windows and the minute may change of a carrier without a stack. -/
def Context.Near (x y : Context) : Prop :=
  y = { x with
    lastReason := y.lastReason, reserved := y.reserved, sleepsTonight := y.sleepsTonight
    deepenDeclined := y.deepenDeclined, lightMinutes := y.lightMinutes, darkMinutes := y.darkMinutes
    holdLeft := y.holdLeft, resleepLeft := y.resleepLeft, lightRun := y.lightRun, dirty := y.dirty }

theorem Context.Near.trans {x y z : Context} (h : x.Near y) (g : y.Near z) : x.Near z := by
  unfold Context.Near at *
  rw [h] at g
  exact g

theorem Cluster.Steady.near (h : w.Steady v c b) (nil : w.stack c = []) : (w.ctx c).Near (v.ctx c) := by
  rw [h.ctx nil]
  rfl

theorem Cluster.Steady.lastReason (h : w.Steady v c b) (nil : w.stack c = []) : (v.ctx c).lastReason = (w.ctx c).lastReason := by
  rw [h.ctx nil]

theorem Cluster.Steady.state (h : w.Steady v c b) (nil : w.stack c = []) : (v.ctx c).state = (w.ctx c).state := by
  rw [h.ctx nil]

/-- The carrier's entry has the reason DEEP_STOP, and WARM is wanted. -/
structure Cluster.Stopped (w v : Cluster) (c : Carrier) : Prop where
  entries : ∀ k, ∀ e ∈ w.stack k, e.carrier = c → { e with reason := .deepStop } ∈ v.stack k
  bare : w.stack c = [] ∧ v.stack c = []
  near : (w.ctx c).Near (v.ctx c)
  cfg : (v.ctx c).cfg = (w.ctx c).cfg
  reserved : (v.ctx c).reserved = (w.ctx c).reserved
  noted : (v.ctx c).lastReason = some .deepStop ∧ (v.ctx c).dirty = true
  warm : v.wants c .warm = true

theorem Cluster.Stopped.after (h : w.Stopped v c) (g : v.Steady u c b) : w.Stopped u c where
  entries k e he own := (g.entries k { e with reason := .deepStop } own).mpr (h.entries k e he own)
  bare := ⟨h.bare.1, g.bare h.bare.2⟩
  near := h.near.trans (g.near h.bare.2)
  cfg := g.cfg.trans h.cfg
  reserved := g.reserved.trans h.reserved
  noted := ⟨(g.lastReason h.bare.2).trans h.noted.1, g.dirty h.noted.2⟩
  warm := (Cluster.wants_congr (g.want h.bare.2) _).trans h.warm

theorem Cluster.Stopped.before (g : v.Stopped u c) (nil : w.stack c = []) (h : w.Steady v c b) : w.Stopped u c where
  entries k e he own := g.entries k e ((h.entries k e own).mpr he) own
  bare := ⟨nil, g.bare.2⟩
  near := (h.near nil).trans g.near
  cfg := g.cfg.trans h.cfg
  reserved := g.reserved.trans h.reserved
  noted := g.noted
  warm := g.warm

theorem Cluster.Stopped.trans (h : w.Stopped v c) (g : v.Stopped u c) : w.Stopped u c where
  entries k e he own := g.entries k { e with reason := .deepStop } (h.entries k e he own) own
  bare := ⟨h.bare.1, g.bare.2⟩
  near := h.near.trans g.near
  cfg := g.cfg.trans h.cfg
  reserved := g.reserved.trans h.reserved
  noted := g.noted
  warm := g.warm

theorem Cluster.stack_deepStop (w : Cluster) (c k : Carrier) :
    (w.deepStop c).stack k = (w.editEntry c fun e => { e with reason := .deepStop }).stack k := Cluster.stack_want ..

theorem Cluster.ctx_deepStop (w : Cluster) (c d : Carrier) :
    (w.deepStop c).ctx d = if c = d then { w.ctx c with lastReason := some .deepStop, dirty := true } else w.ctx d := by
  rw [Cluster.deepStop, Cluster.ctx_want, Cluster.ctx_markDirty, Cluster.ctx_editCtx, Cluster.ctx_editCtx, Cluster.ctx_editEntry,
    Cluster.ctx_editEntry]
  split
  · next h => subst h; rw [if_pos rfl]; rfl
  · rfl

theorem Cluster.bare_deepStop (d : Carrier) {k : Carrier} (nil : w.stack k = []) : (w.deepStop d).stack k = [] := by
  rw [Cluster.stack_deepStop, Cluster.stack_editEntry, nil]
  split <;> rfl

theorem Cluster.steady_deepStop (h : w.CoherentBut fun _ => False) {d : Carrier} (other : d ≠ c) : w.Steady (w.deepStop d) c 0 := by
  refine .of_same (fun k e own => ?_) (Cluster.bare_deepStop d) ?_ ?_
  · rw [Cluster.stack_deepStop, h.mem_editEntry_iff]
    refine ⟨?_, fun he => ⟨e, he, (if_neg fun q => other (q.symm.trans own)).symm⟩⟩
    rintro ⟨f, hf, rfl⟩
    split at own
    · next q => exact absurd (q.symm.trans own) other
    · next q => rwa [if_neg q]
  · rw [Cluster.ctx_deepStop, if_neg other]
  · exact (Cluster.wantOf_joinWant_ne _ other ..).trans (Cluster.wantOf_editEntry ..)

theorem Cluster.CoherentBut.sent_of_dark (h : w.CoherentBut fun _ => False) (dark : (w.ctx c).state = .dark) :
    w.isOutstanding c = false :=
  h.unsent_of_wakeCommand id (Cluster.wakeCommand_of_dark dark)

theorem Cluster.CoherentBut.bare_of_dark (h : w.CoherentBut fun _ => False) (dark : (w.ctx c).state = .dark) : w.stack c = [] := by
  refine Classical.byContradiction fun owner => ?_
  have awake := h.owners c id owner
  simp [Context.Awake, dark] at awake

theorem Cluster.stopped_deepStop (h : w.CoherentBut fun _ => False) (dark : (w.ctx c).state = .dark) :
    w.Stopped (w.deepStop c) c := by
  have nil := h.bare_of_dark dark
  have ctx : (w.deepStop c).ctx c = _ := (w.ctx_deepStop c c).trans (if_pos rfl)
  refine ⟨fun k e he own => ?_, ⟨nil, Cluster.bare_deepStop c nil⟩, ?_, ?_, ?_, ?_, ?_⟩
  · have there := h.mem_editEntry_of_mem c (fun e => { e with reason := .deepStop }) he
    rwa [if_pos own, ← Cluster.stack_deepStop] at there
  · rw [ctx]
    rfl
  · rw [ctx]
  · rw [ctx]
  · rw [ctx]
    exact ⟨rfl, rfl⟩
  · exact Cluster.wants_joinWant_self _ (by simpa [Cluster.isOutstanding] using h.sent_of_dark dark) ..

/-- The carriers of the list are all dark: each of them is stopped, and every other carrier is left. -/
theorem Cluster.deepStopAll_spec (cs : List Carrier) (nodup : cs.Nodup) :
    ∀ {w : Cluster}, (w.CoherentBut fun _ => False) → (∀ d ∈ cs, (w.ctx d).state = .dark) →
      (w.SameNight (cs.foldl Cluster.deepStop w) c 0) ∧
      (c ∈ cs → w.Stopped (cs.foldl Cluster.deepStop w) c) ∧ (c ∉ cs → w.Steady (cs.foldl Cluster.deepStop w) c 0) := by
  induction cs with
  | nil => exact fun _ _ => ⟨.of_same rfl, nofun, fun _ => .refl ..⟩
  | cons d ds ih =>
    intro w h dark
    obtain ⟨fresh, nodup⟩ := List.nodup_cons.mp nodup
    have dark_d := dark d List.mem_cons_self
    obtain ⟨night, stopped, steady⟩ := ih nodup (h.deepStop dark_d) fun e he =>
      (Cluster.state_deepStop ..).trans (dark e (List.mem_cons_of_mem _ he))
    have same : w.SameNight (w.deepStop d) c 0 := by
      by_cases q : d = c
      · have ctx := (w.ctx_deepStop d c).trans (if_pos q)
        subst q
        constructor <;> rw [ctx] <;> exact Nat.le_refl _
      · exact .of_same ((w.ctx_deepStop d c).trans (if_neg q))
    refine ⟨same.trans night, fun inside => ?_, fun outside => ?_⟩
    · rcases List.mem_cons.mp inside with rfl | inside
      · exact (Cluster.stopped_deepStop h dark_d).after (steady fresh)
      · have other : d ≠ c := fun q => fresh (q ▸ inside)
        exact (stopped inside).before (h.bare_of_dark (dark c (List.mem_cons_of_mem _ inside))) (Cluster.steady_deepStop h other)
    · obtain ⟨other, outside⟩ := not_or.mp (mt List.mem_cons.mpr outside)
      exact (Cluster.steady_deepStop h (Ne.symm other)).trans (steady outside)

end

end Sys2Proof.Machine
end

section
/-! What a minute event makes of one carrier, by the window to which it is bound (section 9.4). -/

namespace Sys2Proof.Machine

/-- The carrier's entry has been turned back with reason WINDOW_CLOSE, or its reservation cancelled, and its re-sleep hold
has fallen by b since at most. -/
structure Cluster.ClosedOut (w v : Cluster) (c : Carrier) (b : Nat) : Prop where
  bare : w.stack c = [] → v.stack c = []
  near : w.stack c = [] → (w.ctx c).Near (v.ctx c)
  reserved : (v.ctx c).reserved = false
  returning : ∀ k, ∀ e ∈ v.stack k, e.carrier = c → e.phase = .returning
  rests : ∀ k, ∀ e ∈ w.stack k, e.carrier = c → e.phase = .returning →
    e ∈ v.stack k ∧ (v.ctx c).lastReason = (w.ctx c).lastReason
  cancels : ∀ k, ∀ e ∈ w.stack k, e.carrier = c → (w.ctx c).reserved = true →
    v.holdsEntry c = false ∧ v.wantOf c = none ∧ (v.ctx c).lastReason = some .windowClose ∧ (v.ctx c).dirty = true ∧
    (v.ctx c).resleepLeft ≤ (w.ctx c).cfg.resleepHold ∧ (w.ctx c).cfg.resleepHold ≤ (v.ctx c).resleepLeft + b
  turns : ∀ k, ∀ e ∈ w.stack k, e.carrier = c → e.phase ≠ .returning → (w.ctx c).reserved = false →
    { e with phase := .returning, reason := .windowClose } ∈ v.stack k ∧
    (v.ctx c).lastReason = some .windowClose ∧ (v.ctx c).dirty = true ∧
    ((w.ctx c).state = .light → v.wants c .raise = true) ∧ ((w.ctx c).state = .dark → v.wants c .warm = true) ∧
    ((w.ctx c).state = .draining → w.wants c .shed = true ∨ w.wants c .lower = true → v.wants c .reopen = true)

/-- An entry not RETURNING of a DARK carrier, which a DEEP_STOP reaches. -/
def Cluster.HoldsDark (w : Cluster) (c : Carrier) : Prop := (w.ctx c).state = .dark ∧ w.holdsActive c = true

/-- The DEEP_STOP of the window, or its follow-up, reaches the carrier. -/
def Window.Reaches (x : Window) (m : MinuteStamp) (w : Cluster) (c : Carrier) : Prop :=
  (x.Stops m ∨ x.FollowsUp m ∧ w.wants c .warm = false) ∧ w.HoldsDark c

/-- What the minute has made of a carrier bound to the window x, with a minutes accounted and b counted down since. -/
structure Cluster.TookMinute (w v : Cluster) (x : Window) (m : MinuteStamp) (c : Carrier) (a b : Nat) : Prop where
  cfg : (v.ctx c).cfg = (w.ctx c).cfg
  bare : w.stack c = [] → v.stack c = []
  near : w.stack c = [] → (w.ctx c).Near (v.ctx c)
  closed : x.Closes m → w.ClosedOut v c b
  opened : x.Opens m → (v.ctx c).sleepsTonight = 0 ∧ (v.ctx c).deepenDeclined = false ∧ (v.ctx c).lightMinutes ≤ a ∧
    (v.ctx c).darkMinutes ≤ a
  night : ¬x.Opens m → (v.ctx c).sleepsTonight = (w.ctx c).sleepsTonight ∧
    (v.ctx c).deepenDeclined = (w.ctx c).deepenDeclined
  stopped : ¬x.Closes m → x.Reaches m w c → w.Stopped v c
  steady : ¬x.Closes m → ¬x.Reaches m w c → ∃ b', w.Steady v c b'

section
variable {w v u : Cluster} {x : Window} {m : MinuteStamp} {n : WindowNo} {c : Carrier} {a a' b b' : Nat}

theorem Cluster.ClosedOut.after (h : w.ClosedOut v c b) (coherent : w.CoherentBut fun _ => False) (g : v.Steady u c b') :
    w.ClosedOut u c (b + b') := by
  have nil {k : Carrier} {e : Entry} (he : e ∈ w.stack k) (own : e.carrier = c) : v.stack c = [] :=
    h.bare (own ▸ coherent.bare_of_mem he)
  refine
    { bare := fun q => g.bare (h.bare q)
      near := fun q => (h.near q).trans (g.near (h.bare q))
      reserved := g.reserved.trans h.reserved
      returning := fun k e he own => h.returning k e ((g.entries k e own).mp he) own
      rests := fun k e he own returning => ?_
      cancels := fun k e he own reserved => ?_
      turns := fun k e he own active unreserved => ?_ }
  · obtain ⟨there, reason⟩ := h.rests k e he own returning
    exact ⟨(g.entries k e own).mpr there, (g.lastReason (nil he own)).trans reason⟩
  · obtain ⟨unheld, unwanted, reason, dirty, low, high⟩ := h.cancels k e he own reserved
    obtain ⟨low', high'⟩ := g.resleep
    refine ⟨?_, (g.want (nil he own)).trans unwanted, (g.lastReason (nil he own)).trans reason, g.dirty dirty,
      Nat.le_trans low' low, by omega⟩
    rw [Cluster.holdsEntry_eq_false_iff] at *
    intro l
    rw [← Bool.not_eq_true, Cluster.standsOn_iff]
    rintro ⟨f, hf, same⟩
    exact absurd ((Cluster.standsOn_iff.mpr ⟨f, (g.entries l f same).mp hf, same⟩).symm.trans (unheld l)) (by decide)
  · obtain ⟨there, reason, dirty, light, dark, draining⟩ := h.turns k e he own active unreserved
    have want (command : RadioCommand) := Cluster.wants_congr (g.want (nil he own)) command
    simp only [want]
    exact ⟨(g.entries k { e with phase := .returning, reason := .windowClose } own).mpr there,
      (g.lastReason (nil he own)).trans reason, g.dirty dirty, light, dark, draining⟩

theorem Cluster.ClosedOut.before (g : v.ClosedOut u c b) (coherent : w.CoherentBut fun _ => False) (h : w.Steady v c b') :
    w.ClosedOut u c b := by
  have nil {k : Carrier} {e : Entry} (he : e ∈ w.stack k) (own : e.carrier = c) : w.stack c = [] :=
    own ▸ coherent.bare_of_mem he
  refine
    { bare := fun q => g.bare (h.bare q)
      near := fun q => (h.near q).trans (g.near (h.bare q))
      reserved := g.reserved
      returning := g.returning
      rests := fun k e he own returning => ?_
      cancels := fun k e he own reserved => ?_
      turns := fun k e he own active unreserved => ?_ }
  · obtain ⟨there, reason⟩ := g.rests k e ((h.entries k e own).mpr he) own returning
    exact ⟨there, reason.trans (h.lastReason (nil he own))⟩
  · rw [← h.cfg]
    exact g.cancels k e ((h.entries k e own).mpr he) own (h.reserved.trans reserved)
  · have turned := g.turns k e ((h.entries k e own).mpr he) own active (h.reserved.trans unreserved)
    have want (command : RadioCommand) := Cluster.wants_congr (h.want (nil he own)) command
    rwa [h.state (nil he own), want, want] at turned

theorem Cluster.Woken.closedOut {S : Carrier → Bool} (woken : w.Woken v S .windowClose) (h : w.CoherentBut fun _ => False)
    (inside : S c = true) : w.ClosedOut v c 0 := by
  obtain ⟨unreserved, returning, turned⟩ := woken.turnedBack h inside
  have bare (nil : w.stack c = []) : v.stack c = [] := by rw [woken.stack, nil]; rfl
  have near (nil : w.stack c = []) : (w.ctx c).Near (v.ctx c) := by
    cases held : w.holdsEntry c with
    | false =>
      have kept : ¬w.loses S c = true := by simp [Cluster.loses, nil]
      rw [(woken.owners c held).1, if_neg kept]
      rfl
    | true =>
      obtain ⟨k, e, he, own⟩ := Cluster.exists_of_holdsEntry held
      obtain ⟨rests, cancels, turns⟩ := turned k e he own
      by_cases at_rest : e.phase = .returning
      · rw [(rests at_rest).2.1]
        rfl
      · cases reserved : (w.ctx c).reserved with
        | false => rw [(turns at_rest reserved).2.1]; rfl
        | true => rw [(cancels reserved).1]; rfl
  refine
    { bare, near
      reserved := unreserved
      returning := returning
      rests := fun k e he own at_rest => ?_
      cancels := fun k e he own reserved => ?_
      turns := fun k e he own active free => ?_ }
  all_goals obtain ⟨rests, cancels, turns⟩ := turned k e he own
  · obtain ⟨there, ctx, -⟩ := rests at_rest
    exact ⟨there, congrArg Context.lastReason ctx⟩
  · obtain ⟨ctx, unheld, unwanted⟩ := cancels reserved
    rw [ctx]
    exact ⟨unheld, unwanted, rfl, rfl, Nat.le_refl _, Nat.le_refl _⟩
  · obtain ⟨there, ctx, wanted⟩ := turns active free
    rw [ctx]
    exact ⟨there, rfl, rfl, wanted⟩

theorem Cluster.CoherentBut.bare_of_holdsDark (h : w.CoherentBut fun _ => False) (dark : w.HoldsDark c) : w.stack c = [] :=
  h.bare_of_dark dark.1

theorem Cluster.Steady.holdsDark_iff (h : w.Steady v c b) (coherent : w.CoherentBut fun _ => False)
    (coherent' : v.CoherentBut fun _ => False) : v.HoldsDark c ↔ w.HoldsDark c := by
  have active : v.holdsActive c = true ↔ w.holdsActive c = true := by
    rw [coherent'.holdsActive_iff, coherent.holdsActive_iff]
    refine exists_congr fun k => exists_congr fun e => ⟨?_, ?_⟩
    · rintro ⟨he, own, q⟩
      exact ⟨(h.entries k e own).mp he, own, q⟩
    · rintro ⟨he, own, q⟩
      exact ⟨(h.entries k e own).mpr he, own, q⟩
  rw [Cluster.HoldsDark, Cluster.HoldsDark, active]
  refine and_congr_left fun held => ?_
  obtain ⟨k, e, he, own, -⟩ := (coherent.holdsActive_iff c).mp held
  rw [h.state (own ▸ coherent.bare_of_mem he)]

theorem Cluster.Steady.reaches_iff (h : w.Steady v c b) (coherent : w.CoherentBut fun _ => False)
    (coherent' : v.CoherentBut fun _ => False) : x.Reaches m v c ↔ x.Reaches m w c := by
  rw [Window.Reaches, Window.Reaches, h.holdsDark_iff coherent coherent']
  refine and_congr_left fun dark => ?_
  rw [Cluster.wants_congr (h.want (coherent.bare_of_holdsDark dark))]

theorem Cluster.TookMinute.before (g : v.TookMinute u x m c a b) (coherent : w.CoherentBut fun _ => False)
    (coherent' : v.CoherentBut fun _ => False) (h : w.Steady v c b') (night : w.SameNight v c a') :
    w.TookMinute u x m c a b where
  cfg := g.cfg.trans h.cfg
  bare nil := g.bare (h.bare nil)
  near nil := (h.near nil).trans (g.near (h.bare nil))
  closed closes := (g.closed closes).before coherent h
  opened := g.opened
  night rests := ⟨(g.night rests).1.trans night.sleeps, (g.night rests).2.trans night.declined⟩
  stopped rests reaches := (g.stopped rests ((h.reaches_iff coherent coherent').mpr reaches)).before
    (coherent.bare_of_holdsDark reaches.2) h
  steady rests apart := by
    obtain ⟨b, steady⟩ := g.steady rests (mt (h.reaches_iff coherent coherent').mp apart)
    exact ⟨_, h.trans steady⟩

theorem Cluster.TookMinute.after (h : w.TookMinute v x m c a b) (coherent : w.CoherentBut fun _ => False)
    (g : v.Steady u c b') (night : v.SameNight u c a') : w.TookMinute u x m c (a + a') (b + b') where
  cfg := g.cfg.trans h.cfg
  bare nil := g.bare (h.bare nil)
  near nil := (h.near nil).trans (g.near (h.bare nil))
  closed closes := (h.closed closes).after coherent g
  opened opens := by
    obtain ⟨sleeps, declined, light, dark⟩ := h.opened opens
    exact ⟨night.sleeps.trans sleeps, night.declined.trans declined, Nat.le_trans night.light (Nat.add_le_add_right light _),
      Nat.le_trans night.dark (Nat.add_le_add_right dark _)⟩
  night rests := ⟨night.sleeps.trans (h.night rests).1, night.declined.trans (h.night rests).2⟩
  stopped rests reaches := (h.stopped rests reaches).after g
  steady rests apart := by
    obtain ⟨b, steady⟩ := h.steady rests apart
    exact ⟨_, steady.trans g⟩

end

end Sys2Proof.Machine
end

section
/-! One window of a minute event, and the minute event as a whole (section 9.4). -/

namespace Sys2Proof.Machine

/-- The CLOSE of the window x, of number n, at the minute event, and then its OPEN. -/
def Cluster.closeOpen (w : Cluster) (x : Window) (m : MinuteStamp) (n : WindowNo) : Cluster :=
  let w := if x.Closes m then w.closeEffects n else w
  if x.Opens m then w.openEffects n else w

/-- The DEEP_STOP of the window x, of number n, at the minute event, and then the follow-up. -/
def Cluster.stopFollow (w : Cluster) (x : Window) (m : MinuteStamp) (n : WindowNo) : Cluster :=
  let w := if x.Stops m then w.deepStopEffects n else w
  if x.Stops m ∨ x.FollowsUp m then w.followUp n else w

/-- What the window x, of number n, does to the carriers at the minute event. -/
def Cluster.takeWindow (w : Cluster) (x : Window) (m : MinuteStamp) (n : WindowNo) : Cluster :=
  (w.closeOpen x m n).stopFollow x m n

section
variable {s : State} {m : MinuteStamp} {n : WindowNo}

theorem State.closeMatch_if (s : State) (n : WindowNo) (fires : Bool) :
    (let v := if fires then s.closeMatch n else s
     let acts : Prop := (s.window n).phase ≠ .closed ∧ fires = true
     v.cluster = (if acts then s.cluster.closeEffects n else s.cluster) ∧
     (v.window n).phase = if acts then .closed else (s.window n).phase) := by
  dsimp only
  by_cases shut : (s.window n).phase = .closed <;> cases fires <;> simp [State.closeMatch, shut, State.window_setPhase]
  rfl

theorem State.openMatch_if (s : State) (n : WindowNo) (fires : Bool) :
    (let v := if fires then s.openMatch n else s
     let acts : Prop := fires = true ∧ (s.window n).phase = .closed
     v.cluster = (if acts then s.cluster.openEffects n else s.cluster) ∧
     (v.window n).phase = if acts then .opened else (s.window n).phase) := by
  dsimp only
  by_cases shut : (s.window n).phase = .closed <;> cases fires <;> simp [State.openMatch, shut, State.window_setPhase]
  rfl

theorem State.deepStopMatch_if (s : State) (n : WindowNo) (fires : Bool) :
    (let v := if fires then s.deepStopMatch n else s
     let acts : Prop := fires = true ∧ (s.window n).phase = .opened
     v.cluster = (if acts then s.cluster.deepStopEffects n else s.cluster) ∧
     (v.window n).phase = if acts then .shallow else (s.window n).phase) := by
  dsimp only
  by_cases opened : (s.window n).phase = .opened <;> cases fires <;>
    simp [State.deepStopMatch, opened, State.window_setPhase]
  rfl

theorem State.cluster_evalWindow (s : State) (m : MinuteStamp) (n : WindowNo) :
    (s.evalWindow m n).cluster = s.cluster.takeWindow (s.window n) m n := by
  have fires (x : WindowMatch) := Window.fires_iff (s.window n) x m
  unfold State.evalWindow
  dsimp only
  obtain ⟨cluster₁, phase₁⟩ := s.closeMatch_if n ((s.window n).entry.enabled && (s.window n).entry.closeAt.fires m)
  generalize (if ((s.window n).entry.enabled && (s.window n).entry.closeAt.fires m) = true then s.closeMatch n else s) = v₁ at *
  obtain ⟨cluster₂, phase₂⟩ := v₁.openMatch_if n ((s.window n).entry.enabled && (s.window n).entry.openAt.fires m)
  generalize (if ((s.window n).entry.enabled && (s.window n).entry.openAt.fires m) = true then v₁.openMatch n else v₁) = v₂ at *
  obtain ⟨cluster₃, phase₃⟩ := v₂.deepStopMatch_if n ((s.window n).entry.enabled && (s.window n).entry.deepStopAt.fires m)
  generalize (if ((s.window n).entry.enabled && (s.window n).entry.deepStopAt.fires m) = true then v₂.deepStopMatch n else v₂) = v₃ at *
  have followed : (v₃.shallowFollowUp n).cluster = if (v₃.window n).phase = .shallow then v₃.cluster.followUp n else v₃.cluster := by
    unfold State.shallowFollowUp
    split <;> rfl
  simp only [fires] at cluster₁ phase₁ cluster₂ phase₂ cluster₃ phase₃
  have opens : (s.window n).Fires (s.window n).entry.openAt m ∧ (v₁.window n).phase = .closed ↔ (s.window n).Opens m := by
    refine and_congr_right fun _ => ?_
    rw [phase₁, ite_eq_left_iff]
    exact Classical.or_iff_not_imp_right.symm
  have opened : (v₁.window n).phase = .opened ↔ (s.window n).phase = .opened ∧ ¬(s.window n).Closes m := by
    rw [phase₁]
    split
    · next closes => exact ⟨nofun, fun q => absurd closes q.2⟩
    · next rests => exact ⟨fun q => ⟨q, rests⟩, fun q => q.1⟩
  have shallow : (v₁.window n).phase = .shallow ↔ (s.window n).FollowsUp m := by
    rw [phase₁]
    split
    · next closes => exact ⟨nofun, fun q => absurd closes q.2⟩
    · next rests => exact ⟨fun q => ⟨q, rests⟩, fun q => q.1⟩
  simp only [opens] at cluster₂ phase₂
  have stops : (s.window n).Fires (s.window n).entry.deepStopAt m ∧ (v₂.window n).phase = .opened ↔ (s.window n).Stops m := by
    refine and_congr_right fun _ => ?_
    rw [phase₂, ite_eq_left_iff, opened]
    exact Classical.or_iff_not_imp_left.symm
  simp only [stops] at cluster₃ phase₃
  have follows : (v₃.window n).phase = .shallow ↔ (s.window n).Stops m ∨ (s.window n).FollowsUp m := by
    have apart (follows : (s.window n).FollowsUp m) : ¬(s.window n).Opens m := fun q => by
      rcases q.2 with shut | closes
      · exact absurd (shut.symm.trans follows.1) (by decide)
      · exact follows.2 closes
    rw [phase₃, ite_eq_left_iff, ← Classical.or_iff_not_imp_left, phase₂]
    refine or_congr_right ?_
    split
    · next opens => exact ⟨nofun, fun q => absurd opens (apart q)⟩
    · exact shallow
  rw [followed, Cluster.takeWindow, Cluster.closeOpen, Cluster.stopFollow]
  simp only [follows, cluster₃, cluster₂, cluster₁]

end

section
variable {w : Cluster} {x : Window} {m : MinuteStamp} {n : WindowNo} {c : Carrier}

theorem Cluster.mem_darkBound : c ∈ w.darkBound n ↔ (w.ctx c).boundTo n = true ∧ w.HoldsDark c := by
  simp [Cluster.darkBound, Cluster.bound, Cluster.HoldsDark, mem_carriers, and_comm]

theorem Cluster.nodup_darkBound (w : Cluster) (n : WindowNo) : (w.darkBound n).Nodup :=
  ((List.nodup_finRange 256).filter _).filter _

section
variable (h : w.CoherentBut fun _ => False)
include h

theorem Cluster.deepStopEffects_spec (n : WindowNo) (c : Carrier) :
    w.SameNight (w.deepStopEffects n) c 0 ∧
    ((w.ctx c).boundTo n = true → w.HoldsDark c → w.Stopped (w.deepStopEffects n) c) ∧
    (¬((w.ctx c).boundTo n = true ∧ w.HoldsDark c) → w.Steady (w.deepStopEffects n) c 0) := by
  obtain ⟨night, stopped, steady⟩ := Cluster.deepStopAll_spec (c := c) _ (w.nodup_darkBound n) h
    fun _ => Cluster.state_of_mem_darkBound
  exact ⟨night, fun bound dark => stopped (Cluster.mem_darkBound.mpr ⟨bound, dark⟩), fun out => steady (mt Cluster.mem_darkBound.mp out)⟩

theorem Cluster.followUp_spec (n : WindowNo) (c : Carrier) :
    w.SameNight (w.followUp n) c 0 ∧
    ((w.ctx c).boundTo n = true → w.HoldsDark c → w.wants c .warm = false → w.Stopped (w.followUp n) c) ∧
    (¬((w.ctx c).boundTo n = true ∧ w.HoldsDark c ∧ w.wants c .warm = false) → w.Steady (w.followUp n) c 0) := by
  obtain ⟨night, stopped, steady⟩ := Cluster.deepStopAll_spec (c := c) _ ((w.nodup_darkBound n).filter fun d => !w.wants d .warm) h
    fun _ hd => Cluster.state_of_mem_darkBound (List.mem_filter.mp hd).1
  refine ⟨night, fun bound dark free => stopped (List.mem_filter.mpr ⟨Cluster.mem_darkBound.mpr ⟨bound, dark⟩, by rw [free]; rfl⟩),
    fun out => steady fun inside => ?_⟩
  obtain ⟨dark, free⟩ := List.mem_filter.mp inside
  obtain ⟨bound, dark⟩ := Cluster.mem_darkBound.mp dark
  exact out ⟨bound, dark, by simpa using free⟩

theorem Cluster.stopFollow_spec (x : Window) (m : MinuteStamp) (n : WindowNo) (c : Carrier) :
    w.SameNight (w.stopFollow x m n) c 0 ∧
    ((w.ctx c).boundTo n = true → x.Reaches m w c → w.Stopped (w.stopFollow x m n) c) ∧
    (¬((w.ctx c).boundTo n = true ∧ x.Reaches m w c) → w.Steady (w.stopFollow x m n) c 0) := by
  unfold Cluster.stopFollow
  dsimp only
  by_cases stops : x.Stops m
  · rw [if_pos stops, if_pos (.inl stops)]
    have h' := h.deepStopEffects n
    obtain ⟨night, stopped, steady⟩ := Cluster.deepStopEffects_spec h n c
    obtain ⟨night', stopped', steady'⟩ := Cluster.followUp_spec h' n c
    have reaches : x.Reaches m w c ↔ w.HoldsDark c := and_iff_right (.inl stops)
    rw [reaches]
    refine ⟨night.trans night', fun bound dark => ?_, fun out => ?_⟩
    · have first := stopped bound dark
      by_cases again : ((w.deepStopEffects n).ctx c).boundTo n = true ∧ (w.deepStopEffects n).HoldsDark c ∧
          (w.deepStopEffects n).wants c .warm = false
      · exact first.trans (stopped' again.1 again.2.1 again.2.2)
      · exact first.after (steady' again)
    · have first := steady out
      refine first.trans (steady' fun again => out ⟨?_, (first.holdsDark_iff h h').mp again.2.1⟩)
      have bound := again.1
      rwa [Context.boundTo, first.cfg] at bound
  · rw [if_neg stops]
    by_cases follows : x.FollowsUp m
    · rw [if_pos (.inr follows)]
      obtain ⟨night, stopped, steady⟩ := Cluster.followUp_spec h n c
      refine ⟨night, fun bound reaches => stopped bound reaches.2 (reaches.1.resolve_left stops).2, fun out => steady fun inside => ?_⟩
      exact out ⟨inside.1, .inr ⟨follows, inside.2.2⟩, inside.2.1⟩
    · rw [if_neg (not_or.mpr ⟨stops, follows⟩)]
      exact ⟨.of_same rfl, fun _ reaches => absurd reaches.1 (not_or.mpr ⟨stops, fun q => follows q.1⟩), fun _ => .refl ..⟩

theorem Cluster.CoherentBut.closeOpen (x : Window) (m : MinuteStamp) (n : WindowNo) :
    (w.closeOpen x m n).CoherentBut fun _ => False := by
  have closed : (if x.Closes m then w.closeEffects n else w).CoherentBut fun _ => False := by
    split
    · exact h.closeEffects n
    · exact h
  unfold Cluster.closeOpen
  dsimp only
  split
  · exact (Cluster.alike_openEffects _ n).coherentBut closed
  · exact closed

theorem Cluster.takeWindow_away (x : Window) (m : MinuteStamp) (away : (w.ctx c).boundTo n = false) :
    w.Steady (w.takeWindow x m n) c 0 ∧ w.SameNight (w.takeWindow x m n) c 0 := by
  have woken := Cluster.woken_closeEffects h n
  have closed : w.Steady (if x.Closes m then w.closeEffects n else w) c 0 ∧
      w.SameNight (if x.Closes m then w.closeEffects n else w) c 0 := by
    split
    · exact ⟨woken.steady away, woken.sameNight c⟩
    · exact ⟨.refl .., .of_same rfl⟩
  have opened : w.Steady (w.closeOpen x m n) c 0 ∧ w.SameNight (w.closeOpen x m n) c 0 := by
    unfold Cluster.closeOpen
    dsimp only
    split
    · refine ⟨closed.1.trans (Cluster.steady_openEffects ..), closed.2.trans (Cluster.sameNight_openEffects ?_)⟩
      rwa [Context.boundTo, closed.1.cfg]
    · exact closed
  obtain ⟨night, -, steady⟩ := Cluster.stopFollow_spec (h.closeOpen x m n) x m n c
  have away' : ¬((w.closeOpen x m n).ctx c).boundTo n = true := by
    rw [Context.boundTo, opened.1.cfg]
    exact Bool.not_eq_true _ |>.mpr away
  exact ⟨opened.1.trans (steady fun q => away' q.1), opened.2.trans night⟩

theorem Cluster.closedOut_closeOpen {x : Window} {m : MinuteStamp} (closes : x.Closes m) (bound : (w.ctx c).boundTo n = true) :
    w.ClosedOut (w.closeOpen x m n) c 0 := by
  have out := (Cluster.woken_closeEffects h n).closedOut h bound
  unfold Cluster.closeOpen
  dsimp only
  rw [if_pos closes]
  split
  · exact out.after h (Cluster.steady_openEffects ..)
  · exact out

omit h in
theorem Cluster.steady_closeOpen {x : Window} {m : MinuteStamp} (rests : ¬x.Closes m) (n : WindowNo) (c : Carrier) :
    w.Steady (w.closeOpen x m n) c 0 := by
  unfold Cluster.closeOpen
  dsimp only
  rw [if_neg rests]
  split
  · exact Cluster.steady_openEffects ..
  · exact .refl ..

theorem Cluster.night_closeOpen (x : Window) (m : MinuteStamp) (bound : (w.ctx c).boundTo n = true) :
    (let y := (w.closeOpen x m n).ctx c
     y.cfg = (w.ctx c).cfg ∧
     (x.Opens m → y.sleepsTonight = 0 ∧ y.deepenDeclined = false ∧ y.lightMinutes = 0 ∧ y.darkMinutes = 0)) ∧
    (¬x.Opens m → w.SameNight (w.closeOpen x m n) c 0) := by
  have woken := Cluster.woken_closeEffects h n
  have closed : ((if x.Closes m then w.closeEffects n else w).ctx c).cfg = (w.ctx c).cfg ∧
      w.SameNight (if x.Closes m then w.closeEffects n else w) c 0 := by
    split
    · exact ⟨woken.cfg c, woken.sameNight c⟩
    · exact ⟨rfl, .of_same rfl⟩
  unfold Cluster.closeOpen
  dsimp only
  split
  · next opens =>
    refine ⟨⟨(Cluster.steady_openEffects ..).cfg.trans closed.1, fun _ => Cluster.night_openEffects ?_⟩, fun q => absurd opens q⟩
    rwa [Context.boundTo, closed.1]
  · next rests => exact ⟨⟨closed.1, fun q => absurd q rests⟩, fun _ => closed.2⟩

theorem Cluster.tookMinute_takeWindow (x : Window) (m : MinuteStamp) (bound : (w.ctx c).boundTo n = true) :
    w.TookMinute (w.takeWindow x m n) x m c 0 0 := by
  have coherent := h.closeOpen x m n
  obtain ⟨⟨cfg, zero⟩, same⟩ := Cluster.night_closeOpen h x m bound
  have bound' : ((w.closeOpen x m n).ctx c).boundTo n = true := by rwa [Context.boundTo, cfg]
  obtain ⟨night, stopped, steady⟩ := Cluster.stopFollow_spec coherent x m n c
  have opened (opens : x.Opens m) :
      (let y := (w.takeWindow x m n).ctx c
       y.sleepsTonight = 0 ∧ y.deepenDeclined = false ∧ y.lightMinutes ≤ 0 ∧ y.darkMinutes ≤ 0) := by
    obtain ⟨sleeps, declined, light, dark⟩ := zero opens
    exact ⟨night.sleeps.trans sleeps, night.declined.trans declined, light ▸ night.light, dark ▸ night.dark⟩
  have kept (rests : ¬x.Opens m) :
      ((w.takeWindow x m n).ctx c).sleepsTonight = (w.ctx c).sleepsTonight ∧
      ((w.takeWindow x m n).ctx c).deepenDeclined = (w.ctx c).deepenDeclined :=
    ⟨night.sleeps.trans (same rests).sleeps, night.declined.trans (same rests).declined⟩
  have copy : ((w.takeWindow x m n).ctx c).cfg = (w.ctx c).cfg := by
    refine Eq.trans ?_ cfg
    by_cases q : x.Reaches m (w.closeOpen x m n) c
    · exact (stopped bound' q).cfg
    · exact (steady fun r => q r.2).cfg
  by_cases closes : x.Closes m
  · have first := Cluster.closedOut_closeOpen h closes bound
    have rests : ¬(w.closeOpen x m n).HoldsDark c := fun dark => by
      obtain ⟨k, e, he, own, active⟩ := (coherent.holdsActive_iff c).mp dark.2
      exact active (first.returning k e he own)
    have whole := first.after h (steady fun q => rests q.2.2)
    exact
      { cfg := copy
        bare := whole.bare
        near := whole.near
        closed := fun _ => whole
        opened := opened
        night := kept
        stopped := fun q => absurd closes q
        steady := fun q => absurd closes q }
  · have first := Cluster.steady_closeOpen (w := w) closes n c
    have reaches := first.reaches_iff (x := x) (m := m) h coherent
    have stops (q : x.Reaches m w c) : w.Stopped (w.takeWindow x m n) c :=
      (stopped bound' (reaches.mpr q)).before (h.bare_of_holdsDark q.2) first
    have passes (q : ¬x.Reaches m w c) : w.Steady (w.takeWindow x m n) c 0 :=
      first.trans (steady fun r => q (reaches.mp r.2))
    refine
      { cfg := copy
        bare := fun nil => ?_
        near := fun nil => ?_
        closed := fun q => absurd q closes
        opened := opened
        night := kept
        stopped := fun _ => stops
        steady := fun _ q => ⟨0, passes q⟩ }
    all_goals by_cases q : x.Reaches m w c
    · exact (stops q).bare.2
    · exact (passes q).bare nil
    · exact (stops q).near
    · exact (passes q).near nil

end

end

/-! ## The parts of a minute event -/

section
variable {s : State} {m : MinuteStamp} {c : Carrier}

theorem State.steady_minutePart (h : s.Coherent) (m : MinuteStamp) {part : MinutePart}
    (away : ∀ n, part = .window n → (s.ctx c).boundTo n = false) :
    s.cluster.Steady (s.minutePart m part).cluster c ([part].count .countdown) ∧
    s.cluster.SameNight (s.minutePart m part).cluster c ([part].count .accounting) := by
  cases part with
  | window n =>
    have whole := (Cluster.coherent_iff _).mp h.1
    rw [show s.minutePart m (.window n) = s.evalWindow m n from rfl, State.cluster_evalWindow]
    exact Cluster.takeWindow_away whole _ m (away n rfl)
  | countdown =>
    simp only [State.minutePart]
    split
    · exact ⟨.refl .., .of_same rfl⟩
    · exact Cluster.steady_countDown ..
  | accounting =>
    simp only [State.minutePart]
    split
    · exact ⟨.refl .., .of_same rfl⟩
    · exact Cluster.steady_account ..

/-- The parts but that of the carrier's own window. -/
theorem State.steady_minuteParts (m : MinuteStamp) (parts : List MinutePart) (s : State) (h : s.Coherent)
    (away : ∀ n, .window n ∈ parts → (s.ctx c).boundTo n = false) :
    (let t := parts.foldl (fun (v : State) p => v.minutePart m p) s
     t.Coherent ∧ s.cluster.Steady t.cluster c (parts.count .countdown) ∧
     s.cluster.SameNight t.cluster c (parts.count .accounting)) := by
  induction parts generalizing s with
  | nil => exact ⟨h, .refl .., .of_same rfl⟩
  | cons part parts ih =>
    obtain ⟨steady, night⟩ := State.steady_minutePart h m (c := c) fun n q => away n (q ▸ List.mem_cons_self)
    obtain ⟨coherent, steady', night'⟩ := ih (s.minutePart m part) (h.minutePart m part) fun n q => by
      have out := away n (List.mem_cons_of_mem _ q)
      rwa [Context.boundTo, State.ctx, steady.cfg]
    have count (p : MinutePart) : (part :: parts).count p = [part].count p + parts.count p :=
      (congrArg (List.count p) (List.singleton_append (x := part) (l := parts)).symm).trans List.count_append
    rw [count, count]
    exact ⟨coherent, steady.trans steady', night.trans night'⟩

end

end Sys2Proof.Machine
end

section
/-! The windows' actions at a minute event, told of one carrier (section 9.4). -/

namespace Sys2Proof.Machine

theorem State.cluster_minuteEvent {s t : State} {order : List MinutePart} {m : MinuteStamp} {ts : List MinuteStamp}
    (due : s.minutesDue = m :: ts) (done : exec (.minuteEvent order) s = .next t) :
    t.cluster = ((completeParts order).foldl (fun (v : State) p => v.minutePart m p)
      { s with minutesDue := ts }).cluster.notify .minute := by
  rw [exec_minuteEvent due] at done
  generalize (completeParts order).foldl (fun (v : State) p => v.minutePart m p) { s with minutesDue := ts } = u at *
  rw [show u.notify .minute = u.on fun _ => u.cluster.notify .minute from rfl, State.testReleasingEnd_on] at done
  obtain rfl := Host.Outcome.next.inj done
  rfl

section
variable {s t : State} {order : List MinutePart} {m : MinuteStamp} {ts : List MinuteStamp} {c : Carrier}

theorem Cluster.steady_notify (w : Cluster) (note : Notice) (c : Carrier) :
    w.Steady (w.notify note) c 0 ∧ w.SameNight (w.notify note) c 0 :=
  ⟨.of_same (fun _ _ _ => .rfl) id rfl rfl, .of_same rfl⟩

section
variable (coherent : s.Coherent) (due : s.minutesDue = m :: ts) (done : exec (.minuteEvent order) s = .next t)
include coherent due done

/-- A carrier bound to no window. -/
theorem State.steady_minuteEvent (away : ¬∃ n, (s.ctx c).boundTo n = true) :
    (∃ b, s.cluster.Steady t.cluster c b) ∧ ∃ a, s.cluster.SameNight t.cluster c a := by
  have h : ({ s with minutesDue := ts } : State).Coherent := coherent.of_same (.refl _) rfl rfl rfl rfl
  obtain ⟨-, steady, night⟩ := State.steady_minuteParts (c := c) m (completeParts order) _ h fun n _ =>
    Bool.not_eq_true _ |>.mp fun q => away ⟨n, q⟩
  rw [State.cluster_minuteEvent due done]
  exact ⟨⟨_, steady.trans (Cluster.steady_notify ..).1⟩, ⟨_, night.trans (Cluster.steady_notify ..).2⟩⟩

theorem State.tookMinute_minuteEvent {n : WindowNo} (bound : (s.ctx c).boundTo n = true) :
    ∃ a ≤ 1, ∃ b ≤ 1, s.cluster.TookMinute t.cluster (s.window n) m c a b := by
  have h : ({ s with minutesDue := ts } : State).Coherent := coherent.of_same (.refl _) rfl rfl rfl rfl
  have nodup := completeParts_nodup order
  obtain ⟨pre, post, parts⟩ := List.append_of_mem (mem_completeParts order (.window n))
  have ends := State.cluster_minuteEvent due done
  rw [parts, List.foldl_append, List.foldl_cons] at ends
  rw [parts, List.nodup_append, List.nodup_cons] at nodup
  obtain ⟨pre_nodup, ⟨fresh, post_nodup⟩, apart⟩ := nodup
  have before : .window n ∉ pre := fun q => apart _ q _ List.mem_cons_self rfl
  have alone {k : WindowNo} (other : k ≠ n) : (s.ctx c).boundTo k = false := by
    rw [← Bool.not_eq_true, Context.boundTo_iff]
    rintro ⟨-, q⟩
    exact other (Option.some.inj (q.symm.trans (Context.boundTo_iff.mp bound).2))
  have away {parts : List MinutePart} (out : .window n ∉ parts) (k : WindowNo) (inside : .window k ∈ parts) :
      (s.ctx c).boundTo k = false := alone fun q => out (q ▸ inside)
  obtain ⟨coherent₁, steady₁, night₁⟩ := State.steady_minuteParts (c := c) m pre _ h (away before)
  have window := State.window_minuteParts m pre pre_nodup { s with minutesDue := ts } n
  rw [if_neg before] at window
  generalize pre.foldl (fun (v : State) p => v.minutePart m p) { s with minutesDue := ts } = u at *
  have whole := (Cluster.coherent_iff _).mp coherent.1
  have whole₁ := (Cluster.coherent_iff _).mp coherent₁.1
  have coherent₂ := coherent₁.minutePart m (.window n)
  have took : u.cluster.TookMinute (u.minutePart m (.window n)).cluster (s.window n) m c 0 0 := by
    rw [show u.minutePart m (.window n) = u.evalWindow m n from rfl, State.cluster_evalWindow, window]
    refine Cluster.tookMinute_takeWindow whole₁ _ m ?_
    rwa [Context.boundTo, steady₁.cfg]
  generalize u.minutePart m (.window n) = v at *
  obtain ⟨-, steady₂, night₂⟩ := State.steady_minuteParts (c := c) m post v coherent₂ fun k inside => by
    have out := away fresh k inside
    rwa [Context.boundTo, State.ctx, took.cfg, steady₁.cfg]
  have once (p : MinutePart) : post.count p ≤ 1 := by
    rw [post_nodup.count]
    split <;> decide
  have notified := Cluster.steady_notify (post.foldl (fun (v : State) p => v.minutePart m p) v).cluster .minute c
  rw [ends]
  exact ⟨_, by have := once .accounting; omega, _, by have := once .countdown; omega,
    (took.before whole whole₁ steady₁ night₁).after whole (steady₂.trans notified.1) (night₂.trans notified.2)⟩

end

theorem Cluster.CoherentBut.not_returning_of_holdsDark {w : Cluster} (h : w.CoherentBut fun _ => False) (dark : w.HoldsDark c) :
    w.isReturning c = false := by
  obtain ⟨k, e, he, own, active⟩ := (h.holdsActive_iff c).mp dark.2
  rw [← Bool.not_eq_true, h.isReturning_iff]
  rintro ⟨l, f, hf, same, returning⟩
  obtain ⟨-, rfl⟩ := h.entry_unique he hf (own.trans same.symm)
  exact active returning

end

/-- Settles O55: the parts of the minute pass the carrier by, but for its own window. -/
theorem windowActions : Obligations.WindowActions := by
  intro s t order m ts c coherent due done
  have whole := (Cluster.coherent_iff _).mp coherent.1
  refine ⟨fun nil => ?_, fun n present named => ?_, fun rests => ?_⟩
  · by_cases bound : ∃ n, (s.ctx c).boundTo n = true
    · obtain ⟨n, bound⟩ := bound
      obtain ⟨a, -, b, -, took⟩ := State.tookMinute_minuteEvent coherent due done bound
      exact took.near nil
    · obtain ⟨⟨b, steady⟩, -⟩ := State.steady_minuteEvent (c := c) coherent due done bound
      exact steady.near nil
  · obtain ⟨a, a_le, b, b_le, took⟩ := State.tookMinute_minuteEvent coherent due done (Context.boundTo_iff.mpr ⟨present, named⟩)
    have reaches {k : Carrier} {e : Entry} (dark : (s.ctx c).state = .dark) (he : e ∈ s.stack k) (own : e.carrier = c)
        (active : e.phase ≠ .returning) : s.cluster.HoldsDark c :=
      ⟨dark, (whole.holdsActive_iff c).mpr ⟨k, e, he, own, active⟩⟩
    refine ⟨fun closes => ?_, fun opens => ?_, fun rests => took.night rests, fun rests => ?_,
      fun rests dark k e he own active => ?_, fun rests apart => ?_⟩
    · have out := took.closed closes
      refine ⟨out.reserved, out.returning, fun k e he own => ⟨out.rests k e he own, fun reserved => ?_, out.turns k e he own⟩⟩
      obtain ⟨unheld, unwanted, reason, dirty, low, high⟩ := out.cancels k e he own reserved
      exact ⟨unheld, unwanted, reason, dirty, by
        rw [State.ctx, State.ctx]
        omega⟩
    · obtain ⟨sleeps, declined, light, dark⟩ := took.opened opens
      exact ⟨sleeps, declined, Nat.le_trans light a_le, Nat.le_trans dark a_le⟩
    · by_cases q : (s.window n).Reaches m s.cluster c
      · exact (took.stopped rests q).reserved
      · obtain ⟨_, steady⟩ := took.steady rests q
        exact steady.reserved
    · have stopped (q : (s.window n).Stops m ∨ (s.window n).FollowsUp m ∧ s.cluster.wants c .warm = false) :=
        took.stopped rests ⟨q, reaches dark he own active⟩
      have told (q : s.cluster.Stopped t.cluster c) := And.intro (q.entries k e he own) (And.intro q.noted.1 (And.intro q.noted.2 q.warm))
      exact ⟨fun stops => told (stopped (.inl stops)), fun follows free => told (stopped (.inr ⟨follows, free⟩))⟩
    · obtain ⟨_, steady⟩ := took.steady rests fun q => apart ⟨q.1, q.2.1, whole.not_returning_of_holdsDark q.2⟩
      exact ⟨steady.entries, fun nil => ⟨steady.lastReason nil, steady.want nil⟩⟩
  · obtain ⟨⟨b, steady⟩, sleeps, declined⟩ : (∃ b, s.cluster.Steady t.cluster c b) ∧
        (t.ctx c).sleepsTonight = (s.ctx c).sleepsTonight ∧ (t.ctx c).deepenDeclined = (s.ctx c).deepenDeclined := by
      by_cases bound : ∃ n, (s.ctx c).boundTo n = true
      · obtain ⟨n, bound⟩ := bound
        obtain ⟨present, named⟩ := Context.boundTo_iff.mp bound
        have idle := rests present n named
        simp only [Window.Acts, not_or] at idle
        obtain ⟨closes, opens, stops, follows⟩ := idle
        obtain ⟨a, -, b, -, took⟩ := State.tookMinute_minuteEvent coherent due done bound
        exact ⟨took.steady closes fun q => q.1.elim stops fun r => follows r.1, took.night opens⟩
      · obtain ⟨steady, a, night⟩ := State.steady_minuteEvent (c := c) coherent due done bound
        exact ⟨steady, night.sleeps, night.declined⟩
    exact ⟨⟨steady.entries, fun nil => ⟨steady.lastReason nil, steady.want nil⟩⟩, steady.reserved, sleeps, declined⟩

end Sys2Proof.Machine
end
